-- ==== Sys2Proof/Word.lean ====
section
/-! DEFINITION. Words of the UltraSPARC Architecture 2007 and the names of register and field numbers (00_scope.md R20 to R29). -/

namespace Sys2Proof

/-- A byte (20_memory.md R200). -/
abbrev Byte := BitVec 8
/-- A 16-bit halfword. -/
abbrev Half := BitVec 16
/-- A 32-bit word: an instruction word (30_encoding.md R330) or a single-precision F register word. -/
abbrev Word32 := BitVec 32
/-- A 64-bit extended word: an integer register, an address, a double-precision value. -/
abbrev Word64 := BitVec 64

/-- A 5-bit register field: an R register number (30_encoding.md R344) or an F register field (R345). -/
abbrev RegNum := BitVec 5
/-- An address space identifier: 8 bits, all decoded (20_memory.md R200). -/
abbrev Asi := BitVec 8
/-- One of the four floating-point condition codes of FSR, `fcc0` to `fcc3` (30_encoding.md R355). -/
abbrev FccNum := BitVec 2

/-- A Bool as one bit. -/
def bit (b : Bool) : BitVec 1 := BitVec.ofBool b

end Sys2Proof
end

