-- ==== Sys2Proof/Machine/Asi.lean ====
section
/-! DEFINITION. The ASI map: what each of the 256 address space identifiers selects (20_memory.md R210 to R224). -/

namespace Sys2Proof.Machine

/-- How an ASI treats the address it comes with (20_memory.md R213). -/
inductive AsiKind where
  /-- The address is a virtual address and the MMU translates it. -/
  | translating
  /-- The address is a real address. -/
  | real
  /-- The address selects an internal register. -/
  | nontranslating
  deriving DecidableEq, Repr

/-- The context a translating ASI selects (20_memory.md R281). -/
inductive AsiContext where
  | primary
  | secondary
  | nucleus
  deriving DecidableEq, Repr

/-- The Class column of 20_memory.md R214: the set of instructions that may use the ASI is R215's. -/
inductive AsiClass where
  | normal
  /-- ASI_REAL_IO and its little-endian form (R218). -/
  | io
  /-- The nonfaulting-load ASIs (R223). -/
  | noFault
  /-- The twin-extended-word ASIs (R219). -/
  | twinx
  /-- The block-transfer ASIs for load and store (R220). -/
  | block
  /-- The block-commit ASIs, store only (R220). -/
  | commit
  /-- The partial-store ASIs (R221). -/
  | pst
  /-- The short floating-point ASIs (R222). -/
  | short
  /-- Internal registers: scratchpad, context IDs, interrupt queues (R225 to R227). -/
  | reg
  /-- Implementation dependent: none is implemented (R224; 92_eei_decisions.md D34). -/
  | impl
  /-- Reserved (R224). -/
  | reserved
  /-- Reserved for hyperprivileged mode (R212, R224). -/
  | hyper
  deriving DecidableEq, Repr

/-- A row of the ASI map (20_memory.md R214). -/
structure AsiInfo where
  kind : AsiKind
  /-- Read only when `kind` is `translating`. -/
  ctx : AsiContext
  /-- The End column: little-endian before `TTE.ie` is applied (R236). -/
  little : Bool
  cls : AsiClass
  /-- The access is checked as if made from nonprivileged mode (R216). -/
  asIfUser : Bool
  deriving DecidableEq, Repr

/-- A row for an ASI nothing of this machine may use: no access gets past its class. -/
def AsiInfo.unusable (cls : AsiClass) : AsiInfo := ⟨.nontranslating, .primary, false, cls, false⟩

/-- The ASI map, 20_memory.md R214 row by row. -/
def asiInfo (asi : Asi) : AsiInfo :=
  match asi.toNat with
  | 0x04 => ⟨.translating, .nucleus, false, .normal, false⟩ -- ASI_NUCLEUS
  | 0x0C => ⟨.translating, .nucleus, true, .normal, false⟩ -- ASI_NUCLEUS_LITTLE
  | 0x10 => ⟨.translating, .primary, false, .normal, true⟩ -- ASI_AS_IF_USER_PRIMARY
  | 0x11 => ⟨.translating, .secondary, false, .normal, true⟩ -- ASI_AS_IF_USER_SECONDARY
  | 0x14 => ⟨.real, .primary, false, .normal, false⟩ -- ASI_REAL
  | 0x15 => ⟨.real, .primary, false, .io, false⟩ -- ASI_REAL_IO
  | 0x16 => ⟨.translating, .primary, false, .block, true⟩ -- ASI_BLOCK_AS_IF_USER_PRIMARY
  | 0x17 => ⟨.translating, .secondary, false, .block, true⟩ -- ASI_BLOCK_AS_IF_USER_SECONDARY
  | 0x18 => ⟨.translating, .primary, true, .normal, true⟩ -- ASI_AS_IF_USER_PRIMARY_LITTLE
  | 0x19 => ⟨.translating, .secondary, true, .normal, true⟩ -- ASI_AS_IF_USER_SECONDARY_LITTLE
  | 0x1C => ⟨.real, .primary, true, .normal, false⟩ -- ASI_REAL_LITTLE
  | 0x1D => ⟨.real, .primary, true, .io, false⟩ -- ASI_REAL_IO_LITTLE
  | 0x1E => ⟨.translating, .primary, true, .block, true⟩ -- ASI_BLOCK_AS_IF_USER_PRIMARY_LITTLE
  | 0x1F => ⟨.translating, .secondary, true, .block, true⟩ -- ASI_BLOCK_AS_IF_USER_SECONDARY_LITTLE
  | 0x20 => ⟨.nontranslating, .primary, false, .reg, false⟩ -- ASI_SCRATCHPAD
  | 0x21 => ⟨.nontranslating, .primary, false, .reg, false⟩ -- ASI_MMU_CONTEXTID
  | 0x22 => ⟨.translating, .primary, false, .twinx, true⟩ -- ASI_TWINX_AS_IF_USER_PRIMARY
  | 0x23 => ⟨.translating, .secondary, false, .twinx, true⟩ -- ASI_TWINX_AS_IF_USER_SECONDARY
  | 0x25 => ⟨.nontranslating, .primary, false, .reg, false⟩ -- ASI_QUEUE
  | 0x26 => ⟨.real, .primary, false, .twinx, false⟩ -- ASI_TWINX_REAL
  | 0x27 => ⟨.translating, .nucleus, false, .twinx, false⟩ -- ASI_TWINX_NUCLEUS
  | 0x2A => ⟨.translating, .primary, true, .twinx, true⟩ -- ASI_TWINX_AS_IF_USER_PRIMARY_LITTLE
  | 0x2B => ⟨.translating, .secondary, true, .twinx, true⟩ -- ASI_TWINX_AS_IF_USER_SECONDARY_LITTLE
  | 0x2E => ⟨.real, .primary, true, .twinx, false⟩ -- ASI_TWINX_REAL_LITTLE
  | 0x2F => ⟨.translating, .nucleus, true, .twinx, false⟩ -- ASI_TWINX_NUCLEUS_LITTLE
  | 0x80 => ⟨.translating, .primary, false, .normal, false⟩ -- ASI_PRIMARY
  | 0x81 => ⟨.translating, .secondary, false, .normal, false⟩ -- ASI_SECONDARY
  | 0x82 => ⟨.translating, .primary, false, .noFault, false⟩ -- ASI_PRIMARY_NO_FAULT
  | 0x83 => ⟨.translating, .secondary, false, .noFault, false⟩ -- ASI_SECONDARY_NO_FAULT
  | 0x88 => ⟨.translating, .primary, true, .normal, false⟩ -- ASI_PRIMARY_LITTLE
  | 0x89 => ⟨.translating, .secondary, true, .normal, false⟩ -- ASI_SECONDARY_LITTLE
  | 0x8A => ⟨.translating, .primary, true, .noFault, false⟩ -- ASI_PRIMARY_NO_FAULT_LITTLE
  | 0x8B => ⟨.translating, .secondary, true, .noFault, false⟩ -- ASI_SECONDARY_NO_FAULT_LITTLE
  | 0xC0 => ⟨.translating, .primary, false, .pst, false⟩ -- ASI_PST8_PRIMARY
  | 0xC1 => ⟨.translating, .secondary, false, .pst, false⟩ -- ASI_PST8_SECONDARY
  | 0xC2 => ⟨.translating, .primary, false, .pst, false⟩ -- ASI_PST16_PRIMARY
  | 0xC3 => ⟨.translating, .secondary, false, .pst, false⟩ -- ASI_PST16_SECONDARY
  | 0xC4 => ⟨.translating, .primary, false, .pst, false⟩ -- ASI_PST32_PRIMARY
  | 0xC5 => ⟨.translating, .secondary, false, .pst, false⟩ -- ASI_PST32_SECONDARY
  | 0xC8 => ⟨.translating, .primary, true, .pst, false⟩ -- ASI_PST8_PRIMARY_LITTLE
  | 0xC9 => ⟨.translating, .secondary, true, .pst, false⟩ -- ASI_PST8_SECONDARY_LITTLE
  | 0xCA => ⟨.translating, .primary, true, .pst, false⟩ -- ASI_PST16_PRIMARY_LITTLE
  | 0xCB => ⟨.translating, .secondary, true, .pst, false⟩ -- ASI_PST16_SECONDARY_LITTLE
  | 0xCC => ⟨.translating, .primary, true, .pst, false⟩ -- ASI_PST32_PRIMARY_LITTLE
  | 0xCD => ⟨.translating, .secondary, true, .pst, false⟩ -- ASI_PST32_SECONDARY_LITTLE
  | 0xD0 => ⟨.translating, .primary, false, .short, false⟩ -- ASI_FL8_PRIMARY
  | 0xD1 => ⟨.translating, .secondary, false, .short, false⟩ -- ASI_FL8_SECONDARY
  | 0xD2 => ⟨.translating, .primary, false, .short, false⟩ -- ASI_FL16_PRIMARY
  | 0xD3 => ⟨.translating, .secondary, false, .short, false⟩ -- ASI_FL16_SECONDARY
  | 0xD8 => ⟨.translating, .primary, true, .short, false⟩ -- ASI_FL8_PRIMARY_LITTLE
  | 0xD9 => ⟨.translating, .secondary, true, .short, false⟩ -- ASI_FL8_SECONDARY_LITTLE
  | 0xDA => ⟨.translating, .primary, true, .short, false⟩ -- ASI_FL16_PRIMARY_LITTLE
  | 0xDB => ⟨.translating, .secondary, true, .short, false⟩ -- ASI_FL16_SECONDARY_LITTLE
  | 0xE0 => ⟨.translating, .primary, false, .commit, false⟩ -- ASI_BLOCK_COMMIT_PRIMARY
  | 0xE1 => ⟨.translating, .secondary, false, .commit, false⟩ -- ASI_BLOCK_COMMIT_SECONDARY
  | 0xE2 => ⟨.translating, .primary, false, .twinx, false⟩ -- ASI_TWINX_PRIMARY
  | 0xE3 => ⟨.translating, .secondary, false, .twinx, false⟩ -- ASI_TWINX_SECONDARY
  | 0xEA => ⟨.translating, .primary, true, .twinx, false⟩ -- ASI_TWINX_PRIMARY_LITTLE
  | 0xEB => ⟨.translating, .secondary, true, .twinx, false⟩ -- ASI_TWINX_SECONDARY_LITTLE
  | 0xF0 => ⟨.translating, .primary, false, .block, false⟩ -- ASI_BLOCK_PRIMARY
  | 0xF1 => ⟨.translating, .secondary, false, .block, false⟩ -- ASI_BLOCK_SECONDARY
  | 0xF8 => ⟨.translating, .primary, true, .block, false⟩ -- ASI_BLOCK_PRIMARY_LITTLE
  | 0xF9 => ⟨.translating, .secondary, true, .block, false⟩ -- ASI_BLOCK_SECONDARY_LITTLE
  | n =>
    if 0x30 ≤ n ∧ n ≤ 0x7F then .unusable .hyper
    else if (0x84 ≤ n ∧ n ≤ 0x87) ∨ (0x8C ≤ n ∧ n ≤ 0xBF) then .unusable .reserved
    else .unusable .impl

/-- The class of an ASI (20_memory.md R214, R215). -/
def asiClass (asi : Asi) : AsiClass := (asiInfo asi).cls

/-- Whether the ASI is one of the four NO_FAULT ASIs (20_memory.md R223). -/
def isNoFault (asi : Asi) : Bool := asiClass asi == .noFault

/-- The classes of step 3 of 20_memory.md R300: with an instruction they are not meant for, no alignment exception is generated. -/
def AsiClass.isSpecial (c : AsiClass) : Bool :=
  match c with
  | .twinx | .block | .commit | .pst | .short => true
  | .normal | .io | .noFault | .reg | .impl | .reserved | .hyper => false

end Sys2Proof.Machine
end

