-- ==== Sys2Proof/Syntax.lean ====
section
/-! DEFINITION. The instructions of the UltraSPARC Architecture 2007: one constructor per row of spec/opcode_table.json. Fields hold what the instruction word holds (30_encoding.md R330 to R345). -/

namespace Sys2Proof

/-- The second operand of 30_encoding.md R340: register `rs2` (`i = 0`) or an immediate of `n` bits (`i = 1`). How the immediate is extended is the instruction's (R342). -/
inductive RegOrImm (n : Nat) where
  | reg (rs2 : RegNum)
  | imm (value : BitVec n)
  deriving DecidableEq, Repr

/-- The address operand and ASI source of an alternate-space access (20_memory.md R204, R210). -/
inductive AsiOperand where
  /-- `i = 0`: the address uses `rs2`, the ASI is `imm_asi`. -/
  | immAsi (rs2 : RegNum) (asi : Asi)
  /-- `i = 1`: the address uses `simm13`, the ASI is the ASI register's. -/
  | asiReg (simm13 : BitVec 13)
  deriving DecidableEq, Repr

/-- The ASI source of CASA and CASXA, whose address is `R[rs1]` alone (20_memory.md R210). -/
inductive CasAsi where
  | immAsi (asi : Asi)
  | asiReg
  deriving DecidableEq, Repr

/-- The integer condition code an instruction tests (30_encoding.md R353, R354). -/
inductive IntCc where
  | icc
  | xcc
  deriving DecidableEq, Repr

/-- The instructions, in the order of spec/opcode_table.json. A word whose meaning depends on the ASI register (`i = 1` with the LDTWA, LDDFA or STDFA opcode) is the LDTWA, LDDFA or STDFA constructor (30_encoding.md R346). -/
inductive Instr where
  /-- ADD, R404. -/
  | add (rd rs1 : RegNum) (op2 : RegOrImm 13)
  /-- AND, R408. -/
  | and (rd rs1 : RegNum) (op2 : RegOrImm 13)
  /-- OR, R412. -/
  | or (rd rs1 : RegNum) (op2 : RegOrImm 13)
  /-- XOR, R416. -/
  | xor (rd rs1 : RegNum) (op2 : RegOrImm 13)
  /-- SUB, R420. -/
  | sub (rd rs1 : RegNum) (op2 : RegOrImm 13)
  /-- ANDN, R410. -/
  | andn (rd rs1 : RegNum) (op2 : RegOrImm 13)
  /-- ORN, R414. -/
  | orn (rd rs1 : RegNum) (op2 : RegOrImm 13)
  /-- XNOR, R418. -/
  | xnor (rd rs1 : RegNum) (op2 : RegOrImm 13)
  /-- ADDC, R406. -/
  | addc (rd rs1 : RegNum) (op2 : RegOrImm 13)
  /-- MULX, R439. -/
  | mulx (rd rs1 : RegNum) (op2 : RegOrImm 13)
  /-- UMUL, R442. -/
  | umul (rd rs1 : RegNum) (op2 : RegOrImm 13)
  /-- SMUL, R444. -/
  | smul (rd rs1 : RegNum) (op2 : RegOrImm 13)
  /-- SUBC, R430. -/
  | subc (rd rs1 : RegNum) (op2 : RegOrImm 13)
  /-- UDIVX, R441. -/
  | udivx (rd rs1 : RegNum) (op2 : RegOrImm 13)
  /-- UDIV, R446. -/
  | udiv (rd rs1 : RegNum) (op2 : RegOrImm 13)
  /-- SDIV, R448. -/
  | sdiv (rd rs1 : RegNum) (op2 : RegOrImm 13)
  /-- ADDcc, R405. -/
  | addcc (rd rs1 : RegNum) (op2 : RegOrImm 13)
  /-- ANDcc, R409. -/
  | andcc (rd rs1 : RegNum) (op2 : RegOrImm 13)
  /-- ORcc, R413. -/
  | orcc (rd rs1 : RegNum) (op2 : RegOrImm 13)
  /-- XORcc, R417. -/
  | xorcc (rd rs1 : RegNum) (op2 : RegOrImm 13)
  /-- SUBcc, R421. -/
  | subcc (rd rs1 : RegNum) (op2 : RegOrImm 13)
  /-- ANDNcc, R411. -/
  | andncc (rd rs1 : RegNum) (op2 : RegOrImm 13)
  /-- ORNcc, R415. -/
  | orncc (rd rs1 : RegNum) (op2 : RegOrImm 13)
  /-- XNORcc, R419. -/
  | xnorcc (rd rs1 : RegNum) (op2 : RegOrImm 13)
  /-- ADDCcc, R407. -/
  | addccc (rd rs1 : RegNum) (op2 : RegOrImm 13)
  /-- UMULcc, R443. -/
  | umulcc (rd rs1 : RegNum) (op2 : RegOrImm 13)
  /-- SMULcc, R445. -/
  | smulcc (rd rs1 : RegNum) (op2 : RegOrImm 13)
  /-- SUBCcc, R431. -/
  | subccc (rd rs1 : RegNum) (op2 : RegOrImm 13)
  /-- UDIVcc, R447. -/
  | udivcc (rd rs1 : RegNum) (op2 : RegOrImm 13)
  /-- SDIVcc, R449. -/
  | sdivcc (rd rs1 : RegNum) (op2 : RegOrImm 13)
  /-- TADDcc, R452. -/
  | taddcc (rd rs1 : RegNum) (op2 : RegOrImm 13)
  /-- TSUBcc, R453. -/
  | tsubcc (rd rs1 : RegNum) (op2 : RegOrImm 13)
  /-- TADDccTV, R454. -/
  | taddcctv (rd rs1 : RegNum) (op2 : RegOrImm 13)
  /-- TSUBccTV, R455. -/
  | tsubcctv (rd rs1 : RegNum) (op2 : RegOrImm 13)
  /-- MULScc, R450. -/
  | mulscc (rd rs1 : RegNum) (op2 : RegOrImm 13)
  /-- SDIVX, R440. -/
  | sdivx (rd rs1 : RegNum) (op2 : RegOrImm 13)
  /-- SLL, R433. -/
  | sll (rd rs1 : RegNum) (count : RegOrImm 5)
  /-- SRL, R434. -/
  | srl (rd rs1 : RegNum) (count : RegOrImm 5)
  /-- SRA, R435. -/
  | sra (rd rs1 : RegNum) (count : RegOrImm 5)
  /-- SLLX, R436. -/
  | sllx (rd rs1 : RegNum) (count : RegOrImm 6)
  /-- SRLX, R437. -/
  | srlx (rd rs1 : RegNum) (count : RegOrImm 6)
  /-- SRAX, R438. -/
  | srax (rd rs1 : RegNum) (count : RegOrImm 6)
  /-- SETHI, R456. -/
  | sethi (rd : RegNum) (imm22 : BitVec 22)
  /-- NOP, R457. -/
  | nop
  /-- POPC, R458. -/
  | popc (rd : RegNum) (op2 : RegOrImm 13)
  /-- MOVA, R460. -/
  | mova (rd : RegNum) (cc : IntCc) (op2 : RegOrImm 11)
  /-- MOVN, R461. -/
  | movn (rd : RegNum) (cc : IntCc) (op2 : RegOrImm 11)
  /-- MOVNE, R462. -/
  | movne (rd : RegNum) (cc : IntCc) (op2 : RegOrImm 11)
  /-- MOVE, R463. -/
  | move (rd : RegNum) (cc : IntCc) (op2 : RegOrImm 11)
  /-- MOVG, R464. -/
  | movg (rd : RegNum) (cc : IntCc) (op2 : RegOrImm 11)
  /-- MOVLE, R465. -/
  | movle (rd : RegNum) (cc : IntCc) (op2 : RegOrImm 11)
  /-- MOVGE, R466. -/
  | movge (rd : RegNum) (cc : IntCc) (op2 : RegOrImm 11)
  /-- MOVL, R467. -/
  | movl (rd : RegNum) (cc : IntCc) (op2 : RegOrImm 11)
  /-- MOVGU, R468. -/
  | movgu (rd : RegNum) (cc : IntCc) (op2 : RegOrImm 11)
  /-- MOVLEU, R469. -/
  | movleu (rd : RegNum) (cc : IntCc) (op2 : RegOrImm 11)
  /-- MOVCC, R470. -/
  | movcc (rd : RegNum) (cc : IntCc) (op2 : RegOrImm 11)
  /-- MOVCS, R471. -/
  | movcs (rd : RegNum) (cc : IntCc) (op2 : RegOrImm 11)
  /-- MOVPOS, R472. -/
  | movpos (rd : RegNum) (cc : IntCc) (op2 : RegOrImm 11)
  /-- MOVNEG, R473. -/
  | movneg (rd : RegNum) (cc : IntCc) (op2 : RegOrImm 11)
  /-- MOVVC, R474. -/
  | movvc (rd : RegNum) (cc : IntCc) (op2 : RegOrImm 11)
  /-- MOVVS, R475. -/
  | movvs (rd : RegNum) (cc : IntCc) (op2 : RegOrImm 11)
  /-- MOVFA, R476. -/
  | movfa (rd : RegNum) (fcc : FccNum) (op2 : RegOrImm 11)
  /-- MOVFN, R477. -/
  | movfn (rd : RegNum) (fcc : FccNum) (op2 : RegOrImm 11)
  /-- MOVFU, R478. -/
  | movfu (rd : RegNum) (fcc : FccNum) (op2 : RegOrImm 11)
  /-- MOVFG, R479. -/
  | movfg (rd : RegNum) (fcc : FccNum) (op2 : RegOrImm 11)
  /-- MOVFUG, R480. -/
  | movfug (rd : RegNum) (fcc : FccNum) (op2 : RegOrImm 11)
  /-- MOVFL, R481. -/
  | movfl (rd : RegNum) (fcc : FccNum) (op2 : RegOrImm 11)
  /-- MOVFUL, R482. -/
  | movful (rd : RegNum) (fcc : FccNum) (op2 : RegOrImm 11)
  /-- MOVFLG, R483. -/
  | movflg (rd : RegNum) (fcc : FccNum) (op2 : RegOrImm 11)
  /-- MOVFNE, R484. -/
  | movfne (rd : RegNum) (fcc : FccNum) (op2 : RegOrImm 11)
  /-- MOVFE, R485. -/
  | movfe (rd : RegNum) (fcc : FccNum) (op2 : RegOrImm 11)
  /-- MOVFUE, R486. -/
  | movfue (rd : RegNum) (fcc : FccNum) (op2 : RegOrImm 11)
  /-- MOVFGE, R487. -/
  | movfge (rd : RegNum) (fcc : FccNum) (op2 : RegOrImm 11)
  /-- MOVFUGE, R488. -/
  | movfuge (rd : RegNum) (fcc : FccNum) (op2 : RegOrImm 11)
  /-- MOVFLE, R489. -/
  | movfle (rd : RegNum) (fcc : FccNum) (op2 : RegOrImm 11)
  /-- MOVFULE, R490. -/
  | movfule (rd : RegNum) (fcc : FccNum) (op2 : RegOrImm 11)
  /-- MOVFO, R491. -/
  | movfo (rd : RegNum) (fcc : FccNum) (op2 : RegOrImm 11)
  /-- MOVRZ, R493. -/
  | movrz (rd rs1 : RegNum) (op2 : RegOrImm 10)
  /-- MOVRLEZ, R494. -/
  | movrlez (rd rs1 : RegNum) (op2 : RegOrImm 10)
  /-- MOVRLZ, R495. -/
  | movrlz (rd rs1 : RegNum) (op2 : RegOrImm 10)
  /-- MOVRNZ, R496. -/
  | movrnz (rd rs1 : RegNum) (op2 : RegOrImm 10)
  /-- MOVRGZ, R497. -/
  | movrgz (rd rs1 : RegNum) (op2 : RegOrImm 10)
  /-- MOVRGEZ, R498. -/
  | movrgez (rd rs1 : RegNum) (op2 : RegOrImm 10)
  /-- BA, R602. -/
  | ba (a : Bool) (disp22 : BitVec 22)
  /-- BN, R603. -/
  | bn (a : Bool) (disp22 : BitVec 22)
  /-- BNE, R604. -/
  | bne (a : Bool) (disp22 : BitVec 22)
  /-- BE, R605. -/
  | be (a : Bool) (disp22 : BitVec 22)
  /-- BG, R606. -/
  | bg (a : Bool) (disp22 : BitVec 22)
  /-- BLE, R607. -/
  | ble (a : Bool) (disp22 : BitVec 22)
  /-- BGE, R608. -/
  | bge (a : Bool) (disp22 : BitVec 22)
  /-- BL, R609. -/
  | bl (a : Bool) (disp22 : BitVec 22)
  /-- BGU, R610. -/
  | bgu (a : Bool) (disp22 : BitVec 22)
  /-- BLEU, R611. -/
  | bleu (a : Bool) (disp22 : BitVec 22)
  /-- BCC, R612. -/
  | bcc (a : Bool) (disp22 : BitVec 22)
  /-- BCS, R613. -/
  | bcs (a : Bool) (disp22 : BitVec 22)
  /-- BPOS, R614. -/
  | bpos (a : Bool) (disp22 : BitVec 22)
  /-- BNEG, R615. -/
  | bneg (a : Bool) (disp22 : BitVec 22)
  /-- BVC, R616. -/
  | bvc (a : Bool) (disp22 : BitVec 22)
  /-- BVS, R617. -/
  | bvs (a : Bool) (disp22 : BitVec 22)
  /-- BPA, R621. -/
  | bpa (a : Bool) (cc : IntCc) (p : Bool) (disp19 : BitVec 19)
  /-- BPN, R622. -/
  | bpn (a : Bool) (cc : IntCc) (p : Bool) (disp19 : BitVec 19)
  /-- BPNE, R623. -/
  | bpne (a : Bool) (cc : IntCc) (p : Bool) (disp19 : BitVec 19)
  /-- BPE, R624. -/
  | bpe (a : Bool) (cc : IntCc) (p : Bool) (disp19 : BitVec 19)
  /-- BPG, R625. -/
  | bpg (a : Bool) (cc : IntCc) (p : Bool) (disp19 : BitVec 19)
  /-- BPLE, R626. -/
  | bple (a : Bool) (cc : IntCc) (p : Bool) (disp19 : BitVec 19)
  /-- BPGE, R627. -/
  | bpge (a : Bool) (cc : IntCc) (p : Bool) (disp19 : BitVec 19)
  /-- BPL, R628. -/
  | bpl (a : Bool) (cc : IntCc) (p : Bool) (disp19 : BitVec 19)
  /-- BPGU, R629. -/
  | bpgu (a : Bool) (cc : IntCc) (p : Bool) (disp19 : BitVec 19)
  /-- BPLEU, R630. -/
  | bpleu (a : Bool) (cc : IntCc) (p : Bool) (disp19 : BitVec 19)
  /-- BPCC, R631. -/
  | bpcc (a : Bool) (cc : IntCc) (p : Bool) (disp19 : BitVec 19)
  /-- BPCS, R632. -/
  | bpcs (a : Bool) (cc : IntCc) (p : Bool) (disp19 : BitVec 19)
  /-- BPPOS, R633. -/
  | bppos (a : Bool) (cc : IntCc) (p : Bool) (disp19 : BitVec 19)
  /-- BPNEG, R634. -/
  | bpneg (a : Bool) (cc : IntCc) (p : Bool) (disp19 : BitVec 19)
  /-- BPVC, R635. -/
  | bpvc (a : Bool) (cc : IntCc) (p : Bool) (disp19 : BitVec 19)
  /-- BPVS, R636. -/
  | bpvs (a : Bool) (cc : IntCc) (p : Bool) (disp19 : BitVec 19)
  /-- BRZ, R641. -/
  | brz (a : Bool) (d16 : BitVec 16) (p : Bool) (rs1 : RegNum)
  /-- BRLEZ, R642. -/
  | brlez (a : Bool) (d16 : BitVec 16) (p : Bool) (rs1 : RegNum)
  /-- BRLZ, R643. -/
  | brlz (a : Bool) (d16 : BitVec 16) (p : Bool) (rs1 : RegNum)
  /-- BRNZ, R644. -/
  | brnz (a : Bool) (d16 : BitVec 16) (p : Bool) (rs1 : RegNum)
  /-- BRGZ, R645. -/
  | brgz (a : Bool) (d16 : BitVec 16) (p : Bool) (rs1 : RegNum)
  /-- BRGEZ, R646. -/
  | brgez (a : Bool) (d16 : BitVec 16) (p : Bool) (rs1 : RegNum)
  /-- FBA, R651. -/
  | fba (a : Bool) (disp22 : BitVec 22)
  /-- FBN, R652. -/
  | fbn (a : Bool) (disp22 : BitVec 22)
  /-- FBU, R653. -/
  | fbu (a : Bool) (disp22 : BitVec 22)
  /-- FBG, R654. -/
  | fbg (a : Bool) (disp22 : BitVec 22)
  /-- FBUG, R655. -/
  | fbug (a : Bool) (disp22 : BitVec 22)
  /-- FBL, R656. -/
  | fbl (a : Bool) (disp22 : BitVec 22)
  /-- FBUL, R657. -/
  | fbul (a : Bool) (disp22 : BitVec 22)
  /-- FBLG, R658. -/
  | fblg (a : Bool) (disp22 : BitVec 22)
  /-- FBNE, R659. -/
  | fbne (a : Bool) (disp22 : BitVec 22)
  /-- FBE, R660. -/
  | fbe (a : Bool) (disp22 : BitVec 22)
  /-- FBUE, R661. -/
  | fbue (a : Bool) (disp22 : BitVec 22)
  /-- FBGE, R662. -/
  | fbge (a : Bool) (disp22 : BitVec 22)
  /-- FBUGE, R663. -/
  | fbuge (a : Bool) (disp22 : BitVec 22)
  /-- FBLE, R664. -/
  | fble (a : Bool) (disp22 : BitVec 22)
  /-- FBULE, R665. -/
  | fbule (a : Bool) (disp22 : BitVec 22)
  /-- FBO, R666. -/
  | fbo (a : Bool) (disp22 : BitVec 22)
  /-- FBPA, R671. -/
  | fbpa (a : Bool) (fcc : FccNum) (p : Bool) (disp19 : BitVec 19)
  /-- FBPN, R672. -/
  | fbpn (a : Bool) (fcc : FccNum) (p : Bool) (disp19 : BitVec 19)
  /-- FBPU, R673. -/
  | fbpu (a : Bool) (fcc : FccNum) (p : Bool) (disp19 : BitVec 19)
  /-- FBPG, R674. -/
  | fbpg (a : Bool) (fcc : FccNum) (p : Bool) (disp19 : BitVec 19)
  /-- FBPUG, R675. -/
  | fbpug (a : Bool) (fcc : FccNum) (p : Bool) (disp19 : BitVec 19)
  /-- FBPL, R676. -/
  | fbpl (a : Bool) (fcc : FccNum) (p : Bool) (disp19 : BitVec 19)
  /-- FBPUL, R677. -/
  | fbpul (a : Bool) (fcc : FccNum) (p : Bool) (disp19 : BitVec 19)
  /-- FBPLG, R678. -/
  | fbplg (a : Bool) (fcc : FccNum) (p : Bool) (disp19 : BitVec 19)
  /-- FBPNE, R679. -/
  | fbpne (a : Bool) (fcc : FccNum) (p : Bool) (disp19 : BitVec 19)
  /-- FBPE, R680. -/
  | fbpe (a : Bool) (fcc : FccNum) (p : Bool) (disp19 : BitVec 19)
  /-- FBPUE, R681. -/
  | fbpue (a : Bool) (fcc : FccNum) (p : Bool) (disp19 : BitVec 19)
  /-- FBPGE, R682. -/
  | fbpge (a : Bool) (fcc : FccNum) (p : Bool) (disp19 : BitVec 19)
  /-- FBPUGE, R683. -/
  | fbpuge (a : Bool) (fcc : FccNum) (p : Bool) (disp19 : BitVec 19)
  /-- FBPLE, R684. -/
  | fbple (a : Bool) (fcc : FccNum) (p : Bool) (disp19 : BitVec 19)
  /-- FBPULE, R685. -/
  | fbpule (a : Bool) (fcc : FccNum) (p : Bool) (disp19 : BitVec 19)
  /-- FBPO, R686. -/
  | fbpo (a : Bool) (fcc : FccNum) (p : Bool) (disp19 : BitVec 19)
  /-- CALL, R690. -/
  | call (disp30 : BitVec 30)
  /-- JMPL, R691. -/
  | jmpl (rd rs1 : RegNum) (op2 : RegOrImm 13)
  /-- RETURN, R692. -/
  | return_ (rs1 : RegNum) (op2 : RegOrImm 13)
  /-- TA, R701. -/
  | ta (rs1 : RegNum) (cc : IntCc) (num : RegOrImm 8)
  /-- TN, R702. -/
  | tn (rs1 : RegNum) (cc : IntCc) (num : RegOrImm 8)
  /-- TNE, R703. -/
  | tne (rs1 : RegNum) (cc : IntCc) (num : RegOrImm 8)
  /-- TE, R704. -/
  | te (rs1 : RegNum) (cc : IntCc) (num : RegOrImm 8)
  /-- TG, R705. -/
  | tg (rs1 : RegNum) (cc : IntCc) (num : RegOrImm 8)
  /-- TLE, R706. -/
  | tle (rs1 : RegNum) (cc : IntCc) (num : RegOrImm 8)
  /-- TGE, R707. -/
  | tge (rs1 : RegNum) (cc : IntCc) (num : RegOrImm 8)
  /-- TL, R708. -/
  | tl (rs1 : RegNum) (cc : IntCc) (num : RegOrImm 8)
  /-- TGU, R709. -/
  | tgu (rs1 : RegNum) (cc : IntCc) (num : RegOrImm 8)
  /-- TLEU, R710. -/
  | tleu (rs1 : RegNum) (cc : IntCc) (num : RegOrImm 8)
  /-- TCC, R711. -/
  | tcc (rs1 : RegNum) (cc : IntCc) (num : RegOrImm 8)
  /-- TCS, R712. -/
  | tcs (rs1 : RegNum) (cc : IntCc) (num : RegOrImm 8)
  /-- TPOS, R713. -/
  | tpos (rs1 : RegNum) (cc : IntCc) (num : RegOrImm 8)
  /-- TNEG, R714. -/
  | tneg (rs1 : RegNum) (cc : IntCc) (num : RegOrImm 8)
  /-- TVC, R715. -/
  | tvc (rs1 : RegNum) (cc : IntCc) (num : RegOrImm 8)
  /-- TVS, R716. -/
  | tvs (rs1 : RegNum) (cc : IntCc) (num : RegOrImm 8)
  /-- DONE, R720. -/
  | done
  /-- RETRY, R721. -/
  | retry
  /-- ILLTRAP, R722. -/
  | illtrap (ignored : BitVec 5) (const22 : BitVec 22)
  /-- LDUW, R815. -/
  | lduw (rd rs1 : RegNum) (op2 : RegOrImm 13)
  /-- LDUB, R813. -/
  | ldub (rd rs1 : RegNum) (op2 : RegOrImm 13)
  /-- LDUH, R814. -/
  | lduh (rd rs1 : RegNum) (op2 : RegOrImm 13)
  /-- LDTW, R830. -/
  | ldtw (rd rs1 : RegNum) (op2 : RegOrImm 13)
  /-- STW, R842. -/
  | stw (rd rs1 : RegNum) (op2 : RegOrImm 13)
  /-- STB, R840. -/
  | stb (rd rs1 : RegNum) (op2 : RegOrImm 13)
  /-- STH, R841. -/
  | sth (rd rs1 : RegNum) (op2 : RegOrImm 13)
  /-- STTW, R856. -/
  | sttw (rd rs1 : RegNum) (op2 : RegOrImm 13)
  /-- LDSW, R812. -/
  | ldsw (rd rs1 : RegNum) (op2 : RegOrImm 13)
  /-- LDSB, R810. -/
  | ldsb (rd rs1 : RegNum) (op2 : RegOrImm 13)
  /-- LDSH, R811. -/
  | ldsh (rd rs1 : RegNum) (op2 : RegOrImm 13)
  /-- LDX, R816. -/
  | ldx (rd rs1 : RegNum) (op2 : RegOrImm 13)
  /-- LDSTUB, R860. -/
  | ldstub (rd rs1 : RegNum) (op2 : RegOrImm 13)
  /-- STX, R843. -/
  | stx (rd rs1 : RegNum) (op2 : RegOrImm 13)
  /-- SWAP, R862. -/
  | swap (rd rs1 : RegNum) (op2 : RegOrImm 13)
  /-- LDUWA, R825. -/
  | lduwa (rd rs1 : RegNum) (src : AsiOperand)
  /-- LDUBA, R823. -/
  | lduba (rd rs1 : RegNum) (src : AsiOperand)
  /-- LDUHA, R824. -/
  | lduha (rd rs1 : RegNum) (src : AsiOperand)
  /-- LDTWA, R831. -/
  | ldtwa (rd rs1 : RegNum) (src : AsiOperand)
  /-- STWA, R852. -/
  | stwa (rd rs1 : RegNum) (src : AsiOperand)
  /-- STBA, R850. -/
  | stba (rd rs1 : RegNum) (src : AsiOperand)
  /-- STHA, R851. -/
  | stha (rd rs1 : RegNum) (src : AsiOperand)
  /-- STTWA, R857. -/
  | sttwa (rd rs1 : RegNum) (src : AsiOperand)
  /-- LDSWA, R822. -/
  | ldswa (rd rs1 : RegNum) (src : AsiOperand)
  /-- LDSBA, R820. -/
  | ldsba (rd rs1 : RegNum) (src : AsiOperand)
  /-- LDSHA, R821. -/
  | ldsha (rd rs1 : RegNum) (src : AsiOperand)
  /-- LDXA, R826. -/
  | ldxa (rd rs1 : RegNum) (src : AsiOperand)
  /-- LDSTUBA, R861. -/
  | ldstuba (rd rs1 : RegNum) (src : AsiOperand)
  /-- STXA, R853. -/
  | stxa (rd rs1 : RegNum) (src : AsiOperand)
  /-- SWAPA, R863. -/
  | swapa (rd rs1 : RegNum) (src : AsiOperand)
  /-- LDTXA, R832. -/
  | ldtxa (rd rs1 rs2 : RegNum) (immAsi : Asi)
  /-- CASA, R864. -/
  | casa (rd rs1 rs2 : RegNum) (src : CasAsi)
  /-- CASXA, R865. -/
  | casxa (rd rs1 rs2 : RegNum) (src : CasAsi)
  /-- PREFETCH, R870. -/
  | prefetch (fcn : BitVec 5) (rs1 : RegNum) (op2 : RegOrImm 13)
  /-- PREFETCHA, R871. -/
  | prefetcha (fcn : BitVec 5) (rs1 : RegNum) (src : AsiOperand)
  /-- MEMBAR, R880. -/
  | membar (cmask : BitVec 3) (mmask : BitVec 4)
  /-- FLUSH, R885. -/
  | flush (rs1 : RegNum) (op2 : RegOrImm 13)
  /-- LDF, R955. -/
  | ldf (rd rs1 : RegNum) (op2 : RegOrImm 13)
  /-- LDQF, R957. -/
  | ldqf (rd rs1 : RegNum) (op2 : RegOrImm 13)
  /-- LDDF, R956. -/
  | lddf (rd rs1 : RegNum) (op2 : RegOrImm 13)
  /-- STF, R970. -/
  | stf (rd rs1 : RegNum) (op2 : RegOrImm 13)
  /-- STQF, R972. -/
  | stqf (rd rs1 : RegNum) (op2 : RegOrImm 13)
  /-- STDF, R971. -/
  | stdf (rd rs1 : RegNum) (op2 : RegOrImm 13)
  /-- LDFSR, R965. -/
  | ldfsr (rs1 : RegNum) (op2 : RegOrImm 13)
  /-- LDXFSR, R966. -/
  | ldxfsr (rs1 : RegNum) (op2 : RegOrImm 13)
  /-- STFSR, R980. -/
  | stfsr (rs1 : RegNum) (op2 : RegOrImm 13)
  /-- STXFSR, R981. -/
  | stxfsr (rs1 : RegNum) (op2 : RegOrImm 13)
  /-- LDFA, R960. -/
  | ldfa (rd rs1 : RegNum) (src : AsiOperand)
  /-- LDQFA, R962. -/
  | ldqfa (rd rs1 : RegNum) (src : AsiOperand)
  /-- LDDFA, R961. -/
  | lddfa (rd rs1 : RegNum) (src : AsiOperand)
  /-- STFA, R975. -/
  | stfa (rd rs1 : RegNum) (src : AsiOperand)
  /-- STQFA, R977. -/
  | stqfa (rd rs1 : RegNum) (src : AsiOperand)
  /-- STDFA, R976. -/
  | stdfa (rd rs1 : RegNum) (src : AsiOperand)
  /-- LDBLOCKF, R985. -/
  | ldblockf (rd rs1 rs2 : RegNum) (immAsi : Asi)
  /-- LDSHORTF, R990. -/
  | ldshortf (rd rs1 rs2 : RegNum) (immAsi : Asi)
  /-- STBLOCKF, R986. -/
  | stblockf (rd rs1 rs2 : RegNum) (immAsi : Asi)
  /-- STSHORTF, R991. -/
  | stshortf (rd rs1 rs2 : RegNum) (immAsi : Asi)
  /-- STPARTIALF, R995. -/
  | stpartialf (rd rs1 rs2 : RegNum) (immAsi : Asi)
  /-- SAVE, R1051. -/
  | save (rd rs1 : RegNum) (op2 : RegOrImm 13)
  /-- RESTORE, R1052. -/
  | restore (rd rs1 : RegNum) (op2 : RegOrImm 13)
  /-- SAVED, R1053. -/
  | saved
  /-- RESTORED, R1054. -/
  | restored
  /-- ALLCLEAN, R1056. -/
  | allclean
  /-- OTHERW, R1059. -/
  | otherw
  /-- NORMALW, R1058. -/
  | normalw
  /-- INVALW, R1057. -/
  | invalw
  /-- FLUSHW, R1055. -/
  | flushw (i : Bool)
  /-- RDY, R1061. -/
  | rdy (rd : RegNum)
  /-- RDCCR, R1062. -/
  | rdccr (rd : RegNum)
  /-- RDASI, R1063. -/
  | rdasi (rd : RegNum)
  /-- RDTICK, R1064. -/
  | rdtick (rd : RegNum)
  /-- RDPC, R1065. -/
  | rdpc (rd : RegNum)
  /-- RDFPRS, R1066. -/
  | rdfprs (rd : RegNum)
  /-- RDGSR, R1067. -/
  | rdgsr (rd : RegNum)
  /-- RDSOFTINT, R1068. -/
  | rdsoftint (rd : RegNum)
  /-- RDTICK_CMPR, R1069. -/
  | rdtickCmpr (rd : RegNum)
  /-- RDSTICK, R1070. -/
  | rdstick (rd : RegNum)
  /-- RDSTICK_CMPR, R1071. -/
  | rdstickCmpr (rd : RegNum)
  /-- WRY, R1076. -/
  | wry (rs1 : RegNum) (op2 : RegOrImm 13)
  /-- WRCCR, R1077. -/
  | wrccr (rs1 : RegNum) (op2 : RegOrImm 13)
  /-- WRASI, R1078. -/
  | wrasi (rs1 : RegNum) (op2 : RegOrImm 13)
  /-- WRFPRS, R1079. -/
  | wrfprs (rs1 : RegNum) (op2 : RegOrImm 13)
  /-- WRGSR, R1080. -/
  | wrgsr (rs1 : RegNum) (op2 : RegOrImm 13)
  /-- WRSOFTINT_SET, R1081. -/
  | wrsoftintSet (rs1 : RegNum) (op2 : RegOrImm 13)
  /-- WRSOFTINT_CLR, R1082. -/
  | wrsoftintClr (rs1 : RegNum) (op2 : RegOrImm 13)
  /-- WRSOFTINT, R1083. -/
  | wrsoftint (rs1 : RegNum) (op2 : RegOrImm 13)
  /-- WRTICK_CMPR, R1084. -/
  | wrtickCmpr (rs1 : RegNum) (op2 : RegOrImm 13)
  /-- WRSTICK_CMPR, R1085. -/
  | wrstickCmpr (rs1 : RegNum) (op2 : RegOrImm 13)
  /-- RDPR_TPC, R1091. -/
  | rdprTpc (rd : RegNum)
  /-- RDPR_TNPC, R1092. -/
  | rdprTnpc (rd : RegNum)
  /-- RDPR_TSTATE, R1093. -/
  | rdprTstate (rd : RegNum)
  /-- RDPR_TT, R1094. -/
  | rdprTt (rd : RegNum)
  /-- RDPR_TICK, R1095. -/
  | rdprTick (rd : RegNum)
  /-- RDPR_TBA, R1096. -/
  | rdprTba (rd : RegNum)
  /-- RDPR_PSTATE, R1097. -/
  | rdprPstate (rd : RegNum)
  /-- RDPR_TL, R1098. -/
  | rdprTl (rd : RegNum)
  /-- RDPR_PIL, R1099. -/
  | rdprPil (rd : RegNum)
  /-- RDPR_CWP, R1100. -/
  | rdprCwp (rd : RegNum)
  /-- RDPR_CANSAVE, R1101. -/
  | rdprCansave (rd : RegNum)
  /-- RDPR_CANRESTORE, R1102. -/
  | rdprCanrestore (rd : RegNum)
  /-- RDPR_CLEANWIN, R1103. -/
  | rdprCleanwin (rd : RegNum)
  /-- RDPR_OTHERWIN, R1104. -/
  | rdprOtherwin (rd : RegNum)
  /-- RDPR_WSTATE, R1105. -/
  | rdprWstate (rd : RegNum)
  /-- RDPR_GL, R1106. -/
  | rdprGl (rd : RegNum)
  /-- WRPR_TPC, R1111. -/
  | wrprTpc (rs1 : RegNum) (op2 : RegOrImm 13)
  /-- WRPR_TNPC, R1112. -/
  | wrprTnpc (rs1 : RegNum) (op2 : RegOrImm 13)
  /-- WRPR_TSTATE, R1113. -/
  | wrprTstate (rs1 : RegNum) (op2 : RegOrImm 13)
  /-- WRPR_TT, R1114. -/
  | wrprTt (rs1 : RegNum) (op2 : RegOrImm 13)
  /-- WRPR_TBA, R1115. -/
  | wrprTba (rs1 : RegNum) (op2 : RegOrImm 13)
  /-- WRPR_PSTATE, R1116. -/
  | wrprPstate (rs1 : RegNum) (op2 : RegOrImm 13)
  /-- WRPR_TL, R1117. -/
  | wrprTl (rs1 : RegNum) (op2 : RegOrImm 13)
  /-- WRPR_PIL, R1118. -/
  | wrprPil (rs1 : RegNum) (op2 : RegOrImm 13)
  /-- WRPR_CWP, R1119. -/
  | wrprCwp (rs1 : RegNum) (op2 : RegOrImm 13)
  /-- WRPR_CANSAVE, R1120. -/
  | wrprCansave (rs1 : RegNum) (op2 : RegOrImm 13)
  /-- WRPR_CANRESTORE, R1121. -/
  | wrprCanrestore (rs1 : RegNum) (op2 : RegOrImm 13)
  /-- WRPR_CLEANWIN, R1122. -/
  | wrprCleanwin (rs1 : RegNum) (op2 : RegOrImm 13)
  /-- WRPR_OTHERWIN, R1123. -/
  | wrprOtherwin (rs1 : RegNum) (op2 : RegOrImm 13)
  /-- WRPR_WSTATE, R1124. -/
  | wrprWstate (rs1 : RegNum) (op2 : RegOrImm 13)
  /-- WRPR_GL, R1125. -/
  | wrprGl (rs1 : RegNum) (op2 : RegOrImm 13)
  /-- FMOVs, R1170. -/
  | fmovs (rd rs2 : RegNum)
  /-- FMOVd, R1171. -/
  | fmovd (rd rs2 : RegNum)
  /-- FMOVq, R1172. -/
  | fmovq (rd rs2 : RegNum)
  /-- FNEGs, R1173. -/
  | fnegs (rd rs2 : RegNum)
  /-- FNEGd, R1174. -/
  | fnegd (rd rs2 : RegNum)
  /-- FNEGq, R1175. -/
  | fnegq (rd rs2 : RegNum)
  /-- FABSs, R1176. -/
  | fabss (rd rs2 : RegNum)
  /-- FABSd, R1177. -/
  | fabsd (rd rs2 : RegNum)
  /-- FABSq, R1178. -/
  | fabsq (rd rs2 : RegNum)
  /-- FSQRTs, R1194. -/
  | fsqrts (rd rs2 : RegNum)
  /-- FSQRTd, R1195. -/
  | fsqrtd (rd rs2 : RegNum)
  /-- FSQRTq, R1196. -/
  | fsqrtq (rd rs2 : RegNum)
  /-- FsTOx, R1216. -/
  | fstox (rd rs2 : RegNum)
  /-- FdTOx, R1217. -/
  | fdtox (rd rs2 : RegNum)
  /-- FqTOx, R1218. -/
  | fqtox (rd rs2 : RegNum)
  /-- FxTOs, R1203. -/
  | fxtos (rd rs2 : RegNum)
  /-- FxTOd, R1204. -/
  | fxtod (rd rs2 : RegNum)
  /-- FxTOq, R1205. -/
  | fxtoq (rd rs2 : RegNum)
  /-- FiTOs, R1200. -/
  | fitos (rd rs2 : RegNum)
  /-- FdTOs, R1208. -/
  | fdtos (rd rs2 : RegNum)
  /-- FqTOs, R1210. -/
  | fqtos (rd rs2 : RegNum)
  /-- FiTOd, R1201. -/
  | fitod (rd rs2 : RegNum)
  /-- FsTOd, R1206. -/
  | fstod (rd rs2 : RegNum)
  /-- FqTOd, R1211. -/
  | fqtod (rd rs2 : RegNum)
  /-- FiTOq, R1202. -/
  | fitoq (rd rs2 : RegNum)
  /-- FsTOq, R1207. -/
  | fstoq (rd rs2 : RegNum)
  /-- FdTOq, R1209. -/
  | fdtoq (rd rs2 : RegNum)
  /-- FsTOi, R1213. -/
  | fstoi (rd rs2 : RegNum)
  /-- FdTOi, R1214. -/
  | fdtoi (rd rs2 : RegNum)
  /-- FqTOi, R1215. -/
  | fqtoi (rd rs2 : RegNum)
  /-- FADDs, R1180. -/
  | fadds (rd rs1 rs2 : RegNum)
  /-- FADDd, R1181. -/
  | faddd (rd rs1 rs2 : RegNum)
  /-- FADDq, R1182. -/
  | faddq (rd rs1 rs2 : RegNum)
  /-- FSUBs, R1183. -/
  | fsubs (rd rs1 rs2 : RegNum)
  /-- FSUBd, R1184. -/
  | fsubd (rd rs1 rs2 : RegNum)
  /-- FSUBq, R1185. -/
  | fsubq (rd rs1 rs2 : RegNum)
  /-- FMULs, R1186. -/
  | fmuls (rd rs1 rs2 : RegNum)
  /-- FMULd, R1187. -/
  | fmuld (rd rs1 rs2 : RegNum)
  /-- FMULq, R1188. -/
  | fmulq (rd rs1 rs2 : RegNum)
  /-- FDIVs, R1191. -/
  | fdivs (rd rs1 rs2 : RegNum)
  /-- FDIVd, R1192. -/
  | fdivd (rd rs1 rs2 : RegNum)
  /-- FDIVq, R1193. -/
  | fdivq (rd rs1 rs2 : RegNum)
  /-- FsMULd, R1189. -/
  | fsmuld (rd rs1 rs2 : RegNum)
  /-- FdMULq, R1190. -/
  | fdmulq (rd rs1 rs2 : RegNum)
  /-- FCMPs, R1220. -/
  | fcmps (fcc : FccNum) (rs1 rs2 : RegNum)
  /-- FCMPd, R1221. -/
  | fcmpd (fcc : FccNum) (rs1 rs2 : RegNum)
  /-- FCMPq, R1222. -/
  | fcmpq (fcc : FccNum) (rs1 rs2 : RegNum)
  /-- FCMPEs, R1223. -/
  | fcmpes (fcc : FccNum) (rs1 rs2 : RegNum)
  /-- FCMPEd, R1224. -/
  | fcmped (fcc : FccNum) (rs1 rs2 : RegNum)
  /-- FCMPEq, R1225. -/
  | fcmpeq (fcc : FccNum) (rs1 rs2 : RegNum)
  /-- FMOVSicc, R1231. -/
  | fmovsicc (rd : RegNum) (cond : BitVec 4) (rs2 : RegNum)
  /-- FMOVSxcc, R1234. -/
  | fmovsxcc (rd : RegNum) (cond : BitVec 4) (rs2 : RegNum)
  /-- FMOVSfcc, R1237. -/
  | fmovsfcc (rd : RegNum) (fcc : FccNum) (cond : BitVec 4) (rs2 : RegNum)
  /-- FMOVDicc, R1232. -/
  | fmovdicc (rd : RegNum) (cond : BitVec 4) (rs2 : RegNum)
  /-- FMOVDxcc, R1235. -/
  | fmovdxcc (rd : RegNum) (cond : BitVec 4) (rs2 : RegNum)
  /-- FMOVDfcc, R1238. -/
  | fmovdfcc (rd : RegNum) (fcc : FccNum) (cond : BitVec 4) (rs2 : RegNum)
  /-- FMOVQicc, R1233. -/
  | fmovqicc (rd : RegNum) (cond : BitVec 4) (rs2 : RegNum)
  /-- FMOVQxcc, R1236. -/
  | fmovqxcc (rd : RegNum) (cond : BitVec 4) (rs2 : RegNum)
  /-- FMOVQfcc, R1239. -/
  | fmovqfcc (rd : RegNum) (fcc : FccNum) (cond : BitVec 4) (rs2 : RegNum)
  /-- FMOVRsZ, R1241. -/
  | fmovrsz (rd rs1 rs2 : RegNum)
  /-- FMOVRsLEZ, R1242. -/
  | fmovrslez (rd rs1 rs2 : RegNum)
  /-- FMOVRsLZ, R1243. -/
  | fmovrslz (rd rs1 rs2 : RegNum)
  /-- FMOVRsNZ, R1244. -/
  | fmovrsnz (rd rs1 rs2 : RegNum)
  /-- FMOVRsGZ, R1245. -/
  | fmovrsgz (rd rs1 rs2 : RegNum)
  /-- FMOVRsGEZ, R1246. -/
  | fmovrsgez (rd rs1 rs2 : RegNum)
  /-- FMOVRdZ, R1247. -/
  | fmovrdz (rd rs1 rs2 : RegNum)
  /-- FMOVRdLEZ, R1248. -/
  | fmovrdlez (rd rs1 rs2 : RegNum)
  /-- FMOVRdLZ, R1249. -/
  | fmovrdlz (rd rs1 rs2 : RegNum)
  /-- FMOVRdNZ, R1250. -/
  | fmovrdnz (rd rs1 rs2 : RegNum)
  /-- FMOVRdGZ, R1251. -/
  | fmovrdgz (rd rs1 rs2 : RegNum)
  /-- FMOVRdGEZ, R1252. -/
  | fmovrdgez (rd rs1 rs2 : RegNum)
  /-- FMOVRqZ, R1253. -/
  | fmovrqz (rd rs1 rs2 : RegNum)
  /-- FMOVRqLEZ, R1254. -/
  | fmovrqlez (rd rs1 rs2 : RegNum)
  /-- FMOVRqLZ, R1255. -/
  | fmovrqlz (rd rs1 rs2 : RegNum)
  /-- FMOVRqNZ, R1256. -/
  | fmovrqnz (rd rs1 rs2 : RegNum)
  /-- FMOVRqGZ, R1257. -/
  | fmovrqgz (rd rs1 rs2 : RegNum)
  /-- FMOVRqGEZ, R1258. -/
  | fmovrqgez (rd rs1 rs2 : RegNum)
  /-- FMADDs, R1261. -/
  | fmadds (rd rs1 rs3 rs2 : RegNum)
  /-- FMADDd, R1262. -/
  | fmaddd (rd rs1 rs3 rs2 : RegNum)
  /-- FMSUBs, R1263. -/
  | fmsubs (rd rs1 rs3 rs2 : RegNum)
  /-- FMSUBd, R1264. -/
  | fmsubd (rd rs1 rs3 rs2 : RegNum)
  /-- FNMSUBs, R1265. -/
  | fnmsubs (rd rs1 rs3 rs2 : RegNum)
  /-- FNMSUBd, R1266. -/
  | fnmsubd (rd rs1 rs3 rs2 : RegNum)
  /-- FNMADDs, R1267. -/
  | fnmadds (rd rs1 rs3 rs2 : RegNum)
  /-- FNMADDd, R1268. -/
  | fnmaddd (rd rs1 rs3 rs2 : RegNum)
  /-- EDGE8cc, R1421. -/
  | edge8cc (rd rs1 rs2 : RegNum)
  /-- EDGE8N, R1422. -/
  | edge8n (rd rs1 rs2 : RegNum)
  /-- EDGE8Lcc, R1423. -/
  | edge8lcc (rd rs1 rs2 : RegNum)
  /-- EDGE8LN, R1424. -/
  | edge8ln (rd rs1 rs2 : RegNum)
  /-- EDGE16cc, R1425. -/
  | edge16cc (rd rs1 rs2 : RegNum)
  /-- EDGE16N, R1426. -/
  | edge16n (rd rs1 rs2 : RegNum)
  /-- EDGE16Lcc, R1427. -/
  | edge16lcc (rd rs1 rs2 : RegNum)
  /-- EDGE16LN, R1428. -/
  | edge16ln (rd rs1 rs2 : RegNum)
  /-- EDGE32cc, R1429. -/
  | edge32cc (rd rs1 rs2 : RegNum)
  /-- EDGE32N, R1430. -/
  | edge32n (rd rs1 rs2 : RegNum)
  /-- EDGE32Lcc, R1431. -/
  | edge32lcc (rd rs1 rs2 : RegNum)
  /-- EDGE32LN, R1432. -/
  | edge32ln (rd rs1 rs2 : RegNum)
  /-- ARRAY8, R1411. -/
  | array8 (rd rs1 rs2 : RegNum)
  /-- ARRAY16, R1412. -/
  | array16 (rd rs1 rs2 : RegNum)
  /-- ARRAY32, R1413. -/
  | array32 (rd rs1 rs2 : RegNum)
  /-- ALIGNADDRESS, R1402. -/
  | alignaddress (rd rs1 rs2 : RegNum)
  /-- BMASK, R1405. -/
  | bmask (rd rs1 rs2 : RegNum)
  /-- ALIGNADDRESS_LITTLE, R1403. -/
  | alignaddressLittle (rd rs1 rs2 : RegNum)
  /-- FCMPLE16, R1441. -/
  | fcmple16 (rd rs1 rs2 : RegNum)
  /-- FCMPNE16, R1442. -/
  | fcmpne16 (rd rs1 rs2 : RegNum)
  /-- FCMPLE32, R1443. -/
  | fcmple32 (rd rs1 rs2 : RegNum)
  /-- FCMPNE32, R1444. -/
  | fcmpne32 (rd rs1 rs2 : RegNum)
  /-- FCMPGT16, R1445. -/
  | fcmpgt16 (rd rs1 rs2 : RegNum)
  /-- FCMPEQ16, R1446. -/
  | fcmpeq16 (rd rs1 rs2 : RegNum)
  /-- FCMPGT32, R1447. -/
  | fcmpgt32 (rd rs1 rs2 : RegNum)
  /-- FCMPEQ32, R1448. -/
  | fcmpeq32 (rd rs1 rs2 : RegNum)
  /-- FMUL8x16, R1452. -/
  | fmul8x16 (rd rs1 rs2 : RegNum)
  /-- FMUL8x16AU, R1453. -/
  | fmul8x16au (rd rs1 rs2 : RegNum)
  /-- FMUL8x16AL, R1454. -/
  | fmul8x16al (rd rs1 rs2 : RegNum)
  /-- FMUL8SUx16, R1455. -/
  | fmul8sux16 (rd rs1 rs2 : RegNum)
  /-- FMUL8ULx16, R1456. -/
  | fmul8ulx16 (rd rs1 rs2 : RegNum)
  /-- FMULD8SUx16, R1457. -/
  | fmuld8sux16 (rd rs1 rs2 : RegNum)
  /-- FMULD8ULx16, R1458. -/
  | fmuld8ulx16 (rd rs1 rs2 : RegNum)
  /-- FPACK32, R1462. -/
  | fpack32 (rd rs1 rs2 : RegNum)
  /-- FPACK16, R1461. -/
  | fpack16 (rd rs2 : RegNum)
  /-- FPACKFIX, R1463. -/
  | fpackfix (rd rs2 : RegNum)
  /-- PDIST, R1520. -/
  | pdist (rd rs1 rs2 : RegNum)
  /-- FALIGNDATA, R1404. -/
  | faligndata (rd rs1 rs2 : RegNum)
  /-- FPMERGE, R1465. -/
  | fpmerge (rd rs1 rs2 : RegNum)
  /-- BSHUFFLE, R1406. -/
  | bshuffle (rd rs1 rs2 : RegNum)
  /-- FEXPAND, R1450. -/
  | fexpand (rd rs2 : RegNum)
  /-- FPADD16, R1471. -/
  | fpadd16 (rd rs1 rs2 : RegNum)
  /-- FPADD16S, R1472. -/
  | fpadd16s (rd rs1 rs2 : RegNum)
  /-- FPADD32, R1473. -/
  | fpadd32 (rd rs1 rs2 : RegNum)
  /-- FPADD32S, R1474. -/
  | fpadd32s (rd rs1 rs2 : RegNum)
  /-- FPSUB16, R1475. -/
  | fpsub16 (rd rs1 rs2 : RegNum)
  /-- FPSUB16S, R1476. -/
  | fpsub16s (rd rs1 rs2 : RegNum)
  /-- FPSUB32, R1477. -/
  | fpsub32 (rd rs1 rs2 : RegNum)
  /-- FPSUB32S, R1478. -/
  | fpsub32s (rd rs1 rs2 : RegNum)
  /-- FZEROd, R1481. -/
  | fzerod (rd : RegNum)
  /-- FZEROs, R1482. -/
  | fzeros (rd : RegNum)
  /-- FNORd, R1495. -/
  | fnord (rd rs1 rs2 : RegNum)
  /-- FNORs, R1496. -/
  | fnors (rd rs1 rs2 : RegNum)
  /-- FANDNOT2d, R1511. -/
  | fandnot2d (rd rs1 rs2 : RegNum)
  /-- FANDNOT2s, R1512. -/
  | fandnot2s (rd rs1 rs2 : RegNum)
  /-- FNOT2d, R1491. -/
  | fnot2d (rd rs2 : RegNum)
  /-- FNOT2s, R1492. -/
  | fnot2s (rd rs2 : RegNum)
  /-- FANDNOT1d, R1509. -/
  | fandnot1d (rd rs1 rs2 : RegNum)
  /-- FANDNOT1s, R1510. -/
  | fandnot1s (rd rs1 rs2 : RegNum)
  /-- FNOT1d, R1489. -/
  | fnot1d (rd rs1 : RegNum)
  /-- FNOT1s, R1490. -/
  | fnot1s (rd rs1 : RegNum)
  /-- FXORd, R1501. -/
  | fxord (rd rs1 rs2 : RegNum)
  /-- FXORs, R1502. -/
  | fxors (rd rs1 rs2 : RegNum)
  /-- FNANDd, R1499. -/
  | fnandd (rd rs1 rs2 : RegNum)
  /-- FNANDs, R1500. -/
  | fnands (rd rs1 rs2 : RegNum)
  /-- FANDd, R1497. -/
  | fandd (rd rs1 rs2 : RegNum)
  /-- FANDs, R1498. -/
  | fands (rd rs1 rs2 : RegNum)
  /-- FXNORd, R1503. -/
  | fxnord (rd rs1 rs2 : RegNum)
  /-- FXNORs, R1504. -/
  | fxnors (rd rs1 rs2 : RegNum)
  /-- FSRC1d, R1485. -/
  | fsrc1d (rd rs1 : RegNum)
  /-- FSRC1s, R1486. -/
  | fsrc1s (rd rs1 : RegNum)
  /-- FORNOT2d, R1507. -/
  | fornot2d (rd rs1 rs2 : RegNum)
  /-- FORNOT2s, R1508. -/
  | fornot2s (rd rs1 rs2 : RegNum)
  /-- FSRC2d, R1487. -/
  | fsrc2d (rd rs2 : RegNum)
  /-- FSRC2s, R1488. -/
  | fsrc2s (rd rs2 : RegNum)
  /-- FORNOT1d, R1505. -/
  | fornot1d (rd rs1 rs2 : RegNum)
  /-- FORNOT1s, R1506. -/
  | fornot1s (rd rs1 rs2 : RegNum)
  /-- FORd, R1493. -/
  | ford (rd rs1 rs2 : RegNum)
  /-- FORs, R1494. -/
  | fors (rd rs1 rs2 : RegNum)
  /-- FONEd, R1483. -/
  | foned (rd : RegNum)
  /-- FONEs, R1484. -/
  | fones (rd : RegNum)
  /-- SIAM, R1521. -/
  | siam (mode : BitVec 3)
  deriving DecidableEq, Repr

end Sys2Proof
end

