-- ==== Sys2Proof/WellFormed.lean ====
section
/-! DEFINITION. Which terms of `Instr` stand for an instruction word (30_encoding.md R332, R341, R346, R364). -/

namespace Sys2Proof

/-- A twin-word instruction names an even register and the one after it (30_encoding.md R344). -/
def evenRegister (rd : RegNum) : Bool := rd.getLsbD 0 == false

/-- The reserved PREFETCH functions are 5 to 15 (30_encoding.md R364). -/
def prefetchFcnDefined (fcn : BitVec 5) : Bool := !(5 ≤ fcn.toNat && fcn.toNat ≤ 15)

/-- An LDTWA word whose `imm_asi` is a TWINX ASI is LDTXA (20_memory.md R215). -/
def isTwinxAsi (asi : Asi) : Bool := Machine.asiClass asi == .twinx

/-- An LDDFA word whose `imm_asi` is a BLOCK ASI is LDBLOCKF (20_memory.md R215). -/
def isBlockAsi (asi : Asi) : Bool := Machine.asiClass asi == .block

/-- An STDFA word whose `imm_asi` is a BLOCK or COMMIT ASI is STBLOCKF (20_memory.md R215). -/
def isBlockStoreAsi (asi : Asi) : Bool := Machine.asiClass asi == .block || Machine.asiClass asi == .commit

/-- An LDDFA or STDFA word whose `imm_asi` is a SHORT ASI is LDSHORTF or STSHORTF (20_memory.md R215). -/
def isShortAsi (asi : Asi) : Bool := Machine.asiClass asi == .short

/-- An STDFA word whose `imm_asi` is a PST ASI is STPARTIALF (20_memory.md R215). -/
def isPartialAsi (asi : Asi) : Bool := Machine.asiClass asi == .pst

/-- `imm_asi`, where the word has one, satisfies `p`. -/
def AsiOperand.immAsiIs (src : AsiOperand) (p : Asi → Bool) : Bool :=
  match src with
  | .immAsi _ asi => p asi
  | .asiReg _ => true

/-- The terms that are the decoding of some word. Every term not listed here is one. -/
def Instr.wellFormed : Instr → Bool
  | .sethi rd imm22 => !(rd == 0#5 && imm22 == 0#22) -- that word is NOP (R332)
  | .ldtw rd _ _ | .sttw rd _ _ => evenRegister rd
  | .ldtwa rd _ src => evenRegister rd && src.immAsiIs (!isTwinxAsi ·)
  | .sttwa rd _ _ => evenRegister rd
  | .ldtxa rd _ _ asi => evenRegister rd && isTwinxAsi asi
  | .prefetch fcn _ _ => prefetchFcnDefined fcn
  | .prefetcha fcn _ _ => prefetchFcnDefined fcn
  | .lddfa _ _ src => src.immAsiIs (fun a => !isBlockAsi a && !isShortAsi a)
  | .stdfa _ _ src => src.immAsiIs (fun a => !isBlockStoreAsi a && !isShortAsi a && !isPartialAsi a)
  | .ldblockf _ _ _ asi => isBlockAsi asi
  | .ldshortf _ _ _ asi => isShortAsi asi
  | .stblockf _ _ _ asi => isBlockStoreAsi asi
  | .stshortf _ _ _ asi => isShortAsi asi
  | .stpartialf _ _ _ asi => isPartialAsi asi
  | _ => true

end Sys2Proof
end

