-- ==== Sys2Proof/Decode.lean ====
section
/-! DEFINITION. The decoder, from an instruction word to an instruction or a named rejection, and the encoder (30_encoding.md R330 to R369). -/

namespace Sys2Proof

/-! Lean's compiler cannot represent a constructor numbered above 244 that has fields, so the definitions that build instructions carry no compiled code. The kernel evaluates them. -/
noncomputable section

/-! ### Instruction words -/

/-- Format 1 (30_encoding.md R331). -/
def format1 (disp30 : BitVec 30) : Word32 := 1#2 ++ disp30

/-- Format 2, its bits 29:25 as one field (30_encoding.md R332 to R334). -/
def format2 (top : BitVec 5) (op2 : BitVec 3) (low22 : BitVec 22) : Word32 :=
  0#2 ++ top ++ op2 ++ low22

/-- Format 3, its bits 13:0 as one field (30_encoding.md R335). -/
def format3 (op : BitVec 2) (rd : RegNum) (op3 : BitVec 6) (rs1 : RegNum) (low : BitVec 14) : Word32 :=
  op ++ rd ++ op3 ++ rs1 ++ low

/-- `op`, bits 31:30. -/
def fieldOp (w : Word32) : BitVec 2 := w.extractLsb' 30 2
/-- `rd` or `fcn`, bits 29:25. -/
def fieldRd (w : Word32) : RegNum := w.extractLsb' 25 5
/-- `op2`, bits 24:22. -/
def fieldOp2 (w : Word32) : BitVec 3 := w.extractLsb' 22 3
/-- `imm22`, `disp22` or `const22`, bits 21:0. -/
def fieldLow22 (w : Word32) : BitVec 22 := w.extractLsb' 0 22
/-- `op3`, bits 24:19. -/
def fieldOp3 (w : Word32) : BitVec 6 := w.extractLsb' 19 6
/-- `rs1`, bits 18:14. -/
def fieldRs1 (w : Word32) : RegNum := w.extractLsb' 14 5
/-- Bits 13:0 of format 3. -/
def fieldLow (w : Word32) : BitVec 14 := w.extractLsb' 0 14
/-- `disp30`, bits 29:0. -/
def fieldDisp30 (w : Word32) : BitVec 30 := w.extractLsb' 0 30

/-! ### Bits 13:0 of format 3: each form written and read -/

/-- `i`, bits 12:5 reserved, `rs2` or `simm13` (30_encoding.md R335). -/
def lowRegImm13 (o : RegOrImm 13) : BitVec 14 :=
  match o with
  | .reg rs2 => 0#9 ++ rs2
  | .imm v => 1#1 ++ v

/-- Reads `lowRegImm13`; nothing where a reserved bit is set (R341). -/
def readRegImm13 (l : BitVec 14) : Option (RegOrImm 13) :=
  if l.extractLsb' 13 1 = 1#1 then some (.imm (l.extractLsb' 0 13))
  else if l.extractLsb' 5 8 = 0#8 then some (.reg (l.extractLsb' 0 5)) else none

/-- A 32-bit shift: `i`, `x = 0`, bits 11:5 reserved, `rs2` or `shcnt32` (30_encoding.md R335). -/
def lowShift32 (o : RegOrImm 5) : BitVec 14 :=
  match o with
  | .reg rs2 => 0#9 ++ rs2
  | .imm v => 0x100#9 ++ v

/-- Reads `lowShift32`, its `x` already tested. -/
def readShift32 (l : BitVec 14) : Option (RegOrImm 5) :=
  if l.extractLsb' 5 7 = 0#7 then
    if l.extractLsb' 13 1 = 1#1 then some (.imm (l.extractLsb' 0 5)) else some (.reg (l.extractLsb' 0 5))
  else none

/-- A 64-bit shift: `i`, `x = 1`, bits 11:5 reserved and `rs2`, or bits 11:6 reserved and `shcnt64` (30_encoding.md R335). -/
def lowShift64 (o : RegOrImm 6) : BitVec 14 :=
  match o with
  | .reg rs2 => 0x080#9 ++ rs2
  | .imm v => 0xC0#8 ++ v

/-- Reads `lowShift64`, its `x` already tested. -/
def readShift64 (l : BitVec 14) : Option (RegOrImm 6) :=
  if l.extractLsb' 13 1 = 1#1 then
    if l.extractLsb' 6 6 = 0#6 then some (.imm (l.extractLsb' 0 6)) else none
  else if l.extractLsb' 5 7 = 0#7 then some (.reg (l.extractLsb' 0 5)) else none

/-- `i`, `imm_asi` and `rs2` or `simm13` (30_encoding.md R335). -/
def lowAsi (o : AsiOperand) : BitVec 14 :=
  match o with
  | .immAsi rs2 asi => 0#1 ++ asi ++ rs2
  | .asiReg v => 1#1 ++ v

/-- Reads `lowAsi`. -/
def readAsi (l : BitVec 14) : AsiOperand :=
  if l.extractLsb' 13 1 = 1#1 then .asiReg (l.extractLsb' 0 13)
  else .immAsi (l.extractLsb' 0 5) (l.extractLsb' 5 8)

/-- CASA and CASXA: `i = 0` with `imm_asi`, `i = 1` with bits 12:5 reserved; always `rs2` (30_encoding.md R335). -/
def lowCas (rs2 : RegNum) (o : CasAsi) : BitVec 14 :=
  match o with
  | .immAsi asi => 0#1 ++ asi ++ rs2
  | .asiReg => 0x100#9 ++ rs2

/-- Reads the ASI source of `lowCas`. -/
def readCas (l : BitVec 14) : Option CasAsi :=
  if l.extractLsb' 13 1 = 1#1 then
    if l.extractLsb' 5 8 = 0#8 then some .asiReg else none
  else some (.immAsi (l.extractLsb' 5 8))

/-- MOVcc: `i`, `cc1 :: cc0`, bits 10:5 reserved and `rs2`, or `simm11` (30_encoding.md R336). -/
def lowMovcc (cc : BitVec 2) (o : RegOrImm 11) : BitVec 14 :=
  match o with
  | .reg rs2 => 0#1 ++ cc ++ 0#6 ++ rs2
  | .imm v => 1#1 ++ cc ++ v

/-- Reads the operand of `lowMovcc`. -/
def readMovcc (l : BitVec 14) : Option (RegOrImm 11) :=
  if l.extractLsb' 13 1 = 1#1 then some (.imm (l.extractLsb' 0 11))
  else if l.extractLsb' 5 6 = 0#6 then some (.reg (l.extractLsb' 0 5)) else none

/-- MOVr: `i`, `rcond`, bits 9:5 reserved and `rs2`, or `simm10` (30_encoding.md R337). -/
def lowMovr (rcond : BitVec 3) (o : RegOrImm 10) : BitVec 14 :=
  match o with
  | .reg rs2 => 0#1 ++ rcond ++ 0#5 ++ rs2
  | .imm v => 1#1 ++ rcond ++ v

/-- Reads the operand of `lowMovr`. -/
def readMovr (l : BitVec 14) : Option (RegOrImm 10) :=
  if l.extractLsb' 13 1 = 1#1 then some (.imm (l.extractLsb' 0 10))
  else if l.extractLsb' 5 5 = 0#5 then some (.reg (l.extractLsb' 0 5)) else none

/-- Tcc: `i`, `cc1 :: cc0`, bits 10:5 reserved and `rs2`, or bits 10:8 reserved and `imm_trap_#` (30_encoding.md R338). -/
def lowTcc (cc : BitVec 2) (o : RegOrImm 8) : BitVec 14 :=
  match o with
  | .reg rs2 => 0#1 ++ cc ++ 0#6 ++ rs2
  | .imm v => 1#1 ++ cc ++ 0#3 ++ v

/-- Reads the operand of `lowTcc`. -/
def readTcc (l : BitVec 14) : Option (RegOrImm 8) :=
  if l.extractLsb' 13 1 = 1#1 then
    if l.extractLsb' 8 3 = 0#3 then some (.imm (l.extractLsb' 0 8)) else none
  else if l.extractLsb' 5 6 = 0#6 then some (.reg (l.extractLsb' 0 5)) else none

/-- `cc1 :: cc0` of MOVcc and Tcc, bits 12:11. -/
def lowCc (l : BitVec 14) : BitVec 2 := l.extractLsb' 11 2
/-- `rcond` of MOVr, bits 12:10. -/
def lowRcond (l : BitVec 14) : BitVec 3 := l.extractLsb' 10 3
/-- `opf`, bits 13:5. -/
def lowOpf (l : BitVec 14) : BitVec 9 := l.extractLsb' 5 9
/-- `rs3`, bits 13:9. -/
def lowRs3 (l : BitVec 14) : RegNum := l.extractLsb' 9 5
/-- `op5`, bits 8:5. -/
def lowOp5 (l : BitVec 14) : BitVec 4 := l.extractLsb' 5 4
/-- `rs2`, bits 4:0. -/
def lowRs2 (l : BitVec 14) : RegNum := l.extractLsb' 0 5

/-- An F register operation: `opf` and `rs2` (30_encoding.md R335). -/
def lowFpop (opf : BitVec 9) (rs2 : RegNum) : BitVec 14 := opf ++ rs2
/-- FMAf: `rs3`, `op5`, `rs2` (30_encoding.md R335). -/
def lowFma (rs3 : RegNum) (op5 : BitVec 4) (rs2 : RegNum) : BitVec 14 := rs3 ++ op5 ++ rs2

/-- `cc1 :: cc0` of an integer condition code (30_encoding.md R353). -/
def IntCc.bits (cc : IntCc) : BitVec 2 :=
  match cc with
  | .icc => 0b00#2
  | .xcc => 0b10#2

/-- Reads `IntCc.bits`; `01` and `11` are reserved (30_encoding.md R353, R354). -/
def readIntCc (c : BitVec 2) : Option IntCc :=
  if c = 0b00#2 then some .icc else if c = 0b10#2 then some .xcc else none

/-- Bits 21:0 of BPcc and FBPfcc (30_encoding.md R333). -/
def low22Pred (cc : BitVec 2) (p : Bool) (disp19 : BitVec 19) : BitVec 22 := cc ++ bit p ++ disp19

/-- Bits 21:0 of BPr (30_encoding.md R334). -/
def low22Bpr (d16 : BitVec 16) (p : Bool) (rs1 : RegNum) : BitVec 22 :=
  d16.extractLsb' 14 2 ++ bit p ++ rs1 ++ d16.extractLsb' 0 14

/-- Bits 29:25 of a branch: `a` and `cond` (30_encoding.md R332, R333). -/
def topBranch (a : Bool) (cond : BitVec 4) : BitVec 5 := bit a ++ cond

/-! ### Decoding -/

/-- Why a word is no instruction. Each raises illegal_instruction (30_encoding.md R341, R360). -/
inductive DecodeReject where
  /-- An entry of the opcode maps shown as reserved or absent (R360 to R368). -/
  | reservedOpcode
  /-- A reserved field of a defined instruction is nonzero (R341). -/
  | reservedField
  /-- A twin-word instruction with an odd `rd` (R344). -/
  | oddRegister
  /-- Fewer than four bytes: no instruction is shorter (R330). -/
  | truncated
  deriving DecidableEq, Repr

/-- The result of decoding. -/
abbrev Decoded := Except DecodeReject Instr

/-- An operand that could be read, or the rejection of a reserved field. -/
def readOr {α : Type} (o : Option α) (k : α → Instr) : Decoded :=
  match o with
  | some v => .ok (k v)
  | none => .error .reservedField

/-- A word whose reserved field must be zero. -/
def requireZero (isZero : Bool) (d : Decoded) : Decoded := if isZero then d else .error .reservedField

/-- A word whose `rd` must be even. -/
def requireEven (rd : RegNum) (d : Decoded) : Decoded := if evenRegister rd then d else .error .oddRegister

/-- `rd`, `rs1`, second operand. -/
def decAlu (k : RegNum → RegNum → RegOrImm 13 → Instr) (w : Word32) : Decoded :=
  readOr (readRegImm13 (fieldLow w)) (k (fieldRd w) (fieldRs1 w))
/-- `rs1`, second operand: `rd` is part of the opcode. -/
def decAddr (k : RegNum → RegOrImm 13 → Instr) (w : Word32) : Decoded :=
  readOr (readRegImm13 (fieldLow w)) (k (fieldRs1 w))
/-- A shift by `shcnt32` or `shcnt64`, by `x`. -/
def decShift (k32 : RegNum → RegNum → RegOrImm 5 → Instr) (k64 : RegNum → RegNum → RegOrImm 6 → Instr)
    (w : Word32) : Decoded :=
  if (fieldLow w).extractLsb' 12 1 = 1#1 then readOr (readShift64 (fieldLow w)) (k64 (fieldRd w) (fieldRs1 w))
  else readOr (readShift32 (fieldLow w)) (k32 (fieldRd w) (fieldRs1 w))
/-- `rd`, `rs1`, ASI operand. -/
def decAlt (k : RegNum → RegNum → AsiOperand → Instr) (w : Word32) : Decoded :=
  .ok (k (fieldRd w) (fieldRs1 w) (readAsi (fieldLow w)))
/-- A compare and swap. -/
def decCas (k : RegNum → RegNum → RegNum → CasAsi → Instr) (w : Word32) : Decoded :=
  readOr (readCas (fieldLow w)) (k (fieldRd w) (fieldRs1 w) (lowRs2 (fieldLow w)))
/-- `rd` alone: bits 13:0 are reserved. -/
def decRd (k : RegNum → Instr) (w : Word32) : Decoded :=
  requireZero (fieldLow w == 0#14) (.ok (k (fieldRd w)))
/-- A word with no operand, every other bit zero. -/
def decFull (i : Instr) (w : Word32) : Decoded :=
  requireZero (fieldRs1 w == 0#5 && fieldLow w == 0#14) (.ok i)
/-- `rd`, `rs1`, `rs2` of an F register operation. -/
def decF3 (k : RegNum → RegNum → RegNum → Instr) (w : Word32) : Decoded :=
  .ok (k (fieldRd w) (fieldRs1 w) (lowRs2 (fieldLow w)))
/-- `rd` and `rs2`: `rs1` is reserved. -/
def decF2 (k : RegNum → RegNum → Instr) (w : Word32) : Decoded :=
  requireZero (fieldRs1 w == 0#5) (.ok (k (fieldRd w) (lowRs2 (fieldLow w))))
/-- `rd` and `rs1`: `rs2` is reserved. -/
def decF1 (k : RegNum → RegNum → Instr) (w : Word32) : Decoded :=
  requireZero (lowRs2 (fieldLow w) == 0#5) (.ok (k (fieldRd w) (fieldRs1 w)))
/-- `rd`: `rs1` and `rs2` are reserved. -/
def decF0 (k : RegNum → Instr) (w : Word32) : Decoded :=
  requireZero (fieldRs1 w == 0#5 && lowRs2 (fieldLow w) == 0#5) (.ok (k (fieldRd w)))
/-- FCMP and FCMPE: bits 29:27 reserved, the condition code in 26:25. -/
def decFcmp (k : FccNum → RegNum → RegNum → Instr) (w : Word32) : Decoded :=
  requireZero ((fieldRd w).extractLsb' 2 3 == 0#3)
    (.ok (k ((fieldRd w).extractLsb' 0 2) (fieldRs1 w) (lowRs2 (fieldLow w))))
/-- FMOVcc on an integer condition code: bit 18 reserved, `cond` in 17:14. -/
def decFmovIcc (k : RegNum → BitVec 4 → RegNum → Instr) (w : Word32) : Decoded :=
  requireZero ((fieldRs1 w).extractLsb' 4 1 == 0#1)
    (.ok (k (fieldRd w) ((fieldRs1 w).extractLsb' 0 4) (lowRs2 (fieldLow w))))
/-- FMOVcc on `fcc`: bit 18 reserved, `cond` in 17:14. -/
def decFmovFcc (k : RegNum → FccNum → BitVec 4 → RegNum → Instr) (fcc : FccNum) (w : Word32) : Decoded :=
  requireZero ((fieldRs1 w).extractLsb' 4 1 == 0#1)
    (.ok (k (fieldRd w) fcc ((fieldRs1 w).extractLsb' 0 4) (lowRs2 (fieldLow w))))
/-- An FMAf operation. -/
def decFma (k : RegNum → RegNum → RegNum → RegNum → Instr) (w : Word32) : Decoded :=
  .ok (k (fieldRd w) (fieldRs1 w) (lowRs3 (fieldLow w)) (lowRs2 (fieldLow w)))
/-- Bicc and FBfcc. -/
def decBranch (k : Bool → BitVec 22 → Instr) (w : Word32) : Decoded :=
  .ok (k ((fieldRd w).getLsbD 4) (fieldLow22 w))
/-- BPcc. -/
def decBpcc (k : Bool → IntCc → Bool → BitVec 19 → Instr) (w : Word32) : Decoded :=
  readOr (readIntCc ((fieldLow22 w).extractLsb' 20 2))
    (fun cc => k ((fieldRd w).getLsbD 4) cc ((fieldLow22 w).getLsbD 19) ((fieldLow22 w).extractLsb' 0 19))
/-- FBPfcc. -/
def decFbp (k : Bool → FccNum → Bool → BitVec 19 → Instr) (w : Word32) : Decoded :=
  .ok (k ((fieldRd w).getLsbD 4) ((fieldLow22 w).extractLsb' 20 2) ((fieldLow22 w).getLsbD 19)
    ((fieldLow22 w).extractLsb' 0 19))
/-- BPr. -/
def decBpr (k : Bool → BitVec 16 → Bool → RegNum → Instr) (w : Word32) : Decoded :=
  .ok (k ((fieldRd w).getLsbD 4) ((fieldLow22 w).extractLsb' 20 2 ++ (fieldLow22 w).extractLsb' 0 14)
    ((fieldLow22 w).getLsbD 19) ((fieldLow22 w).extractLsb' 14 5))
/-- MOVcc on `icc` or `xcc`: `cc2 = 1`. -/
def decMovIcc (k : RegNum → IntCc → RegOrImm 11 → Instr) (w : Word32) : Decoded :=
  match readIntCc (lowCc (fieldLow w)) with
  | some cc => readOr (readMovcc (fieldLow w)) (k (fieldRd w) cc)
  | none => .error .reservedOpcode
/-- MOVcc on `fcc0` to `fcc3`: `cc2 = 0`. -/
def decMovFcc (k : RegNum → FccNum → RegOrImm 11 → Instr) (w : Word32) : Decoded :=
  readOr (readMovcc (fieldLow w)) (k (fieldRd w) (lowCc (fieldLow w)))
/-- MOVr. -/
def decMovr (k : RegNum → RegNum → RegOrImm 10 → Instr) (w : Word32) : Decoded :=
  readOr (readMovr (fieldLow w)) (k (fieldRd w) (fieldRs1 w))
/-- Tcc. -/
def decTcc (k : RegNum → IntCc → RegOrImm 8 → Instr) (w : Word32) : Decoded :=
  match readIntCc (lowCc (fieldLow w)) with
  | some cc => readOr (readTcc (fieldLow w)) (k (fieldRs1 w) cc)
  | none => .error .reservedOpcode

/-- Bicc by `cond` (30_encoding.md R369). -/
def decodeBicc (w : Word32) : Decoded :=
  match ((fieldRd w).extractLsb' 0 4).toNat with
  | 0x0 => decBranch .bn w
  | 0x1 => decBranch .be w
  | 0x2 => decBranch .ble w
  | 0x3 => decBranch .bl w
  | 0x4 => decBranch .bleu w
  | 0x5 => decBranch .bcs w
  | 0x6 => decBranch .bneg w
  | 0x7 => decBranch .bvs w
  | 0x8 => decBranch .ba w
  | 0x9 => decBranch .bne w
  | 0xA => decBranch .bg w
  | 0xB => decBranch .bge w
  | 0xC => decBranch .bgu w
  | 0xD => decBranch .bcc w
  | 0xE => decBranch .bpos w
  | 0xF => decBranch .bvc w
  | _ => .error .reservedOpcode

/-- FBfcc by `cond` (30_encoding.md R369). -/
def decodeFbfcc (w : Word32) : Decoded :=
  match ((fieldRd w).extractLsb' 0 4).toNat with
  | 0x0 => decBranch .fbn w
  | 0x1 => decBranch .fbne w
  | 0x2 => decBranch .fblg w
  | 0x3 => decBranch .fbul w
  | 0x4 => decBranch .fbl w
  | 0x5 => decBranch .fbug w
  | 0x6 => decBranch .fbg w
  | 0x7 => decBranch .fbu w
  | 0x8 => decBranch .fba w
  | 0x9 => decBranch .fbe w
  | 0xA => decBranch .fbue w
  | 0xB => decBranch .fbge w
  | 0xC => decBranch .fbuge w
  | 0xD => decBranch .fble w
  | 0xE => decBranch .fbule w
  | 0xF => decBranch .fbo w
  | _ => .error .reservedOpcode

/-- BPcc by `cond` (30_encoding.md R369). -/
def decodeBpcc (w : Word32) : Decoded :=
  match ((fieldRd w).extractLsb' 0 4).toNat with
  | 0x0 => decBpcc .bpn w
  | 0x1 => decBpcc .bpe w
  | 0x2 => decBpcc .bple w
  | 0x3 => decBpcc .bpl w
  | 0x4 => decBpcc .bpleu w
  | 0x5 => decBpcc .bpcs w
  | 0x6 => decBpcc .bpneg w
  | 0x7 => decBpcc .bpvs w
  | 0x8 => decBpcc .bpa w
  | 0x9 => decBpcc .bpne w
  | 0xA => decBpcc .bpg w
  | 0xB => decBpcc .bpge w
  | 0xC => decBpcc .bpgu w
  | 0xD => decBpcc .bpcc w
  | 0xE => decBpcc .bppos w
  | 0xF => decBpcc .bpvc w
  | _ => .error .reservedOpcode

/-- FBPfcc by `cond` (30_encoding.md R369). -/
def decodeFbpfcc (w : Word32) : Decoded :=
  match ((fieldRd w).extractLsb' 0 4).toNat with
  | 0x0 => decFbp .fbpn w
  | 0x1 => decFbp .fbpne w
  | 0x2 => decFbp .fbplg w
  | 0x3 => decFbp .fbpul w
  | 0x4 => decFbp .fbpl w
  | 0x5 => decFbp .fbpug w
  | 0x6 => decFbp .fbpg w
  | 0x7 => decFbp .fbpu w
  | 0x8 => decFbp .fbpa w
  | 0x9 => decFbp .fbpe w
  | 0xA => decFbp .fbpue w
  | 0xB => decFbp .fbpge w
  | 0xC => decFbp .fbpuge w
  | 0xD => decFbp .fbple w
  | 0xE => decFbp .fbpule w
  | 0xF => decFbp .fbpo w
  | _ => .error .reservedOpcode

/-- BPr by bit 28 and `rcond`: bit 28 = 1 and the values 000 and 100 are reserved (30_encoding.md R334). -/
def decodeBpr (w : Word32) : Decoded :=
  match ((fieldRd w).extractLsb' 0 4).toNat with
  | 0x1 => decBpr .brz w
  | 0x2 => decBpr .brlez w
  | 0x3 => decBpr .brlz w
  | 0x5 => decBpr .brnz w
  | 0x6 => decBpr .brgz w
  | 0x7 => decBpr .brgez w
  | _ => .error .reservedOpcode

/-- SETHI, or NOP for `sethi 0, %g0` (30_encoding.md R332). -/
def decodeSethi (w : Word32) : Decoded :=
  if fieldRd w = 0#5 ∧ fieldLow22 w = 0#22 then .ok .nop else .ok (.sethi (fieldRd w) (fieldLow22 w))

/-- `op = 00`, by `op2` (30_encoding.md R361). -/
def decodeFormat2 (w : Word32) : Decoded :=
  match (fieldOp2 w).toNat with
  | 0x0 => .ok (.illtrap (fieldRd w) (fieldLow22 w))
  | 0x1 => decodeBpcc w
  | 0x2 => decodeBicc w
  | 0x3 => decodeBpr w
  | 0x4 => decodeSethi w
  | 0x5 => decodeFbpfcc w
  | 0x6 => decodeFbfcc w
  | _ => .error .reservedOpcode

/-- MOVcc by `cc2` (bit 18) and `cond` (17:14) (30_encoding.md R336, R369). -/
def decodeMovcc (w : Word32) : Decoded :=
  match (fieldRs1 w).toNat with
  | 0x00 => decMovFcc .movfn w
  | 0x01 => decMovFcc .movfne w
  | 0x02 => decMovFcc .movflg w
  | 0x03 => decMovFcc .movful w
  | 0x04 => decMovFcc .movfl w
  | 0x05 => decMovFcc .movfug w
  | 0x06 => decMovFcc .movfg w
  | 0x07 => decMovFcc .movfu w
  | 0x08 => decMovFcc .movfa w
  | 0x09 => decMovFcc .movfe w
  | 0x0A => decMovFcc .movfue w
  | 0x0B => decMovFcc .movfge w
  | 0x0C => decMovFcc .movfuge w
  | 0x0D => decMovFcc .movfle w
  | 0x0E => decMovFcc .movfule w
  | 0x0F => decMovFcc .movfo w
  | 0x10 => decMovIcc .movn w
  | 0x11 => decMovIcc .move w
  | 0x12 => decMovIcc .movle w
  | 0x13 => decMovIcc .movl w
  | 0x14 => decMovIcc .movleu w
  | 0x15 => decMovIcc .movcs w
  | 0x16 => decMovIcc .movneg w
  | 0x17 => decMovIcc .movvs w
  | 0x18 => decMovIcc .mova w
  | 0x19 => decMovIcc .movne w
  | 0x1A => decMovIcc .movg w
  | 0x1B => decMovIcc .movge w
  | 0x1C => decMovIcc .movgu w
  | 0x1D => decMovIcc .movcc w
  | 0x1E => decMovIcc .movpos w
  | 0x1F => decMovIcc .movvc w
  | _ => .error .reservedOpcode

/-- MOVr by `rcond`: 000 and 100 are reserved (30_encoding.md R337, R352). -/
def decodeMovr (w : Word32) : Decoded :=
  match (lowRcond (fieldLow w)).toNat with
  | 0x1 => decMovr .movrz w
  | 0x2 => decMovr .movrlez w
  | 0x3 => decMovr .movrlz w
  | 0x5 => decMovr .movrnz w
  | 0x6 => decMovr .movrgz w
  | 0x7 => decMovr .movrgez w
  | _ => .error .reservedOpcode

/-- Tcc by bit 29, which must be 0, and `cond` (30_encoding.md R338, R369). -/
def decodeTcc (w : Word32) : Decoded :=
  match (fieldRd w).toNat with
  | 0x00 => decTcc .tn w
  | 0x01 => decTcc .te w
  | 0x02 => decTcc .tle w
  | 0x03 => decTcc .tl w
  | 0x04 => decTcc .tleu w
  | 0x05 => decTcc .tcs w
  | 0x06 => decTcc .tneg w
  | 0x07 => decTcc .tvs w
  | 0x08 => decTcc .ta w
  | 0x09 => decTcc .tne w
  | 0x0A => decTcc .tg w
  | 0x0B => decTcc .tge w
  | 0x0C => decTcc .tgu w
  | 0x0D => decTcc .tcc w
  | 0x0E => decTcc .tpos w
  | 0x0F => decTcc .tvc w
  | _ => .error .reservedOpcode

/-- MEMBAR: `rs1 = 15`, `rd = 0`, `i = 1`, bits 12:7 reserved; every other pattern with `rs1 = 15` is reserved (30_encoding.md R335, R363). -/
def decodeMembar (w : Word32) : Decoded :=
  if fieldRd w = 0#5 ∧ (fieldLow w).extractLsb' 7 7 = 0x40#7 then
    .ok (.membar ((fieldLow w).extractLsb' 4 3) ((fieldLow w).extractLsb' 0 4))
  else .error .reservedOpcode

/-- RDasr by `rs1` (30_encoding.md R363). -/
def decodeRdasr (w : Word32) : Decoded :=
  match (fieldRs1 w).toNat with
  | 0x00 => decRd .rdy w
  | 0x02 => decRd .rdccr w
  | 0x03 => decRd .rdasi w
  | 0x04 => decRd .rdtick w
  | 0x05 => decRd .rdpc w
  | 0x06 => decRd .rdfprs w
  | 0x0F => decodeMembar w
  | 0x13 => decRd .rdgsr w
  | 0x16 => decRd .rdsoftint w
  | 0x17 => decRd .rdtickCmpr w
  | 0x18 => decRd .rdstick w
  | 0x19 => decRd .rdstickCmpr w
  | _ => .error .reservedOpcode

/-- RDasr or WRasr of ASR 16 or 17, PCR or PIC, which `PERF_ASRS` would add (44_window_and_state.md R1086; 90_conflicts.md C20). -/
def namesPerfAsr (w : Word32) : Bool :=
  w.extractLsb' 30 2 == 2#2
    && ((w.extractLsb' 19 6 == 0x28#6 && (fieldRs1 w == 16#5 || fieldRs1 w == 17#5))
      || (w.extractLsb' 19 6 == 0x30#6 && (fieldRd w == 16#5 || fieldRd w == 17#5)))

/-- WRasr by `rd` (30_encoding.md R363). -/
def decodeWrasr (w : Word32) : Decoded :=
  match (fieldRd w).toNat with
  | 0x00 => decAddr .wry w
  | 0x02 => decAddr .wrccr w
  | 0x03 => decAddr .wrasi w
  | 0x06 => decAddr .wrfprs w
  | 0x13 => decAddr .wrgsr w
  | 0x14 => decAddr .wrsoftintSet w
  | 0x15 => decAddr .wrsoftintClr w
  | 0x16 => decAddr .wrsoftint w
  | 0x17 => decAddr .wrtickCmpr w
  | 0x19 => decAddr .wrstickCmpr w
  | _ => .error .reservedOpcode

/-- RDPR by `rs1` (30_encoding.md R362). -/
def decodeRdpr (w : Word32) : Decoded :=
  match (fieldRs1 w).toNat with
  | 0x00 => decRd .rdprTpc w
  | 0x01 => decRd .rdprTnpc w
  | 0x02 => decRd .rdprTstate w
  | 0x03 => decRd .rdprTt w
  | 0x04 => decRd .rdprTick w
  | 0x05 => decRd .rdprTba w
  | 0x06 => decRd .rdprPstate w
  | 0x07 => decRd .rdprTl w
  | 0x08 => decRd .rdprPil w
  | 0x09 => decRd .rdprCwp w
  | 0x0A => decRd .rdprCansave w
  | 0x0B => decRd .rdprCanrestore w
  | 0x0C => decRd .rdprCleanwin w
  | 0x0D => decRd .rdprOtherwin w
  | 0x0E => decRd .rdprWstate w
  | 0x10 => decRd .rdprGl w
  | _ => .error .reservedOpcode

/-- WRPR by `rd` (30_encoding.md R362). -/
def decodeWrpr (w : Word32) : Decoded :=
  match (fieldRd w).toNat with
  | 0x00 => decAddr .wrprTpc w
  | 0x01 => decAddr .wrprTnpc w
  | 0x02 => decAddr .wrprTstate w
  | 0x03 => decAddr .wrprTt w
  | 0x05 => decAddr .wrprTba w
  | 0x06 => decAddr .wrprPstate w
  | 0x07 => decAddr .wrprTl w
  | 0x08 => decAddr .wrprPil w
  | 0x09 => decAddr .wrprCwp w
  | 0x0A => decAddr .wrprCansave w
  | 0x0B => decAddr .wrprCanrestore w
  | 0x0C => decAddr .wrprCleanwin w
  | 0x0D => decAddr .wrprOtherwin w
  | 0x0E => decAddr .wrprWstate w
  | 0x10 => decAddr .wrprGl w
  | _ => .error .reservedOpcode

/-- The SAVED group by `fcn` (30_encoding.md R339). -/
def decodeSaved (w : Word32) : Decoded :=
  match (fieldRd w).toNat with
  | 0x0 => decFull .saved w
  | 0x1 => decFull .restored w
  | 0x2 => decFull .allclean w
  | 0x3 => decFull .otherw w
  | 0x4 => decFull .normalw w
  | 0x5 => decFull .invalw w
  | _ => .error .reservedOpcode

/-- DONE and RETRY by `fcn` (30_encoding.md R339). -/
def decodeDone (w : Word32) : Decoded :=
  match (fieldRd w).toNat with
  | 0x0 => decFull .done w
  | 0x1 => decFull .retry w
  | _ => .error .reservedOpcode

/-- FPop1 by `opf` (30_encoding.md R365). -/
def decodeFpop1 (w : Word32) : Decoded :=
  match (lowOpf (fieldLow w)).toNat with
  | 0x001 => decF2 .fmovs w
  | 0x002 => decF2 .fmovd w
  | 0x003 => decF2 .fmovq w
  | 0x005 => decF2 .fnegs w
  | 0x006 => decF2 .fnegd w
  | 0x007 => decF2 .fnegq w
  | 0x009 => decF2 .fabss w
  | 0x00A => decF2 .fabsd w
  | 0x00B => decF2 .fabsq w
  | 0x029 => decF2 .fsqrts w
  | 0x02A => decF2 .fsqrtd w
  | 0x02B => decF2 .fsqrtq w
  | 0x041 => decF3 .fadds w
  | 0x042 => decF3 .faddd w
  | 0x043 => decF3 .faddq w
  | 0x045 => decF3 .fsubs w
  | 0x046 => decF3 .fsubd w
  | 0x047 => decF3 .fsubq w
  | 0x049 => decF3 .fmuls w
  | 0x04A => decF3 .fmuld w
  | 0x04B => decF3 .fmulq w
  | 0x04D => decF3 .fdivs w
  | 0x04E => decF3 .fdivd w
  | 0x04F => decF3 .fdivq w
  | 0x069 => decF3 .fsmuld w
  | 0x06E => decF3 .fdmulq w
  | 0x081 => decF2 .fstox w
  | 0x082 => decF2 .fdtox w
  | 0x083 => decF2 .fqtox w
  | 0x084 => decF2 .fxtos w
  | 0x088 => decF2 .fxtod w
  | 0x08C => decF2 .fxtoq w
  | 0x0C4 => decF2 .fitos w
  | 0x0C6 => decF2 .fdtos w
  | 0x0C7 => decF2 .fqtos w
  | 0x0C8 => decF2 .fitod w
  | 0x0C9 => decF2 .fstod w
  | 0x0CB => decF2 .fqtod w
  | 0x0CC => decF2 .fitoq w
  | 0x0CD => decF2 .fstoq w
  | 0x0CE => decF2 .fdtoq w
  | 0x0D1 => decF2 .fstoi w
  | 0x0D2 => decF2 .fdtoi w
  | 0x0D3 => decF2 .fqtoi w
  | _ => .error .reservedOpcode

/-- FPop2 by `opf` (30_encoding.md R366). -/
def decodeFpop2 (w : Word32) : Decoded :=
  match (lowOpf (fieldLow w)).toNat with
  | 0x001 => decFmovFcc .fmovsfcc 0 w
  | 0x002 => decFmovFcc .fmovdfcc 0 w
  | 0x003 => decFmovFcc .fmovqfcc 0 w
  | 0x025 => decF3 .fmovrsz w
  | 0x026 => decF3 .fmovrdz w
  | 0x027 => decF3 .fmovrqz w
  | 0x041 => decFmovFcc .fmovsfcc 1 w
  | 0x042 => decFmovFcc .fmovdfcc 1 w
  | 0x043 => decFmovFcc .fmovqfcc 1 w
  | 0x045 => decF3 .fmovrslez w
  | 0x046 => decF3 .fmovrdlez w
  | 0x047 => decF3 .fmovrqlez w
  | 0x051 => decFcmp .fcmps w
  | 0x052 => decFcmp .fcmpd w
  | 0x053 => decFcmp .fcmpq w
  | 0x055 => decFcmp .fcmpes w
  | 0x056 => decFcmp .fcmped w
  | 0x057 => decFcmp .fcmpeq w
  | 0x065 => decF3 .fmovrslz w
  | 0x066 => decF3 .fmovrdlz w
  | 0x067 => decF3 .fmovrqlz w
  | 0x081 => decFmovFcc .fmovsfcc 2 w
  | 0x082 => decFmovFcc .fmovdfcc 2 w
  | 0x083 => decFmovFcc .fmovqfcc 2 w
  | 0x0A5 => decF3 .fmovrsnz w
  | 0x0A6 => decF3 .fmovrdnz w
  | 0x0A7 => decF3 .fmovrqnz w
  | 0x0C1 => decFmovFcc .fmovsfcc 3 w
  | 0x0C2 => decFmovFcc .fmovdfcc 3 w
  | 0x0C3 => decFmovFcc .fmovqfcc 3 w
  | 0x0C5 => decF3 .fmovrsgz w
  | 0x0C6 => decF3 .fmovrdgz w
  | 0x0C7 => decF3 .fmovrqgz w
  | 0x0E5 => decF3 .fmovrsgez w
  | 0x0E6 => decF3 .fmovrdgez w
  | 0x0E7 => decF3 .fmovrqgez w
  | 0x101 => decFmovIcc .fmovsicc w
  | 0x102 => decFmovIcc .fmovdicc w
  | 0x103 => decFmovIcc .fmovqicc w
  | 0x181 => decFmovIcc .fmovsxcc w
  | 0x182 => decFmovIcc .fmovdxcc w
  | 0x183 => decFmovIcc .fmovqxcc w
  | _ => .error .reservedOpcode

/-- SIAM: `rd`, `rs1` and bits 4:3 are reserved (46_vis.md R1521). -/
def decodeSiam (w : Word32) : Decoded :=
  requireZero (fieldRd w == 0#5 && fieldRs1 w == 0#5 && (fieldLow w).extractLsb' 3 2 == 0#2)
    (.ok (.siam ((fieldLow w).extractLsb' 0 3)))

/-- VIS by `opf` (30_encoding.md R367). -/
def decodeVis (w : Word32) : Decoded :=
  match (lowOpf (fieldLow w)).toNat with
  | 0x000 => decF3 .edge8cc w
  | 0x001 => decF3 .edge8n w
  | 0x002 => decF3 .edge8lcc w
  | 0x003 => decF3 .edge8ln w
  | 0x004 => decF3 .edge16cc w
  | 0x005 => decF3 .edge16n w
  | 0x006 => decF3 .edge16lcc w
  | 0x007 => decF3 .edge16ln w
  | 0x008 => decF3 .edge32cc w
  | 0x009 => decF3 .edge32n w
  | 0x00A => decF3 .edge32lcc w
  | 0x00B => decF3 .edge32ln w
  | 0x010 => decF3 .array8 w
  | 0x012 => decF3 .array16 w
  | 0x014 => decF3 .array32 w
  | 0x018 => decF3 .alignaddress w
  | 0x019 => decF3 .bmask w
  | 0x01A => decF3 .alignaddressLittle w
  | 0x020 => decF3 .fcmple16 w
  | 0x022 => decF3 .fcmpne16 w
  | 0x024 => decF3 .fcmple32 w
  | 0x026 => decF3 .fcmpne32 w
  | 0x028 => decF3 .fcmpgt16 w
  | 0x02A => decF3 .fcmpeq16 w
  | 0x02C => decF3 .fcmpgt32 w
  | 0x02E => decF3 .fcmpeq32 w
  | 0x031 => decF3 .fmul8x16 w
  | 0x033 => decF3 .fmul8x16au w
  | 0x035 => decF3 .fmul8x16al w
  | 0x036 => decF3 .fmul8sux16 w
  | 0x037 => decF3 .fmul8ulx16 w
  | 0x038 => decF3 .fmuld8sux16 w
  | 0x039 => decF3 .fmuld8ulx16 w
  | 0x03A => decF3 .fpack32 w
  | 0x03B => decF2 .fpack16 w
  | 0x03D => decF2 .fpackfix w
  | 0x03E => decF3 .pdist w
  | 0x048 => decF3 .faligndata w
  | 0x04B => decF3 .fpmerge w
  | 0x04C => decF3 .bshuffle w
  | 0x04D => decF2 .fexpand w
  | 0x050 => decF3 .fpadd16 w
  | 0x051 => decF3 .fpadd16s w
  | 0x052 => decF3 .fpadd32 w
  | 0x053 => decF3 .fpadd32s w
  | 0x054 => decF3 .fpsub16 w
  | 0x055 => decF3 .fpsub16s w
  | 0x056 => decF3 .fpsub32 w
  | 0x057 => decF3 .fpsub32s w
  | 0x060 => decF0 .fzerod w
  | 0x061 => decF0 .fzeros w
  | 0x062 => decF3 .fnord w
  | 0x063 => decF3 .fnors w
  | 0x064 => decF3 .fandnot2d w
  | 0x065 => decF3 .fandnot2s w
  | 0x066 => decF2 .fnot2d w
  | 0x067 => decF2 .fnot2s w
  | 0x068 => decF3 .fandnot1d w
  | 0x069 => decF3 .fandnot1s w
  | 0x06A => decF1 .fnot1d w
  | 0x06B => decF1 .fnot1s w
  | 0x06C => decF3 .fxord w
  | 0x06D => decF3 .fxors w
  | 0x06E => decF3 .fnandd w
  | 0x06F => decF3 .fnands w
  | 0x070 => decF3 .fandd w
  | 0x071 => decF3 .fands w
  | 0x072 => decF3 .fxnord w
  | 0x073 => decF3 .fxnors w
  | 0x074 => decF1 .fsrc1d w
  | 0x075 => decF1 .fsrc1s w
  | 0x076 => decF3 .fornot2d w
  | 0x077 => decF3 .fornot2s w
  | 0x078 => decF2 .fsrc2d w
  | 0x079 => decF2 .fsrc2s w
  | 0x07A => decF3 .fornot1d w
  | 0x07B => decF3 .fornot1s w
  | 0x07C => decF3 .ford w
  | 0x07D => decF3 .fors w
  | 0x07E => decF0 .foned w
  | 0x07F => decF0 .fones w
  | 0x081 => decodeSiam w
  | _ => .error .reservedOpcode

/-- FMAf by `op5` (30_encoding.md R368). -/
def decodeFma (w : Word32) : Decoded :=
  match (lowOp5 (fieldLow w)).toNat with
  | 0x1 => decFma .fmadds w
  | 0x2 => decFma .fmaddd w
  | 0x5 => decFma .fmsubs w
  | 0x6 => decFma .fmsubd w
  | 0x9 => decFma .fnmsubs w
  | 0xA => decFma .fnmsubd w
  | 0xD => decFma .fnmadds w
  | 0xE => decFma .fnmaddd w
  | _ => .error .reservedOpcode

/-- POPC: `rs1` nonzero is reserved (30_encoding.md R362). -/
def decodePopc (w : Word32) : Decoded :=
  if fieldRs1 w = 0#5 then readOr (readRegImm13 (fieldLow w)) (.popc (fieldRd w)) else .error .reservedOpcode

/-- FLUSHW: `i` is ignored, every other bit reserved (30_encoding.md R339, R341). -/
def decodeFlushw (w : Word32) : Decoded :=
  requireZero (fieldRd w == 0#5 && fieldRs1 w == 0#5 && (fieldLow w).extractLsb' 0 13 == 0#13)
    (.ok (.flushw ((fieldLow w).getLsbD 13)))

/-- `op = 10`, by `op3` (30_encoding.md R362). -/
def decodeArith (w : Word32) : Decoded :=
  match (fieldOp3 w).toNat with
  | 0x00 => decAlu .add w
  | 0x01 => decAlu .and w
  | 0x02 => decAlu .or w
  | 0x03 => decAlu .xor w
  | 0x04 => decAlu .sub w
  | 0x05 => decAlu .andn w
  | 0x06 => decAlu .orn w
  | 0x07 => decAlu .xnor w
  | 0x08 => decAlu .addc w
  | 0x09 => decAlu .mulx w
  | 0x0A => decAlu .umul w
  | 0x0B => decAlu .smul w
  | 0x0C => decAlu .subc w
  | 0x0D => decAlu .udivx w
  | 0x0E => decAlu .udiv w
  | 0x0F => decAlu .sdiv w
  | 0x10 => decAlu .addcc w
  | 0x11 => decAlu .andcc w
  | 0x12 => decAlu .orcc w
  | 0x13 => decAlu .xorcc w
  | 0x14 => decAlu .subcc w
  | 0x15 => decAlu .andncc w
  | 0x16 => decAlu .orncc w
  | 0x17 => decAlu .xnorcc w
  | 0x18 => decAlu .addccc w
  | 0x1A => decAlu .umulcc w
  | 0x1B => decAlu .smulcc w
  | 0x1C => decAlu .subccc w
  | 0x1E => decAlu .udivcc w
  | 0x1F => decAlu .sdivcc w
  | 0x20 => decAlu .taddcc w
  | 0x21 => decAlu .tsubcc w
  | 0x22 => decAlu .taddcctv w
  | 0x23 => decAlu .tsubcctv w
  | 0x24 => decAlu .mulscc w
  | 0x25 => decShift .sll .sllx w
  | 0x26 => decShift .srl .srlx w
  | 0x27 => decShift .sra .srax w
  | 0x28 => decodeRdasr w
  | 0x2A => decodeRdpr w
  | 0x2B => decodeFlushw w
  | 0x2C => decodeMovcc w
  | 0x2D => decAlu .sdivx w
  | 0x2E => decodePopc w
  | 0x2F => decodeMovr w
  | 0x30 => decodeWrasr w
  | 0x31 => decodeSaved w
  | 0x32 => decodeWrpr w
  | 0x34 => decodeFpop1 w
  | 0x35 => decodeFpop2 w
  | 0x36 => decodeVis w
  | 0x37 => decodeFma w
  | 0x38 => decAlu .jmpl w
  | 0x39 => requireZero (fieldRd w == 0#5) (decAddr .return_ w)
  | 0x3A => decodeTcc w
  | 0x3B => requireZero (fieldRd w == 0#5) (decAddr .flush w)
  | 0x3C => decAlu .save w
  | 0x3D => decAlu .restore w
  | 0x3E => decodeDone w
  | _ => .error .reservedOpcode

/-- The LDTWA opcode: LDTXA for a TWINX `imm_asi` (20_memory.md R215). -/
def decodeLdtwa (w : Word32) : Decoded :=
  requireEven (fieldRd w) <|
    match readAsi (fieldLow w) with
    | .immAsi rs2 asi =>
      if isTwinxAsi asi then .ok (.ldtxa (fieldRd w) (fieldRs1 w) rs2 asi)
      else .ok (.ldtwa (fieldRd w) (fieldRs1 w) (.immAsi rs2 asi))
    | .asiReg v => .ok (.ldtwa (fieldRd w) (fieldRs1 w) (.asiReg v))

/-- The LDDFA opcode: LDBLOCKF for a BLOCK `imm_asi`, LDSHORTF for a SHORT one (20_memory.md R215). -/
def decodeLddfa (w : Word32) : Decoded :=
  match readAsi (fieldLow w) with
  | .immAsi rs2 asi =>
    if isBlockAsi asi then .ok (.ldblockf (fieldRd w) (fieldRs1 w) rs2 asi)
    else if isShortAsi asi then .ok (.ldshortf (fieldRd w) (fieldRs1 w) rs2 asi)
    else .ok (.lddfa (fieldRd w) (fieldRs1 w) (.immAsi rs2 asi))
  | .asiReg v => .ok (.lddfa (fieldRd w) (fieldRs1 w) (.asiReg v))

/-- The STDFA opcode: STBLOCKF for a BLOCK or COMMIT `imm_asi`, STSHORTF for a SHORT one, STPARTIALF for a PST one (20_memory.md R215). -/
def decodeStdfa (w : Word32) : Decoded :=
  match readAsi (fieldLow w) with
  | .immAsi rs2 asi =>
    if isBlockStoreAsi asi then .ok (.stblockf (fieldRd w) (fieldRs1 w) rs2 asi)
    else if isShortAsi asi then .ok (.stshortf (fieldRd w) (fieldRs1 w) rs2 asi)
    else if isPartialAsi asi then .ok (.stpartialf (fieldRd w) (fieldRs1 w) rs2 asi)
    else .ok (.stdfa (fieldRd w) (fieldRs1 w) (.immAsi rs2 asi))
  | .asiReg v => .ok (.stdfa (fieldRd w) (fieldRs1 w) (.asiReg v))

/-- PREFETCH: functions 5 to 15 are reserved (30_encoding.md R364). -/
def decodePrefetch (w : Word32) : Decoded :=
  if prefetchFcnDefined (fieldRd w) then decAlu .prefetch w else .error .reservedOpcode

/-- PREFETCHA: functions 5 to 15 are reserved (30_encoding.md R364). -/
def decodePrefetcha (w : Word32) : Decoded :=
  if prefetchFcnDefined (fieldRd w) then decAlt .prefetcha w else .error .reservedOpcode

/-- LDFSR and LDXFSR by `rd` (30_encoding.md R364). -/
def decodeLdfsr (w : Word32) : Decoded :=
  match (fieldRd w).toNat with
  | 0x0 => decAddr .ldfsr w
  | 0x1 => decAddr .ldxfsr w
  | _ => .error .reservedOpcode

/-- STFSR and STXFSR by `rd` (30_encoding.md R364). -/
def decodeStfsr (w : Word32) : Decoded :=
  match (fieldRd w).toNat with
  | 0x0 => decAddr .stfsr w
  | 0x1 => decAddr .stxfsr w
  | _ => .error .reservedOpcode

/-- `op = 11`, by `op3` (30_encoding.md R364). -/
def decodeMem (w : Word32) : Decoded :=
  match (fieldOp3 w).toNat with
  | 0x00 => decAlu .lduw w
  | 0x01 => decAlu .ldub w
  | 0x02 => decAlu .lduh w
  | 0x03 => requireEven (fieldRd w) (decAlu .ldtw w)
  | 0x04 => decAlu .stw w
  | 0x05 => decAlu .stb w
  | 0x06 => decAlu .sth w
  | 0x07 => requireEven (fieldRd w) (decAlu .sttw w)
  | 0x08 => decAlu .ldsw w
  | 0x09 => decAlu .ldsb w
  | 0x0A => decAlu .ldsh w
  | 0x0B => decAlu .ldx w
  | 0x0D => decAlu .ldstub w
  | 0x0E => decAlu .stx w
  | 0x0F => decAlu .swap w
  | 0x10 => decAlt .lduwa w
  | 0x11 => decAlt .lduba w
  | 0x12 => decAlt .lduha w
  | 0x13 => decodeLdtwa w
  | 0x14 => decAlt .stwa w
  | 0x15 => decAlt .stba w
  | 0x16 => decAlt .stha w
  | 0x17 => requireEven (fieldRd w) (decAlt .sttwa w)
  | 0x18 => decAlt .ldswa w
  | 0x19 => decAlt .ldsba w
  | 0x1A => decAlt .ldsha w
  | 0x1B => decAlt .ldxa w
  | 0x1D => decAlt .ldstuba w
  | 0x1E => decAlt .stxa w
  | 0x1F => decAlt .swapa w
  | 0x20 => decAlu .ldf w
  | 0x21 => decodeLdfsr w
  | 0x22 => decAlu .ldqf w
  | 0x23 => decAlu .lddf w
  | 0x24 => decAlu .stf w
  | 0x25 => decodeStfsr w
  | 0x26 => decAlu .stqf w
  | 0x27 => decAlu .stdf w
  | 0x2D => decodePrefetch w
  | 0x30 => decAlt .ldfa w
  | 0x32 => decAlt .ldqfa w
  | 0x33 => decodeLddfa w
  | 0x34 => decAlt .stfa w
  | 0x36 => decAlt .stqfa w
  | 0x37 => decodeStdfa w
  | 0x3C => decCas .casa w
  | 0x3D => decodePrefetcha w
  | 0x3E => decCas .casxa w
  | _ => .error .reservedOpcode

/-- The instruction a word is, in the order of 30_encoding.md R346. -/
def decode (w : Word32) : Decoded :=
  match (fieldOp w).toNat with
  | 0 => decodeFormat2 w
  | 1 => .ok (.call (fieldDisp30 w))
  | 2 => decodeArith w
  | _ => decodeMem w

/-- The word in four bytes, the byte at the lowest address first: `insn[31:24]` (30_encoding.md R330). -/
def wordOfBytes (b0 b1 b2 b3 : Byte) : Word32 := b0 ++ b1 ++ b2 ++ b3

/-- The bytes of a word, the byte at the lowest address first (30_encoding.md R330). -/
def bytesOfWord (w : Word32) : List Byte :=
  [w.extractLsb' 24 8, w.extractLsb' 16 8, w.extractLsb' 8 8, w.extractLsb' 0 8]

/-- Decodes the first instruction of a list of bytes in address order. -/
def decodeBytes (bs : List Byte) : Decoded :=
  match bs with
  | b0 :: b1 :: b2 :: b3 :: _ => decode (wordOfBytes b0 b1 b2 b3)
  | _ => .error .truncated

/-- The instruction read from the `nbits` bits of `w`, numbered as spec/opcode_table.json numbers them; bits from `nbits` up are 0. -/
def decodeTableWord (nbits w : Nat) : Option Instr :=
  match decodeBytes (bytesOfWord (BitVec.ofNat 32 (w % 2 ^ nbits))) with
  | .ok i => some i
  | .error _ => none

/-! ### Encoding -/

/-- The word of an instruction (30_encoding.md R331 to R339, R361 to R369). -/
def encode (i : Instr) : Word32 :=
  match i with
  | .add rd rs1 op2 => format3 2#2 rd 0x0#6 rs1 (lowRegImm13 op2)
  | .and rd rs1 op2 => format3 2#2 rd 0x1#6 rs1 (lowRegImm13 op2)
  | .or rd rs1 op2 => format3 2#2 rd 0x2#6 rs1 (lowRegImm13 op2)
  | .xor rd rs1 op2 => format3 2#2 rd 0x3#6 rs1 (lowRegImm13 op2)
  | .sub rd rs1 op2 => format3 2#2 rd 0x4#6 rs1 (lowRegImm13 op2)
  | .andn rd rs1 op2 => format3 2#2 rd 0x5#6 rs1 (lowRegImm13 op2)
  | .orn rd rs1 op2 => format3 2#2 rd 0x6#6 rs1 (lowRegImm13 op2)
  | .xnor rd rs1 op2 => format3 2#2 rd 0x7#6 rs1 (lowRegImm13 op2)
  | .addc rd rs1 op2 => format3 2#2 rd 0x8#6 rs1 (lowRegImm13 op2)
  | .mulx rd rs1 op2 => format3 2#2 rd 0x9#6 rs1 (lowRegImm13 op2)
  | .umul rd rs1 op2 => format3 2#2 rd 0xA#6 rs1 (lowRegImm13 op2)
  | .smul rd rs1 op2 => format3 2#2 rd 0xB#6 rs1 (lowRegImm13 op2)
  | .subc rd rs1 op2 => format3 2#2 rd 0xC#6 rs1 (lowRegImm13 op2)
  | .udivx rd rs1 op2 => format3 2#2 rd 0xD#6 rs1 (lowRegImm13 op2)
  | .udiv rd rs1 op2 => format3 2#2 rd 0xE#6 rs1 (lowRegImm13 op2)
  | .sdiv rd rs1 op2 => format3 2#2 rd 0xF#6 rs1 (lowRegImm13 op2)
  | .addcc rd rs1 op2 => format3 2#2 rd 0x10#6 rs1 (lowRegImm13 op2)
  | .andcc rd rs1 op2 => format3 2#2 rd 0x11#6 rs1 (lowRegImm13 op2)
  | .orcc rd rs1 op2 => format3 2#2 rd 0x12#6 rs1 (lowRegImm13 op2)
  | .xorcc rd rs1 op2 => format3 2#2 rd 0x13#6 rs1 (lowRegImm13 op2)
  | .subcc rd rs1 op2 => format3 2#2 rd 0x14#6 rs1 (lowRegImm13 op2)
  | .andncc rd rs1 op2 => format3 2#2 rd 0x15#6 rs1 (lowRegImm13 op2)
  | .orncc rd rs1 op2 => format3 2#2 rd 0x16#6 rs1 (lowRegImm13 op2)
  | .xnorcc rd rs1 op2 => format3 2#2 rd 0x17#6 rs1 (lowRegImm13 op2)
  | .addccc rd rs1 op2 => format3 2#2 rd 0x18#6 rs1 (lowRegImm13 op2)
  | .umulcc rd rs1 op2 => format3 2#2 rd 0x1A#6 rs1 (lowRegImm13 op2)
  | .smulcc rd rs1 op2 => format3 2#2 rd 0x1B#6 rs1 (lowRegImm13 op2)
  | .subccc rd rs1 op2 => format3 2#2 rd 0x1C#6 rs1 (lowRegImm13 op2)
  | .udivcc rd rs1 op2 => format3 2#2 rd 0x1E#6 rs1 (lowRegImm13 op2)
  | .sdivcc rd rs1 op2 => format3 2#2 rd 0x1F#6 rs1 (lowRegImm13 op2)
  | .taddcc rd rs1 op2 => format3 2#2 rd 0x20#6 rs1 (lowRegImm13 op2)
  | .tsubcc rd rs1 op2 => format3 2#2 rd 0x21#6 rs1 (lowRegImm13 op2)
  | .taddcctv rd rs1 op2 => format3 2#2 rd 0x22#6 rs1 (lowRegImm13 op2)
  | .tsubcctv rd rs1 op2 => format3 2#2 rd 0x23#6 rs1 (lowRegImm13 op2)
  | .mulscc rd rs1 op2 => format3 2#2 rd 0x24#6 rs1 (lowRegImm13 op2)
  | .sdivx rd rs1 op2 => format3 2#2 rd 0x2D#6 rs1 (lowRegImm13 op2)
  | .sll rd rs1 count => format3 2#2 rd 0x25#6 rs1 (lowShift32 count)
  | .srl rd rs1 count => format3 2#2 rd 0x26#6 rs1 (lowShift32 count)
  | .sra rd rs1 count => format3 2#2 rd 0x27#6 rs1 (lowShift32 count)
  | .sllx rd rs1 count => format3 2#2 rd 0x25#6 rs1 (lowShift64 count)
  | .srlx rd rs1 count => format3 2#2 rd 0x26#6 rs1 (lowShift64 count)
  | .srax rd rs1 count => format3 2#2 rd 0x27#6 rs1 (lowShift64 count)
  | .sethi rd imm22 => format2 rd 4#3 imm22
  | .nop => format2 0#5 4#3 0#22
  | .popc rd op2 => format3 2#2 rd 0x2E#6 0#5 (lowRegImm13 op2)
  | .mova rd cc op2 => format3 2#2 rd 0x2C#6 0x18#5 (lowMovcc cc.bits op2)
  | .movn rd cc op2 => format3 2#2 rd 0x2C#6 0x10#5 (lowMovcc cc.bits op2)
  | .movne rd cc op2 => format3 2#2 rd 0x2C#6 0x19#5 (lowMovcc cc.bits op2)
  | .move rd cc op2 => format3 2#2 rd 0x2C#6 0x11#5 (lowMovcc cc.bits op2)
  | .movg rd cc op2 => format3 2#2 rd 0x2C#6 0x1A#5 (lowMovcc cc.bits op2)
  | .movle rd cc op2 => format3 2#2 rd 0x2C#6 0x12#5 (lowMovcc cc.bits op2)
  | .movge rd cc op2 => format3 2#2 rd 0x2C#6 0x1B#5 (lowMovcc cc.bits op2)
  | .movl rd cc op2 => format3 2#2 rd 0x2C#6 0x13#5 (lowMovcc cc.bits op2)
  | .movgu rd cc op2 => format3 2#2 rd 0x2C#6 0x1C#5 (lowMovcc cc.bits op2)
  | .movleu rd cc op2 => format3 2#2 rd 0x2C#6 0x14#5 (lowMovcc cc.bits op2)
  | .movcc rd cc op2 => format3 2#2 rd 0x2C#6 0x1D#5 (lowMovcc cc.bits op2)
  | .movcs rd cc op2 => format3 2#2 rd 0x2C#6 0x15#5 (lowMovcc cc.bits op2)
  | .movpos rd cc op2 => format3 2#2 rd 0x2C#6 0x1E#5 (lowMovcc cc.bits op2)
  | .movneg rd cc op2 => format3 2#2 rd 0x2C#6 0x16#5 (lowMovcc cc.bits op2)
  | .movvc rd cc op2 => format3 2#2 rd 0x2C#6 0x1F#5 (lowMovcc cc.bits op2)
  | .movvs rd cc op2 => format3 2#2 rd 0x2C#6 0x17#5 (lowMovcc cc.bits op2)
  | .movfa rd fcc op2 => format3 2#2 rd 0x2C#6 0x8#5 (lowMovcc fcc op2)
  | .movfn rd fcc op2 => format3 2#2 rd 0x2C#6 0x0#5 (lowMovcc fcc op2)
  | .movfu rd fcc op2 => format3 2#2 rd 0x2C#6 0x7#5 (lowMovcc fcc op2)
  | .movfg rd fcc op2 => format3 2#2 rd 0x2C#6 0x6#5 (lowMovcc fcc op2)
  | .movfug rd fcc op2 => format3 2#2 rd 0x2C#6 0x5#5 (lowMovcc fcc op2)
  | .movfl rd fcc op2 => format3 2#2 rd 0x2C#6 0x4#5 (lowMovcc fcc op2)
  | .movful rd fcc op2 => format3 2#2 rd 0x2C#6 0x3#5 (lowMovcc fcc op2)
  | .movflg rd fcc op2 => format3 2#2 rd 0x2C#6 0x2#5 (lowMovcc fcc op2)
  | .movfne rd fcc op2 => format3 2#2 rd 0x2C#6 0x1#5 (lowMovcc fcc op2)
  | .movfe rd fcc op2 => format3 2#2 rd 0x2C#6 0x9#5 (lowMovcc fcc op2)
  | .movfue rd fcc op2 => format3 2#2 rd 0x2C#6 0xA#5 (lowMovcc fcc op2)
  | .movfge rd fcc op2 => format3 2#2 rd 0x2C#6 0xB#5 (lowMovcc fcc op2)
  | .movfuge rd fcc op2 => format3 2#2 rd 0x2C#6 0xC#5 (lowMovcc fcc op2)
  | .movfle rd fcc op2 => format3 2#2 rd 0x2C#6 0xD#5 (lowMovcc fcc op2)
  | .movfule rd fcc op2 => format3 2#2 rd 0x2C#6 0xE#5 (lowMovcc fcc op2)
  | .movfo rd fcc op2 => format3 2#2 rd 0x2C#6 0xF#5 (lowMovcc fcc op2)
  | .movrz rd rs1 op2 => format3 2#2 rd 0x2F#6 rs1 (lowMovr 0x1#3 op2)
  | .movrlez rd rs1 op2 => format3 2#2 rd 0x2F#6 rs1 (lowMovr 0x2#3 op2)
  | .movrlz rd rs1 op2 => format3 2#2 rd 0x2F#6 rs1 (lowMovr 0x3#3 op2)
  | .movrnz rd rs1 op2 => format3 2#2 rd 0x2F#6 rs1 (lowMovr 0x5#3 op2)
  | .movrgz rd rs1 op2 => format3 2#2 rd 0x2F#6 rs1 (lowMovr 0x6#3 op2)
  | .movrgez rd rs1 op2 => format3 2#2 rd 0x2F#6 rs1 (lowMovr 0x7#3 op2)
  | .ba a disp22 => format2 (topBranch a 0x8#4) 2#3 disp22
  | .bn a disp22 => format2 (topBranch a 0x0#4) 2#3 disp22
  | .bne a disp22 => format2 (topBranch a 0x9#4) 2#3 disp22
  | .be a disp22 => format2 (topBranch a 0x1#4) 2#3 disp22
  | .bg a disp22 => format2 (topBranch a 0xA#4) 2#3 disp22
  | .ble a disp22 => format2 (topBranch a 0x2#4) 2#3 disp22
  | .bge a disp22 => format2 (topBranch a 0xB#4) 2#3 disp22
  | .bl a disp22 => format2 (topBranch a 0x3#4) 2#3 disp22
  | .bgu a disp22 => format2 (topBranch a 0xC#4) 2#3 disp22
  | .bleu a disp22 => format2 (topBranch a 0x4#4) 2#3 disp22
  | .bcc a disp22 => format2 (topBranch a 0xD#4) 2#3 disp22
  | .bcs a disp22 => format2 (topBranch a 0x5#4) 2#3 disp22
  | .bpos a disp22 => format2 (topBranch a 0xE#4) 2#3 disp22
  | .bneg a disp22 => format2 (topBranch a 0x6#4) 2#3 disp22
  | .bvc a disp22 => format2 (topBranch a 0xF#4) 2#3 disp22
  | .bvs a disp22 => format2 (topBranch a 0x7#4) 2#3 disp22
  | .bpa a cc p disp19 => format2 (topBranch a 0x8#4) 1#3 (low22Pred cc.bits p disp19)
  | .bpn a cc p disp19 => format2 (topBranch a 0x0#4) 1#3 (low22Pred cc.bits p disp19)
  | .bpne a cc p disp19 => format2 (topBranch a 0x9#4) 1#3 (low22Pred cc.bits p disp19)
  | .bpe a cc p disp19 => format2 (topBranch a 0x1#4) 1#3 (low22Pred cc.bits p disp19)
  | .bpg a cc p disp19 => format2 (topBranch a 0xA#4) 1#3 (low22Pred cc.bits p disp19)
  | .bple a cc p disp19 => format2 (topBranch a 0x2#4) 1#3 (low22Pred cc.bits p disp19)
  | .bpge a cc p disp19 => format2 (topBranch a 0xB#4) 1#3 (low22Pred cc.bits p disp19)
  | .bpl a cc p disp19 => format2 (topBranch a 0x3#4) 1#3 (low22Pred cc.bits p disp19)
  | .bpgu a cc p disp19 => format2 (topBranch a 0xC#4) 1#3 (low22Pred cc.bits p disp19)
  | .bpleu a cc p disp19 => format2 (topBranch a 0x4#4) 1#3 (low22Pred cc.bits p disp19)
  | .bpcc a cc p disp19 => format2 (topBranch a 0xD#4) 1#3 (low22Pred cc.bits p disp19)
  | .bpcs a cc p disp19 => format2 (topBranch a 0x5#4) 1#3 (low22Pred cc.bits p disp19)
  | .bppos a cc p disp19 => format2 (topBranch a 0xE#4) 1#3 (low22Pred cc.bits p disp19)
  | .bpneg a cc p disp19 => format2 (topBranch a 0x6#4) 1#3 (low22Pred cc.bits p disp19)
  | .bpvc a cc p disp19 => format2 (topBranch a 0xF#4) 1#3 (low22Pred cc.bits p disp19)
  | .bpvs a cc p disp19 => format2 (topBranch a 0x7#4) 1#3 (low22Pred cc.bits p disp19)
  | .brz a d16 p rs1 => format2 (topBranch a 0x1#4) 3#3 (low22Bpr d16 p rs1)
  | .brlez a d16 p rs1 => format2 (topBranch a 0x2#4) 3#3 (low22Bpr d16 p rs1)
  | .brlz a d16 p rs1 => format2 (topBranch a 0x3#4) 3#3 (low22Bpr d16 p rs1)
  | .brnz a d16 p rs1 => format2 (topBranch a 0x5#4) 3#3 (low22Bpr d16 p rs1)
  | .brgz a d16 p rs1 => format2 (topBranch a 0x6#4) 3#3 (low22Bpr d16 p rs1)
  | .brgez a d16 p rs1 => format2 (topBranch a 0x7#4) 3#3 (low22Bpr d16 p rs1)
  | .fba a disp22 => format2 (topBranch a 0x8#4) 6#3 disp22
  | .fbn a disp22 => format2 (topBranch a 0x0#4) 6#3 disp22
  | .fbu a disp22 => format2 (topBranch a 0x7#4) 6#3 disp22
  | .fbg a disp22 => format2 (topBranch a 0x6#4) 6#3 disp22
  | .fbug a disp22 => format2 (topBranch a 0x5#4) 6#3 disp22
  | .fbl a disp22 => format2 (topBranch a 0x4#4) 6#3 disp22
  | .fbul a disp22 => format2 (topBranch a 0x3#4) 6#3 disp22
  | .fblg a disp22 => format2 (topBranch a 0x2#4) 6#3 disp22
  | .fbne a disp22 => format2 (topBranch a 0x1#4) 6#3 disp22
  | .fbe a disp22 => format2 (topBranch a 0x9#4) 6#3 disp22
  | .fbue a disp22 => format2 (topBranch a 0xA#4) 6#3 disp22
  | .fbge a disp22 => format2 (topBranch a 0xB#4) 6#3 disp22
  | .fbuge a disp22 => format2 (topBranch a 0xC#4) 6#3 disp22
  | .fble a disp22 => format2 (topBranch a 0xD#4) 6#3 disp22
  | .fbule a disp22 => format2 (topBranch a 0xE#4) 6#3 disp22
  | .fbo a disp22 => format2 (topBranch a 0xF#4) 6#3 disp22
  | .fbpa a fcc p disp19 => format2 (topBranch a 0x8#4) 5#3 (low22Pred fcc p disp19)
  | .fbpn a fcc p disp19 => format2 (topBranch a 0x0#4) 5#3 (low22Pred fcc p disp19)
  | .fbpu a fcc p disp19 => format2 (topBranch a 0x7#4) 5#3 (low22Pred fcc p disp19)
  | .fbpg a fcc p disp19 => format2 (topBranch a 0x6#4) 5#3 (low22Pred fcc p disp19)
  | .fbpug a fcc p disp19 => format2 (topBranch a 0x5#4) 5#3 (low22Pred fcc p disp19)
  | .fbpl a fcc p disp19 => format2 (topBranch a 0x4#4) 5#3 (low22Pred fcc p disp19)
  | .fbpul a fcc p disp19 => format2 (topBranch a 0x3#4) 5#3 (low22Pred fcc p disp19)
  | .fbplg a fcc p disp19 => format2 (topBranch a 0x2#4) 5#3 (low22Pred fcc p disp19)
  | .fbpne a fcc p disp19 => format2 (topBranch a 0x1#4) 5#3 (low22Pred fcc p disp19)
  | .fbpe a fcc p disp19 => format2 (topBranch a 0x9#4) 5#3 (low22Pred fcc p disp19)
  | .fbpue a fcc p disp19 => format2 (topBranch a 0xA#4) 5#3 (low22Pred fcc p disp19)
  | .fbpge a fcc p disp19 => format2 (topBranch a 0xB#4) 5#3 (low22Pred fcc p disp19)
  | .fbpuge a fcc p disp19 => format2 (topBranch a 0xC#4) 5#3 (low22Pred fcc p disp19)
  | .fbple a fcc p disp19 => format2 (topBranch a 0xD#4) 5#3 (low22Pred fcc p disp19)
  | .fbpule a fcc p disp19 => format2 (topBranch a 0xE#4) 5#3 (low22Pred fcc p disp19)
  | .fbpo a fcc p disp19 => format2 (topBranch a 0xF#4) 5#3 (low22Pred fcc p disp19)
  | .call disp30 => format1 disp30
  | .jmpl rd rs1 op2 => format3 2#2 rd 0x38#6 rs1 (lowRegImm13 op2)
  | .return_ rs1 op2 => format3 2#2 0x0#5 0x39#6 rs1 (lowRegImm13 op2)
  | .ta rs1 cc num => format3 2#2 0x8#5 0x3A#6 rs1 (lowTcc cc.bits num)
  | .tn rs1 cc num => format3 2#2 0x0#5 0x3A#6 rs1 (lowTcc cc.bits num)
  | .tne rs1 cc num => format3 2#2 0x9#5 0x3A#6 rs1 (lowTcc cc.bits num)
  | .te rs1 cc num => format3 2#2 0x1#5 0x3A#6 rs1 (lowTcc cc.bits num)
  | .tg rs1 cc num => format3 2#2 0xA#5 0x3A#6 rs1 (lowTcc cc.bits num)
  | .tle rs1 cc num => format3 2#2 0x2#5 0x3A#6 rs1 (lowTcc cc.bits num)
  | .tge rs1 cc num => format3 2#2 0xB#5 0x3A#6 rs1 (lowTcc cc.bits num)
  | .tl rs1 cc num => format3 2#2 0x3#5 0x3A#6 rs1 (lowTcc cc.bits num)
  | .tgu rs1 cc num => format3 2#2 0xC#5 0x3A#6 rs1 (lowTcc cc.bits num)
  | .tleu rs1 cc num => format3 2#2 0x4#5 0x3A#6 rs1 (lowTcc cc.bits num)
  | .tcc rs1 cc num => format3 2#2 0xD#5 0x3A#6 rs1 (lowTcc cc.bits num)
  | .tcs rs1 cc num => format3 2#2 0x5#5 0x3A#6 rs1 (lowTcc cc.bits num)
  | .tpos rs1 cc num => format3 2#2 0xE#5 0x3A#6 rs1 (lowTcc cc.bits num)
  | .tneg rs1 cc num => format3 2#2 0x6#5 0x3A#6 rs1 (lowTcc cc.bits num)
  | .tvc rs1 cc num => format3 2#2 0xF#5 0x3A#6 rs1 (lowTcc cc.bits num)
  | .tvs rs1 cc num => format3 2#2 0x7#5 0x3A#6 rs1 (lowTcc cc.bits num)
  | .done => format3 2#2 0x0#5 0x3E#6 0#5 0#14
  | .retry => format3 2#2 0x1#5 0x3E#6 0#5 0#14
  | .illtrap ignored const22 => format2 ignored 0#3 const22
  | .lduw rd rs1 op2 => format3 3#2 rd 0x0#6 rs1 (lowRegImm13 op2)
  | .ldub rd rs1 op2 => format3 3#2 rd 0x1#6 rs1 (lowRegImm13 op2)
  | .lduh rd rs1 op2 => format3 3#2 rd 0x2#6 rs1 (lowRegImm13 op2)
  | .ldtw rd rs1 op2 => format3 3#2 rd 0x3#6 rs1 (lowRegImm13 op2)
  | .stw rd rs1 op2 => format3 3#2 rd 0x4#6 rs1 (lowRegImm13 op2)
  | .stb rd rs1 op2 => format3 3#2 rd 0x5#6 rs1 (lowRegImm13 op2)
  | .sth rd rs1 op2 => format3 3#2 rd 0x6#6 rs1 (lowRegImm13 op2)
  | .sttw rd rs1 op2 => format3 3#2 rd 0x7#6 rs1 (lowRegImm13 op2)
  | .ldsw rd rs1 op2 => format3 3#2 rd 0x8#6 rs1 (lowRegImm13 op2)
  | .ldsb rd rs1 op2 => format3 3#2 rd 0x9#6 rs1 (lowRegImm13 op2)
  | .ldsh rd rs1 op2 => format3 3#2 rd 0xA#6 rs1 (lowRegImm13 op2)
  | .ldx rd rs1 op2 => format3 3#2 rd 0xB#6 rs1 (lowRegImm13 op2)
  | .ldstub rd rs1 op2 => format3 3#2 rd 0xD#6 rs1 (lowRegImm13 op2)
  | .stx rd rs1 op2 => format3 3#2 rd 0xE#6 rs1 (lowRegImm13 op2)
  | .swap rd rs1 op2 => format3 3#2 rd 0xF#6 rs1 (lowRegImm13 op2)
  | .lduwa rd rs1 src => format3 3#2 rd 0x10#6 rs1 (lowAsi src)
  | .lduba rd rs1 src => format3 3#2 rd 0x11#6 rs1 (lowAsi src)
  | .lduha rd rs1 src => format3 3#2 rd 0x12#6 rs1 (lowAsi src)
  | .ldtwa rd rs1 src => format3 3#2 rd 0x13#6 rs1 (lowAsi src)
  | .stwa rd rs1 src => format3 3#2 rd 0x14#6 rs1 (lowAsi src)
  | .stba rd rs1 src => format3 3#2 rd 0x15#6 rs1 (lowAsi src)
  | .stha rd rs1 src => format3 3#2 rd 0x16#6 rs1 (lowAsi src)
  | .sttwa rd rs1 src => format3 3#2 rd 0x17#6 rs1 (lowAsi src)
  | .ldswa rd rs1 src => format3 3#2 rd 0x18#6 rs1 (lowAsi src)
  | .ldsba rd rs1 src => format3 3#2 rd 0x19#6 rs1 (lowAsi src)
  | .ldsha rd rs1 src => format3 3#2 rd 0x1A#6 rs1 (lowAsi src)
  | .ldxa rd rs1 src => format3 3#2 rd 0x1B#6 rs1 (lowAsi src)
  | .ldstuba rd rs1 src => format3 3#2 rd 0x1D#6 rs1 (lowAsi src)
  | .stxa rd rs1 src => format3 3#2 rd 0x1E#6 rs1 (lowAsi src)
  | .swapa rd rs1 src => format3 3#2 rd 0x1F#6 rs1 (lowAsi src)
  | .ldtxa rd rs1 rs2 immAsi => format3 3#2 rd 0x13#6 rs1 (lowAsi (.immAsi rs2 immAsi))
  | .casa rd rs1 rs2 src => format3 3#2 rd 0x3C#6 rs1 (lowCas rs2 src)
  | .casxa rd rs1 rs2 src => format3 3#2 rd 0x3E#6 rs1 (lowCas rs2 src)
  | .prefetch fcn rs1 op2 => format3 3#2 fcn 0x2D#6 rs1 (lowRegImm13 op2)
  | .prefetcha fcn rs1 src => format3 3#2 fcn 0x3D#6 rs1 (lowAsi src)
  | .membar cmask mmask => format3 2#2 0#5 0x28#6 15#5 (0x40#7 ++ cmask ++ mmask)
  | .flush rs1 op2 => format3 2#2 0x0#5 0x3B#6 rs1 (lowRegImm13 op2)
  | .ldf rd rs1 op2 => format3 3#2 rd 0x20#6 rs1 (lowRegImm13 op2)
  | .ldqf rd rs1 op2 => format3 3#2 rd 0x22#6 rs1 (lowRegImm13 op2)
  | .lddf rd rs1 op2 => format3 3#2 rd 0x23#6 rs1 (lowRegImm13 op2)
  | .stf rd rs1 op2 => format3 3#2 rd 0x24#6 rs1 (lowRegImm13 op2)
  | .stqf rd rs1 op2 => format3 3#2 rd 0x26#6 rs1 (lowRegImm13 op2)
  | .stdf rd rs1 op2 => format3 3#2 rd 0x27#6 rs1 (lowRegImm13 op2)
  | .ldfsr rs1 op2 => format3 3#2 0x0#5 0x21#6 rs1 (lowRegImm13 op2)
  | .ldxfsr rs1 op2 => format3 3#2 0x1#5 0x21#6 rs1 (lowRegImm13 op2)
  | .stfsr rs1 op2 => format3 3#2 0x0#5 0x25#6 rs1 (lowRegImm13 op2)
  | .stxfsr rs1 op2 => format3 3#2 0x1#5 0x25#6 rs1 (lowRegImm13 op2)
  | .ldfa rd rs1 src => format3 3#2 rd 0x30#6 rs1 (lowAsi src)
  | .ldqfa rd rs1 src => format3 3#2 rd 0x32#6 rs1 (lowAsi src)
  | .lddfa rd rs1 src => format3 3#2 rd 0x33#6 rs1 (lowAsi src)
  | .stfa rd rs1 src => format3 3#2 rd 0x34#6 rs1 (lowAsi src)
  | .stqfa rd rs1 src => format3 3#2 rd 0x36#6 rs1 (lowAsi src)
  | .stdfa rd rs1 src => format3 3#2 rd 0x37#6 rs1 (lowAsi src)
  | .ldblockf rd rs1 rs2 immAsi => format3 3#2 rd 0x33#6 rs1 (lowAsi (.immAsi rs2 immAsi))
  | .ldshortf rd rs1 rs2 immAsi => format3 3#2 rd 0x33#6 rs1 (lowAsi (.immAsi rs2 immAsi))
  | .stblockf rd rs1 rs2 immAsi => format3 3#2 rd 0x37#6 rs1 (lowAsi (.immAsi rs2 immAsi))
  | .stshortf rd rs1 rs2 immAsi => format3 3#2 rd 0x37#6 rs1 (lowAsi (.immAsi rs2 immAsi))
  | .stpartialf rd rs1 rs2 immAsi => format3 3#2 rd 0x37#6 rs1 (lowAsi (.immAsi rs2 immAsi))
  | .save rd rs1 op2 => format3 2#2 rd 0x3C#6 rs1 (lowRegImm13 op2)
  | .restore rd rs1 op2 => format3 2#2 rd 0x3D#6 rs1 (lowRegImm13 op2)
  | .saved => format3 2#2 0x0#5 0x31#6 0#5 0#14
  | .restored => format3 2#2 0x1#5 0x31#6 0#5 0#14
  | .allclean => format3 2#2 0x2#5 0x31#6 0#5 0#14
  | .otherw => format3 2#2 0x3#5 0x31#6 0#5 0#14
  | .normalw => format3 2#2 0x4#5 0x31#6 0#5 0#14
  | .invalw => format3 2#2 0x5#5 0x31#6 0#5 0#14
  | .flushw i => format3 2#2 0#5 0x2B#6 0#5 (bit i ++ 0#13)
  | .rdy rd => format3 2#2 rd 0x28#6 0x0#5 0#14
  | .rdccr rd => format3 2#2 rd 0x28#6 0x2#5 0#14
  | .rdasi rd => format3 2#2 rd 0x28#6 0x3#5 0#14
  | .rdtick rd => format3 2#2 rd 0x28#6 0x4#5 0#14
  | .rdpc rd => format3 2#2 rd 0x28#6 0x5#5 0#14
  | .rdfprs rd => format3 2#2 rd 0x28#6 0x6#5 0#14
  | .rdgsr rd => format3 2#2 rd 0x28#6 0x13#5 0#14
  | .rdsoftint rd => format3 2#2 rd 0x28#6 0x16#5 0#14
  | .rdtickCmpr rd => format3 2#2 rd 0x28#6 0x17#5 0#14
  | .rdstick rd => format3 2#2 rd 0x28#6 0x18#5 0#14
  | .rdstickCmpr rd => format3 2#2 rd 0x28#6 0x19#5 0#14
  | .wry rs1 op2 => format3 2#2 0x0#5 0x30#6 rs1 (lowRegImm13 op2)
  | .wrccr rs1 op2 => format3 2#2 0x2#5 0x30#6 rs1 (lowRegImm13 op2)
  | .wrasi rs1 op2 => format3 2#2 0x3#5 0x30#6 rs1 (lowRegImm13 op2)
  | .wrfprs rs1 op2 => format3 2#2 0x6#5 0x30#6 rs1 (lowRegImm13 op2)
  | .wrgsr rs1 op2 => format3 2#2 0x13#5 0x30#6 rs1 (lowRegImm13 op2)
  | .wrsoftintSet rs1 op2 => format3 2#2 0x14#5 0x30#6 rs1 (lowRegImm13 op2)
  | .wrsoftintClr rs1 op2 => format3 2#2 0x15#5 0x30#6 rs1 (lowRegImm13 op2)
  | .wrsoftint rs1 op2 => format3 2#2 0x16#5 0x30#6 rs1 (lowRegImm13 op2)
  | .wrtickCmpr rs1 op2 => format3 2#2 0x17#5 0x30#6 rs1 (lowRegImm13 op2)
  | .wrstickCmpr rs1 op2 => format3 2#2 0x19#5 0x30#6 rs1 (lowRegImm13 op2)
  | .rdprTpc rd => format3 2#2 rd 0x2A#6 0x0#5 0#14
  | .rdprTnpc rd => format3 2#2 rd 0x2A#6 0x1#5 0#14
  | .rdprTstate rd => format3 2#2 rd 0x2A#6 0x2#5 0#14
  | .rdprTt rd => format3 2#2 rd 0x2A#6 0x3#5 0#14
  | .rdprTick rd => format3 2#2 rd 0x2A#6 0x4#5 0#14
  | .rdprTba rd => format3 2#2 rd 0x2A#6 0x5#5 0#14
  | .rdprPstate rd => format3 2#2 rd 0x2A#6 0x6#5 0#14
  | .rdprTl rd => format3 2#2 rd 0x2A#6 0x7#5 0#14
  | .rdprPil rd => format3 2#2 rd 0x2A#6 0x8#5 0#14
  | .rdprCwp rd => format3 2#2 rd 0x2A#6 0x9#5 0#14
  | .rdprCansave rd => format3 2#2 rd 0x2A#6 0xA#5 0#14
  | .rdprCanrestore rd => format3 2#2 rd 0x2A#6 0xB#5 0#14
  | .rdprCleanwin rd => format3 2#2 rd 0x2A#6 0xC#5 0#14
  | .rdprOtherwin rd => format3 2#2 rd 0x2A#6 0xD#5 0#14
  | .rdprWstate rd => format3 2#2 rd 0x2A#6 0xE#5 0#14
  | .rdprGl rd => format3 2#2 rd 0x2A#6 0x10#5 0#14
  | .wrprTpc rs1 op2 => format3 2#2 0x0#5 0x32#6 rs1 (lowRegImm13 op2)
  | .wrprTnpc rs1 op2 => format3 2#2 0x1#5 0x32#6 rs1 (lowRegImm13 op2)
  | .wrprTstate rs1 op2 => format3 2#2 0x2#5 0x32#6 rs1 (lowRegImm13 op2)
  | .wrprTt rs1 op2 => format3 2#2 0x3#5 0x32#6 rs1 (lowRegImm13 op2)
  | .wrprTba rs1 op2 => format3 2#2 0x5#5 0x32#6 rs1 (lowRegImm13 op2)
  | .wrprPstate rs1 op2 => format3 2#2 0x6#5 0x32#6 rs1 (lowRegImm13 op2)
  | .wrprTl rs1 op2 => format3 2#2 0x7#5 0x32#6 rs1 (lowRegImm13 op2)
  | .wrprPil rs1 op2 => format3 2#2 0x8#5 0x32#6 rs1 (lowRegImm13 op2)
  | .wrprCwp rs1 op2 => format3 2#2 0x9#5 0x32#6 rs1 (lowRegImm13 op2)
  | .wrprCansave rs1 op2 => format3 2#2 0xA#5 0x32#6 rs1 (lowRegImm13 op2)
  | .wrprCanrestore rs1 op2 => format3 2#2 0xB#5 0x32#6 rs1 (lowRegImm13 op2)
  | .wrprCleanwin rs1 op2 => format3 2#2 0xC#5 0x32#6 rs1 (lowRegImm13 op2)
  | .wrprOtherwin rs1 op2 => format3 2#2 0xD#5 0x32#6 rs1 (lowRegImm13 op2)
  | .wrprWstate rs1 op2 => format3 2#2 0xE#5 0x32#6 rs1 (lowRegImm13 op2)
  | .wrprGl rs1 op2 => format3 2#2 0x10#5 0x32#6 rs1 (lowRegImm13 op2)
  | .fmovs rd rs2 => format3 2#2 rd 0x34#6 0#5 (lowFpop 0x1#9 rs2)
  | .fmovd rd rs2 => format3 2#2 rd 0x34#6 0#5 (lowFpop 0x2#9 rs2)
  | .fmovq rd rs2 => format3 2#2 rd 0x34#6 0#5 (lowFpop 0x3#9 rs2)
  | .fnegs rd rs2 => format3 2#2 rd 0x34#6 0#5 (lowFpop 0x5#9 rs2)
  | .fnegd rd rs2 => format3 2#2 rd 0x34#6 0#5 (lowFpop 0x6#9 rs2)
  | .fnegq rd rs2 => format3 2#2 rd 0x34#6 0#5 (lowFpop 0x7#9 rs2)
  | .fabss rd rs2 => format3 2#2 rd 0x34#6 0#5 (lowFpop 0x9#9 rs2)
  | .fabsd rd rs2 => format3 2#2 rd 0x34#6 0#5 (lowFpop 0xA#9 rs2)
  | .fabsq rd rs2 => format3 2#2 rd 0x34#6 0#5 (lowFpop 0xB#9 rs2)
  | .fsqrts rd rs2 => format3 2#2 rd 0x34#6 0#5 (lowFpop 0x29#9 rs2)
  | .fsqrtd rd rs2 => format3 2#2 rd 0x34#6 0#5 (lowFpop 0x2A#9 rs2)
  | .fsqrtq rd rs2 => format3 2#2 rd 0x34#6 0#5 (lowFpop 0x2B#9 rs2)
  | .fstox rd rs2 => format3 2#2 rd 0x34#6 0#5 (lowFpop 0x81#9 rs2)
  | .fdtox rd rs2 => format3 2#2 rd 0x34#6 0#5 (lowFpop 0x82#9 rs2)
  | .fqtox rd rs2 => format3 2#2 rd 0x34#6 0#5 (lowFpop 0x83#9 rs2)
  | .fxtos rd rs2 => format3 2#2 rd 0x34#6 0#5 (lowFpop 0x84#9 rs2)
  | .fxtod rd rs2 => format3 2#2 rd 0x34#6 0#5 (lowFpop 0x88#9 rs2)
  | .fxtoq rd rs2 => format3 2#2 rd 0x34#6 0#5 (lowFpop 0x8C#9 rs2)
  | .fitos rd rs2 => format3 2#2 rd 0x34#6 0#5 (lowFpop 0xC4#9 rs2)
  | .fdtos rd rs2 => format3 2#2 rd 0x34#6 0#5 (lowFpop 0xC6#9 rs2)
  | .fqtos rd rs2 => format3 2#2 rd 0x34#6 0#5 (lowFpop 0xC7#9 rs2)
  | .fitod rd rs2 => format3 2#2 rd 0x34#6 0#5 (lowFpop 0xC8#9 rs2)
  | .fstod rd rs2 => format3 2#2 rd 0x34#6 0#5 (lowFpop 0xC9#9 rs2)
  | .fqtod rd rs2 => format3 2#2 rd 0x34#6 0#5 (lowFpop 0xCB#9 rs2)
  | .fitoq rd rs2 => format3 2#2 rd 0x34#6 0#5 (lowFpop 0xCC#9 rs2)
  | .fstoq rd rs2 => format3 2#2 rd 0x34#6 0#5 (lowFpop 0xCD#9 rs2)
  | .fdtoq rd rs2 => format3 2#2 rd 0x34#6 0#5 (lowFpop 0xCE#9 rs2)
  | .fstoi rd rs2 => format3 2#2 rd 0x34#6 0#5 (lowFpop 0xD1#9 rs2)
  | .fdtoi rd rs2 => format3 2#2 rd 0x34#6 0#5 (lowFpop 0xD2#9 rs2)
  | .fqtoi rd rs2 => format3 2#2 rd 0x34#6 0#5 (lowFpop 0xD3#9 rs2)
  | .fadds rd rs1 rs2 => format3 2#2 rd 0x34#6 rs1 (lowFpop 0x41#9 rs2)
  | .faddd rd rs1 rs2 => format3 2#2 rd 0x34#6 rs1 (lowFpop 0x42#9 rs2)
  | .faddq rd rs1 rs2 => format3 2#2 rd 0x34#6 rs1 (lowFpop 0x43#9 rs2)
  | .fsubs rd rs1 rs2 => format3 2#2 rd 0x34#6 rs1 (lowFpop 0x45#9 rs2)
  | .fsubd rd rs1 rs2 => format3 2#2 rd 0x34#6 rs1 (lowFpop 0x46#9 rs2)
  | .fsubq rd rs1 rs2 => format3 2#2 rd 0x34#6 rs1 (lowFpop 0x47#9 rs2)
  | .fmuls rd rs1 rs2 => format3 2#2 rd 0x34#6 rs1 (lowFpop 0x49#9 rs2)
  | .fmuld rd rs1 rs2 => format3 2#2 rd 0x34#6 rs1 (lowFpop 0x4A#9 rs2)
  | .fmulq rd rs1 rs2 => format3 2#2 rd 0x34#6 rs1 (lowFpop 0x4B#9 rs2)
  | .fdivs rd rs1 rs2 => format3 2#2 rd 0x34#6 rs1 (lowFpop 0x4D#9 rs2)
  | .fdivd rd rs1 rs2 => format3 2#2 rd 0x34#6 rs1 (lowFpop 0x4E#9 rs2)
  | .fdivq rd rs1 rs2 => format3 2#2 rd 0x34#6 rs1 (lowFpop 0x4F#9 rs2)
  | .fsmuld rd rs1 rs2 => format3 2#2 rd 0x34#6 rs1 (lowFpop 0x69#9 rs2)
  | .fdmulq rd rs1 rs2 => format3 2#2 rd 0x34#6 rs1 (lowFpop 0x6E#9 rs2)
  | .fcmps fcc rs1 rs2 => format3 2#2 (0#3 ++ fcc) 0x35#6 rs1 (lowFpop 0x51#9 rs2)
  | .fcmpd fcc rs1 rs2 => format3 2#2 (0#3 ++ fcc) 0x35#6 rs1 (lowFpop 0x52#9 rs2)
  | .fcmpq fcc rs1 rs2 => format3 2#2 (0#3 ++ fcc) 0x35#6 rs1 (lowFpop 0x53#9 rs2)
  | .fcmpes fcc rs1 rs2 => format3 2#2 (0#3 ++ fcc) 0x35#6 rs1 (lowFpop 0x55#9 rs2)
  | .fcmped fcc rs1 rs2 => format3 2#2 (0#3 ++ fcc) 0x35#6 rs1 (lowFpop 0x56#9 rs2)
  | .fcmpeq fcc rs1 rs2 => format3 2#2 (0#3 ++ fcc) 0x35#6 rs1 (lowFpop 0x57#9 rs2)
  | .fmovsicc rd cond rs2 => format3 2#2 rd 0x35#6 (0#1 ++ cond) (lowFpop 0x101#9 rs2)
  | .fmovsxcc rd cond rs2 => format3 2#2 rd 0x35#6 (0#1 ++ cond) (lowFpop 0x181#9 rs2)
  | .fmovsfcc rd fcc cond rs2 => format3 2#2 rd 0x35#6 (0#1 ++ cond) (lowFpop (0#1 ++ fcc ++ 0x1#6) rs2)
  | .fmovdicc rd cond rs2 => format3 2#2 rd 0x35#6 (0#1 ++ cond) (lowFpop 0x102#9 rs2)
  | .fmovdxcc rd cond rs2 => format3 2#2 rd 0x35#6 (0#1 ++ cond) (lowFpop 0x182#9 rs2)
  | .fmovdfcc rd fcc cond rs2 => format3 2#2 rd 0x35#6 (0#1 ++ cond) (lowFpop (0#1 ++ fcc ++ 0x2#6) rs2)
  | .fmovqicc rd cond rs2 => format3 2#2 rd 0x35#6 (0#1 ++ cond) (lowFpop 0x103#9 rs2)
  | .fmovqxcc rd cond rs2 => format3 2#2 rd 0x35#6 (0#1 ++ cond) (lowFpop 0x183#9 rs2)
  | .fmovqfcc rd fcc cond rs2 => format3 2#2 rd 0x35#6 (0#1 ++ cond) (lowFpop (0#1 ++ fcc ++ 0x3#6) rs2)
  | .fmovrsz rd rs1 rs2 => format3 2#2 rd 0x35#6 rs1 (lowFpop 0x25#9 rs2)
  | .fmovrslez rd rs1 rs2 => format3 2#2 rd 0x35#6 rs1 (lowFpop 0x45#9 rs2)
  | .fmovrslz rd rs1 rs2 => format3 2#2 rd 0x35#6 rs1 (lowFpop 0x65#9 rs2)
  | .fmovrsnz rd rs1 rs2 => format3 2#2 rd 0x35#6 rs1 (lowFpop 0xA5#9 rs2)
  | .fmovrsgz rd rs1 rs2 => format3 2#2 rd 0x35#6 rs1 (lowFpop 0xC5#9 rs2)
  | .fmovrsgez rd rs1 rs2 => format3 2#2 rd 0x35#6 rs1 (lowFpop 0xE5#9 rs2)
  | .fmovrdz rd rs1 rs2 => format3 2#2 rd 0x35#6 rs1 (lowFpop 0x26#9 rs2)
  | .fmovrdlez rd rs1 rs2 => format3 2#2 rd 0x35#6 rs1 (lowFpop 0x46#9 rs2)
  | .fmovrdlz rd rs1 rs2 => format3 2#2 rd 0x35#6 rs1 (lowFpop 0x66#9 rs2)
  | .fmovrdnz rd rs1 rs2 => format3 2#2 rd 0x35#6 rs1 (lowFpop 0xA6#9 rs2)
  | .fmovrdgz rd rs1 rs2 => format3 2#2 rd 0x35#6 rs1 (lowFpop 0xC6#9 rs2)
  | .fmovrdgez rd rs1 rs2 => format3 2#2 rd 0x35#6 rs1 (lowFpop 0xE6#9 rs2)
  | .fmovrqz rd rs1 rs2 => format3 2#2 rd 0x35#6 rs1 (lowFpop 0x27#9 rs2)
  | .fmovrqlez rd rs1 rs2 => format3 2#2 rd 0x35#6 rs1 (lowFpop 0x47#9 rs2)
  | .fmovrqlz rd rs1 rs2 => format3 2#2 rd 0x35#6 rs1 (lowFpop 0x67#9 rs2)
  | .fmovrqnz rd rs1 rs2 => format3 2#2 rd 0x35#6 rs1 (lowFpop 0xA7#9 rs2)
  | .fmovrqgz rd rs1 rs2 => format3 2#2 rd 0x35#6 rs1 (lowFpop 0xC7#9 rs2)
  | .fmovrqgez rd rs1 rs2 => format3 2#2 rd 0x35#6 rs1 (lowFpop 0xE7#9 rs2)
  | .fmadds rd rs1 rs3 rs2 => format3 2#2 rd 0x37#6 rs1 (lowFma rs3 0x1#4 rs2)
  | .fmaddd rd rs1 rs3 rs2 => format3 2#2 rd 0x37#6 rs1 (lowFma rs3 0x2#4 rs2)
  | .fmsubs rd rs1 rs3 rs2 => format3 2#2 rd 0x37#6 rs1 (lowFma rs3 0x5#4 rs2)
  | .fmsubd rd rs1 rs3 rs2 => format3 2#2 rd 0x37#6 rs1 (lowFma rs3 0x6#4 rs2)
  | .fnmsubs rd rs1 rs3 rs2 => format3 2#2 rd 0x37#6 rs1 (lowFma rs3 0x9#4 rs2)
  | .fnmsubd rd rs1 rs3 rs2 => format3 2#2 rd 0x37#6 rs1 (lowFma rs3 0xA#4 rs2)
  | .fnmadds rd rs1 rs3 rs2 => format3 2#2 rd 0x37#6 rs1 (lowFma rs3 0xD#4 rs2)
  | .fnmaddd rd rs1 rs3 rs2 => format3 2#2 rd 0x37#6 rs1 (lowFma rs3 0xE#4 rs2)
  | .edge8cc rd rs1 rs2 => format3 2#2 rd 0x36#6 rs1 (lowFpop 0x0#9 rs2)
  | .edge8n rd rs1 rs2 => format3 2#2 rd 0x36#6 rs1 (lowFpop 0x1#9 rs2)
  | .edge8lcc rd rs1 rs2 => format3 2#2 rd 0x36#6 rs1 (lowFpop 0x2#9 rs2)
  | .edge8ln rd rs1 rs2 => format3 2#2 rd 0x36#6 rs1 (lowFpop 0x3#9 rs2)
  | .edge16cc rd rs1 rs2 => format3 2#2 rd 0x36#6 rs1 (lowFpop 0x4#9 rs2)
  | .edge16n rd rs1 rs2 => format3 2#2 rd 0x36#6 rs1 (lowFpop 0x5#9 rs2)
  | .edge16lcc rd rs1 rs2 => format3 2#2 rd 0x36#6 rs1 (lowFpop 0x6#9 rs2)
  | .edge16ln rd rs1 rs2 => format3 2#2 rd 0x36#6 rs1 (lowFpop 0x7#9 rs2)
  | .edge32cc rd rs1 rs2 => format3 2#2 rd 0x36#6 rs1 (lowFpop 0x8#9 rs2)
  | .edge32n rd rs1 rs2 => format3 2#2 rd 0x36#6 rs1 (lowFpop 0x9#9 rs2)
  | .edge32lcc rd rs1 rs2 => format3 2#2 rd 0x36#6 rs1 (lowFpop 0xA#9 rs2)
  | .edge32ln rd rs1 rs2 => format3 2#2 rd 0x36#6 rs1 (lowFpop 0xB#9 rs2)
  | .array8 rd rs1 rs2 => format3 2#2 rd 0x36#6 rs1 (lowFpop 0x10#9 rs2)
  | .array16 rd rs1 rs2 => format3 2#2 rd 0x36#6 rs1 (lowFpop 0x12#9 rs2)
  | .array32 rd rs1 rs2 => format3 2#2 rd 0x36#6 rs1 (lowFpop 0x14#9 rs2)
  | .alignaddress rd rs1 rs2 => format3 2#2 rd 0x36#6 rs1 (lowFpop 0x18#9 rs2)
  | .bmask rd rs1 rs2 => format3 2#2 rd 0x36#6 rs1 (lowFpop 0x19#9 rs2)
  | .alignaddressLittle rd rs1 rs2 => format3 2#2 rd 0x36#6 rs1 (lowFpop 0x1A#9 rs2)
  | .fcmple16 rd rs1 rs2 => format3 2#2 rd 0x36#6 rs1 (lowFpop 0x20#9 rs2)
  | .fcmpne16 rd rs1 rs2 => format3 2#2 rd 0x36#6 rs1 (lowFpop 0x22#9 rs2)
  | .fcmple32 rd rs1 rs2 => format3 2#2 rd 0x36#6 rs1 (lowFpop 0x24#9 rs2)
  | .fcmpne32 rd rs1 rs2 => format3 2#2 rd 0x36#6 rs1 (lowFpop 0x26#9 rs2)
  | .fcmpgt16 rd rs1 rs2 => format3 2#2 rd 0x36#6 rs1 (lowFpop 0x28#9 rs2)
  | .fcmpeq16 rd rs1 rs2 => format3 2#2 rd 0x36#6 rs1 (lowFpop 0x2A#9 rs2)
  | .fcmpgt32 rd rs1 rs2 => format3 2#2 rd 0x36#6 rs1 (lowFpop 0x2C#9 rs2)
  | .fcmpeq32 rd rs1 rs2 => format3 2#2 rd 0x36#6 rs1 (lowFpop 0x2E#9 rs2)
  | .fmul8x16 rd rs1 rs2 => format3 2#2 rd 0x36#6 rs1 (lowFpop 0x31#9 rs2)
  | .fmul8x16au rd rs1 rs2 => format3 2#2 rd 0x36#6 rs1 (lowFpop 0x33#9 rs2)
  | .fmul8x16al rd rs1 rs2 => format3 2#2 rd 0x36#6 rs1 (lowFpop 0x35#9 rs2)
  | .fmul8sux16 rd rs1 rs2 => format3 2#2 rd 0x36#6 rs1 (lowFpop 0x36#9 rs2)
  | .fmul8ulx16 rd rs1 rs2 => format3 2#2 rd 0x36#6 rs1 (lowFpop 0x37#9 rs2)
  | .fmuld8sux16 rd rs1 rs2 => format3 2#2 rd 0x36#6 rs1 (lowFpop 0x38#9 rs2)
  | .fmuld8ulx16 rd rs1 rs2 => format3 2#2 rd 0x36#6 rs1 (lowFpop 0x39#9 rs2)
  | .fpack32 rd rs1 rs2 => format3 2#2 rd 0x36#6 rs1 (lowFpop 0x3A#9 rs2)
  | .fpack16 rd rs2 => format3 2#2 rd 0x36#6 0#5 (lowFpop 0x3B#9 rs2)
  | .fpackfix rd rs2 => format3 2#2 rd 0x36#6 0#5 (lowFpop 0x3D#9 rs2)
  | .pdist rd rs1 rs2 => format3 2#2 rd 0x36#6 rs1 (lowFpop 0x3E#9 rs2)
  | .faligndata rd rs1 rs2 => format3 2#2 rd 0x36#6 rs1 (lowFpop 0x48#9 rs2)
  | .fpmerge rd rs1 rs2 => format3 2#2 rd 0x36#6 rs1 (lowFpop 0x4B#9 rs2)
  | .bshuffle rd rs1 rs2 => format3 2#2 rd 0x36#6 rs1 (lowFpop 0x4C#9 rs2)
  | .fexpand rd rs2 => format3 2#2 rd 0x36#6 0#5 (lowFpop 0x4D#9 rs2)
  | .fpadd16 rd rs1 rs2 => format3 2#2 rd 0x36#6 rs1 (lowFpop 0x50#9 rs2)
  | .fpadd16s rd rs1 rs2 => format3 2#2 rd 0x36#6 rs1 (lowFpop 0x51#9 rs2)
  | .fpadd32 rd rs1 rs2 => format3 2#2 rd 0x36#6 rs1 (lowFpop 0x52#9 rs2)
  | .fpadd32s rd rs1 rs2 => format3 2#2 rd 0x36#6 rs1 (lowFpop 0x53#9 rs2)
  | .fpsub16 rd rs1 rs2 => format3 2#2 rd 0x36#6 rs1 (lowFpop 0x54#9 rs2)
  | .fpsub16s rd rs1 rs2 => format3 2#2 rd 0x36#6 rs1 (lowFpop 0x55#9 rs2)
  | .fpsub32 rd rs1 rs2 => format3 2#2 rd 0x36#6 rs1 (lowFpop 0x56#9 rs2)
  | .fpsub32s rd rs1 rs2 => format3 2#2 rd 0x36#6 rs1 (lowFpop 0x57#9 rs2)
  | .fzerod rd => format3 2#2 rd 0x36#6 0#5 (lowFpop 0x60#9 0#5)
  | .fzeros rd => format3 2#2 rd 0x36#6 0#5 (lowFpop 0x61#9 0#5)
  | .fnord rd rs1 rs2 => format3 2#2 rd 0x36#6 rs1 (lowFpop 0x62#9 rs2)
  | .fnors rd rs1 rs2 => format3 2#2 rd 0x36#6 rs1 (lowFpop 0x63#9 rs2)
  | .fandnot2d rd rs1 rs2 => format3 2#2 rd 0x36#6 rs1 (lowFpop 0x64#9 rs2)
  | .fandnot2s rd rs1 rs2 => format3 2#2 rd 0x36#6 rs1 (lowFpop 0x65#9 rs2)
  | .fnot2d rd rs2 => format3 2#2 rd 0x36#6 0#5 (lowFpop 0x66#9 rs2)
  | .fnot2s rd rs2 => format3 2#2 rd 0x36#6 0#5 (lowFpop 0x67#9 rs2)
  | .fandnot1d rd rs1 rs2 => format3 2#2 rd 0x36#6 rs1 (lowFpop 0x68#9 rs2)
  | .fandnot1s rd rs1 rs2 => format3 2#2 rd 0x36#6 rs1 (lowFpop 0x69#9 rs2)
  | .fnot1d rd rs1 => format3 2#2 rd 0x36#6 rs1 (lowFpop 0x6A#9 0#5)
  | .fnot1s rd rs1 => format3 2#2 rd 0x36#6 rs1 (lowFpop 0x6B#9 0#5)
  | .fxord rd rs1 rs2 => format3 2#2 rd 0x36#6 rs1 (lowFpop 0x6C#9 rs2)
  | .fxors rd rs1 rs2 => format3 2#2 rd 0x36#6 rs1 (lowFpop 0x6D#9 rs2)
  | .fnandd rd rs1 rs2 => format3 2#2 rd 0x36#6 rs1 (lowFpop 0x6E#9 rs2)
  | .fnands rd rs1 rs2 => format3 2#2 rd 0x36#6 rs1 (lowFpop 0x6F#9 rs2)
  | .fandd rd rs1 rs2 => format3 2#2 rd 0x36#6 rs1 (lowFpop 0x70#9 rs2)
  | .fands rd rs1 rs2 => format3 2#2 rd 0x36#6 rs1 (lowFpop 0x71#9 rs2)
  | .fxnord rd rs1 rs2 => format3 2#2 rd 0x36#6 rs1 (lowFpop 0x72#9 rs2)
  | .fxnors rd rs1 rs2 => format3 2#2 rd 0x36#6 rs1 (lowFpop 0x73#9 rs2)
  | .fsrc1d rd rs1 => format3 2#2 rd 0x36#6 rs1 (lowFpop 0x74#9 0#5)
  | .fsrc1s rd rs1 => format3 2#2 rd 0x36#6 rs1 (lowFpop 0x75#9 0#5)
  | .fornot2d rd rs1 rs2 => format3 2#2 rd 0x36#6 rs1 (lowFpop 0x76#9 rs2)
  | .fornot2s rd rs1 rs2 => format3 2#2 rd 0x36#6 rs1 (lowFpop 0x77#9 rs2)
  | .fsrc2d rd rs2 => format3 2#2 rd 0x36#6 0#5 (lowFpop 0x78#9 rs2)
  | .fsrc2s rd rs2 => format3 2#2 rd 0x36#6 0#5 (lowFpop 0x79#9 rs2)
  | .fornot1d rd rs1 rs2 => format3 2#2 rd 0x36#6 rs1 (lowFpop 0x7A#9 rs2)
  | .fornot1s rd rs1 rs2 => format3 2#2 rd 0x36#6 rs1 (lowFpop 0x7B#9 rs2)
  | .ford rd rs1 rs2 => format3 2#2 rd 0x36#6 rs1 (lowFpop 0x7C#9 rs2)
  | .fors rd rs1 rs2 => format3 2#2 rd 0x36#6 rs1 (lowFpop 0x7D#9 rs2)
  | .foned rd => format3 2#2 rd 0x36#6 0#5 (lowFpop 0x7E#9 0#5)
  | .fones rd => format3 2#2 rd 0x36#6 0#5 (lowFpop 0x7F#9 0#5)
  | .siam mode => format3 2#2 0#5 0x36#6 0#5 (lowFpop 0x81#9 (0#2 ++ mode))

/-- The bytes of an instruction in address order. -/
def encodeBytes (i : Instr) : List Byte := bytesOfWord (encode i)

end

end Sys2Proof
end

