-- ==== Sys2Proof/Config.lean ====
section
/-! DEFINITION. What the source leaves to the implementation: the architectural constants of 00_scope.md R10, the open parameters of R11 at their defaults, and the free values, which have no body. -/

namespace Sys2Proof.Config

/-! ### Constants (00_scope.md R10) -/

/-- `N_REG_WINDOWS`. -/
def nRegWindows : Nat := 8
/-- `MAXPTL`: the highest trap level of privileged software. -/
def maxPtl : Nat := 2
/-- `MAXPGL`: the highest global level. -/
def maxPgl : Nat := 2

/-! ### Open parameters (00_scope.md R11), DESIGN CHOICE: each at the spec's default (log 14) -/

/-- `FPU_PRESENT` (10_state.md R101). -/
def fpuPresent : Bool := true
/-- `FSR_VER` (10_state.md R85; log 18). -/
def fsrVer : BitVec 3 := 0
/-- `NS_IMPLEMENTED`: `FSR.ns` is writable (10_state.md R84; 45_floating_point.md R1158; log 14). -/
def nsImplemented : Bool := false
/-- `FMAF_IMPLEMENTED` (45_floating_point.md R1260). -/
def fmafImplemented : Bool := true
/-- `TCT_IMPLEMENTED` (10_state.md R151). -/
def tctImplemented : Bool := true
/-- `TCT_TPC_UNMASKED` (60_exceptions.md R1603). -/
def tctTpcUnmasked : Bool := false
/-- `PERF_ASRS`: ASRs 16 and 17 are present (44_window_and_state.md R1086; 90_conflicts.md C20; log 14). -/
def perfAsrs : Bool := false
/-- `STICK_PRIV_ACCESS_DISABLED`: reads of TICK and STICK trap whatever `npt` (00_scope.md R11; 92_eei_decisions.md D23; 44_window_and_state.md R1060; log 14). -/
def stickPrivAccessDisabled : Bool := false
/-- `VA_BITS` (20_memory.md R206): at its default no address is out of range. -/
def vaBits : Nat := 64
/-- `RA_BITS` (20_memory.md R206). -/
def raBits : Nat := 56
/-- `CONTEXT_BITS` (20_memory.md R226). -/
def contextBits : Nat := 16
/-- `SCRATCHPAD_4_7`: scratchpad registers 4 to 7 are accessible (20_memory.md R225). -/
def scratchpad4To7 : Bool := true
/-- `ENTRY`: the address a run starts at (70_reset_and_hazards.md R1752), DESIGN CHOICE (log 2). -/
def entry : Word64 := 0x1000

/-- `PAGE_SIZES`: the `sz` values a translation table entry may hold (20_memory.md R280, R284). -/
def pageSizeSupported (sz : Nat) : Bool := sz ≤ 7

/-- The attributes of a real address that hyperprivileged software would map (20_memory.md R217). -/
structure RealAttr where
  ie : Bool
  cp : Bool
  e : Bool
  deriving DecidableEq, Repr

/-- `real_attr(ra)` (20_memory.md R217). -/
def realAttr (_ : Nat) : RealAttr := { ie := false, cp := true, e := false }

/-- The FPops that may be unfinished: those whose page lists fp_exception_other with `ftt` 2 (45_floating_point.md R1157). -/
inductive UnfinishedOp where
  | fadds | faddd | fsubs | fsubd | fmuls | fmuld | fsmuld | fdivs | fdivd | fsqrts | fsqrtd
  | fmadds | fmaddd | fmsubs | fmsubd | fnmsubs | fnmsubd | fnmadds | fnmaddd
  | fstod | fdtos | fstoi | fdtoi | fstox | fdtox
  deriving DecidableEq, Repr

/-- `unfinished(insn, operands)`: whether this processor leaves the FPop to software on these operands, rs1, rs2, rs3 as far as it has them, a single in the low bits; never, by default (45_floating_point.md R1157; 93_implementation_defined.md I248; DESIGN CHOICE, log 26). -/
def unfinished (_insn : UnfinishedOp) (_operands : List Word64) : Bool := false

/-! ### Free values: no body, so nothing in Lean evaluates them (log 9) -/

/-- Y after UDIV, UDIVcc, SDIV or SDIVcc, drawn afresh each time (93_implementation_defined.md U12; log 10). -/
opaque freeY : Nat → Word32

/-- The result of ARRAY8, ARRAY16 or ARRAY32 for `R[rs2]` above 5, drawn afresh each time (93_implementation_defined.md U20; log 11). -/
opaque freeArray : Nat → Word64

/-! ### The I/O devices (20_memory.md R202; 92_eei_decisions.md D31; log 42) -/

/-- What a device sees of one access (20_memory.md R202). -/
inductive IoEvent where
  /-- A read of the `width` bytes at `ra`, a byte of which lies in `IO_REGION`. -/
  | read (ra width : Nat)
  /-- The bytes a store puts into `IO_REGION`, by real address. -/
  | write (cells : List (Nat × Byte))
  deriving DecidableEq, Repr

/-- `io_read` and `io_write`, the device function: the byte the devices give for a real address, from all they have seen, newest first, the read itself the newest. It has no body, so a device may be any function of its accesses; a write acts by being seen. -/
opaque ioRead : List IoEvent → Nat → Byte

end Sys2Proof.Config
end

