-- ==== Sys2Proof/Machine/State.lean ====
section
/-! DEFINITION. The state of one virtual processor (10_state.md R50), its memory and translation, the reasons a run stops, and the state after reset (70_reset_and_hazards.md R1752). -/

namespace Sys2Proof.Machine

/-! ### Exceptions -/

/-- The exceptions this machine raises (60_exceptions.md R1570). -/
inductive Exception where
  | iaePrivilegeViolation
  | iaeUnauthAccess
  | iaeNfoPage
  | illegalInstruction
  | privilegedOpcode
  | daeInvalidAsi
  | daePrivilegeViolation
  | daeNcPage
  | daeNfoPage
  | daeSideEffectPage
  | fpDisabled
  | fpExceptionIeee754
  | fpExceptionOther
  | tagOverflow
  | cleanWindow
  | divisionByZero
  | memAddressNotAligned
  | lddfMemAddressNotAligned
  | stdfMemAddressNotAligned
  | privilegedAction
  | vaWatchpoint
  | instructionVaWatchpoint
  | controlTransferInstruction
  /-- A window spill: whether OTHERWIN selects the `other` handlers, and the WSTATE field (R1657). -/
  | spill (other : Bool) (n : BitVec 3)
  /-- A window fill. -/
  | fill (other : Bool) (n : BitVec 3)
  /-- Tcc with a software trap number: `trap_instruction` below 0x80, `htrap_instruction` from 0x80 (R1634, R1652). -/
  | trapInstruction (swtn : BitVec 8)
  | interruptLevel (n : BitVec 4)
  | cpuMondo
  | devMondo
  | resumableError
  deriving DecidableEq, Repr

/-- Events of the MMU that this edition hands to hyperprivileged software without a trap type (20_memory.md R285, R286). -/
inductive MmuEvent where
  /-- No translation table entry maps the address (R285). -/
  | translationMiss
  /-- More than one does (R282). -/
  | multipleHit
  /-- One does, and its page size is not in `PAGE_SIZES` (R280, R284; 93_implementation_defined.md section 4; log 13). -/
  | reservedPageSize
  /-- A store or atomic to a page without write permission (R286). -/
  | writeProtection
  /-- The real address has more bits than `RA_BITS` (R206; log 6). -/
  | realAddressRange
  /-- The virtual address is none of the `VA_BITS`-bit ones (R206; log 6); none is at the default. -/
  | virtualAddressRange
  deriving DecidableEq, Repr

/-- What is handed to hyperprivileged software: a trap type, or an MMU event (60_exceptions.md R1610). -/
inductive HyperCause where
  | trap (tt : BitVec 9)
  | mmu (event : MmuEvent)
  deriving DecidableEq, Repr

/-- The address and ASI of an access, where the cause is one (60_exceptions.md R1610, `info`). -/
structure AccessInfo where
  va : Word64
  asi : Asi
  deriving DecidableEq, Repr

/-! ### Why a run stops -/

/-- The machine stops. -/
inductive Fault where
  /-- `ExitToHyperprivileged(tt, PC, NPC, info)`: the event is handled in hyperprivileged mode, outside this edition, and no state changes (60_exceptions.md R1610). Raised by trap delivery, by translation and by decoding. Safe: the architecture itself goes on only in software the spec does not describe. -/
  | exitToHyperprivileged (cause : HyperCause) (pc npc : Word64) (info : Option AccessInfo)
  /-- A read or fetch of a byte of memory that nothing has written (70_reset_and_hazards.md R1752, "reading them is refused"; log 4). Raised by every read of memory. Safe: hardware would read some byte. -/
  | unwrittenMemory (address : Nat)
  deriving DecidableEq, Repr

/-- The model declines what the source calls undefined. -/
inductive Refusal where
  /-- The instruction has no meaning in this model yet. Raised by `exec` only. Safe. -/
  | notModelled (mnemonic : String)
  /-- Nonprivileged mode with TL above 0: the source says the behaviour is undefined (60_exceptions.md R1565, R1585 step 0; 93_implementation_defined.md U30). Raised by `step`. Safe. -/
  | invalidState
  /-- SAVED with CANSAVE at or above N_REG_WINDOWS - 2, or with CANRESTORE 0: the source calls what follows undefined (93_implementation_defined.md U5; log 19). Raised by SAVED. Safe. -/
  | savedWindowsInconsistent
  /-- RESTORED with CANRESTORE at or above N_REG_WINDOWS - 2, or with CANSAVE 0: the source calls what follows undefined (93_implementation_defined.md U6; log 19). Raised by RESTORED. Safe. -/
  | restoredWindowsInconsistent
  /-- ASR 16 or 17 where `PERF_ASRS` is set: the source describes no register of theirs (92_eei_decisions.md D51; 91_not_in_source.md N10; log 14). Raised by `step`; never at the default. Safe. -/
  | performanceRegisters
  deriving DecidableEq, Repr

/-! ### State -/

/-- Real memory: the bytes that have been written, by real address, addresses strictly rising (20_memory.md R201; `Memory.wf`). An address not listed has no value. -/
abbrev Memory := List Host.Cell

/-- A translation the hyperprivileged layer has installed (20_memory.md R283 to R285). -/
structure TlbEntry where
  contextId : BitVec 16
  /-- The virtual address the entry maps; bits below the page size are not compared. -/
  tagVa : Word64
  /-- The TTE data word (20_memory.md R284). -/
  data : Word64
  deriving DecidableEq, Repr

/-- The translation relation (20_memory.md R285). -/
inductive Tlb where
  /-- Every virtual address is its own real address, every access allowed (92_eei_decisions.md D30). -/
  | identity
  | entries (list : List TlbEntry)
  deriving DecidableEq, Repr

/-- A range of real addresses (20_memory.md R202). -/
structure IoRange where
  base : Nat
  size : Nat
  deriving DecidableEq, Repr

/-- One level of the trap stack (10_state.md R141 to R144). -/
structure TrapFrame where
  /-- TPC, bits 63:2. -/
  tpc : BitVec 62
  /-- TNPC, bits 63:2. -/
  tnpc : BitVec 62
  /-- TSTATE; the bits that are not storage are zero (R146). -/
  tstate : Word64
  /-- TT. -/
  tt : BitVec 9
  deriving DecidableEq, Repr

/-- Head and tail of an interrupt queue, bits 5:0 zero (60_exceptions.md R1660, R1662). -/
structure Queue where
  head : Word64
  tail : Word64
  deriving DecidableEq, Repr

/-- A data VA watchpoint (20_memory.md R296; log 16). -/
structure DataWatch where
  address : Word64
  onLoad : Bool
  onStore : Bool
  deriving DecidableEq, Repr

/-- What the environment does at one instruction boundary (60_exceptions.md R1585 step 1; log 7). -/
structure EnvInput where
  /-- TICK.counter advances by one more than this. -/
  tickMore : Nat
  /-- STICK.counter advances by one more than this. -/
  stickMore : Nat
  /-- New queue tails, where they move (R1661). -/
  cpuMondoTail : Option Word64
  devMondoTail : Option Word64
  resErrorTail : Option Word64
  nonresErrorTail : Option Word64
  /-- The interrupt levels external sources assert from now on, bit n for level n (R1668). -/
  extReq : BitVec 16
  /-- The bytes other agents store in the memory they share with this strand, by real address, in their order: other strands (70_reset_and_hazards.md R1772), and devices by DMA (00_scope.md R6; log 42). -/
  stores : List Host.Cell
  deriving DecidableEq, Repr

/-- The state of the machine (10_state.md R50). -/
structure State where
  /-- The global registers G[0..2][1..7]: register n of set g is element 7 * g + n - 1 (10_state.md R54). -/
  globals : Vector Word64 21
  /-- The windowed registers W[0..127] (10_state.md R54). -/
  windows : Vector Word64 128
  /-- PC (10_state.md R60). -/
  pc : Word64
  /-- NPC (10_state.md R61). -/
  npc : Word64
  /-- The words Fw[0..63] of the F registers (10_state.md R70, R71). -/
  fregs : Vector Word32 64
  /-- FSR (10_state.md R80). -/
  fsr : Word64
  /-- FPRS: fef, du, dl (10_state.md R100). -/
  fprs : BitVec 3
  /-- GSR (10_state.md R103). -/
  gsr : Word64
  /-- Y (10_state.md R96). -/
  y : Word32
  /-- CCR: xcc, icc (10_state.md R97). -/
  ccr : BitVec 8
  /-- ASI (10_state.md R98). -/
  asi : Asi
  /-- TICK: npt, counter (10_state.md R99). -/
  tick : Word64
  /-- SOFTINT (10_state.md R104). -/
  softint : BitVec 17
  /-- TICK_CMPR (10_state.md R106). -/
  tickCmpr : Word64
  /-- STICK (10_state.md R107). -/
  stick : Word64
  /-- STICK_CMPR (10_state.md R108). -/
  stickCmpr : Word64
  /-- CWP (10_state.md R121). -/
  cwp : BitVec 3
  /-- CANSAVE (10_state.md R122). -/
  cansave : BitVec 3
  /-- CANRESTORE (10_state.md R123). -/
  canrestore : BitVec 3
  /-- CLEANWIN (10_state.md R124). -/
  cleanwin : BitVec 3
  /-- OTHERWIN (10_state.md R125). -/
  otherwin : BitVec 3
  /-- WSTATE: other, normal (10_state.md R126). -/
  wstate : BitVec 6
  /-- TPC, TNPC, TSTATE, TT at trap levels 1 and 2 (10_state.md R141 to R146). -/
  trapStack : Vector TrapFrame 2
  /-- TBA, bits 63:15 (10_state.md R145). -/
  tba : BitVec 49
  /-- PSTATE, the 13-bit image (10_state.md R150). -/
  pstate : BitVec 13
  /-- TL (10_state.md R160). -/
  tl : Fin 3
  /-- PIL (10_state.md R161). -/
  pil : BitVec 4
  /-- GL (10_state.md R162). -/
  gl : Fin 3
  /-- The scratchpad registers (20_memory.md R225). -/
  scratchpad : Vector Word64 8
  /-- The MMU context registers (20_memory.md R226). -/
  primaryContext0 : BitVec 16
  primaryContext1 : BitVec 16
  secondaryContext0 : BitVec 16
  secondaryContext1 : BitVec 16
  /-- The interrupt queues (20_memory.md R227). -/
  cpuMondo : Queue
  devMondo : Queue
  resError : Queue
  nonresError : Queue
  /-- Real memory (20_memory.md R201). -/
  mem : Memory
  /-- `IO_REGION`: the real addresses that are I/O locations (20_memory.md R202; 92_eei_decisions.md D31; log 42). -/
  ioRegion : List IoRange
  /-- What the I/O devices have seen of this processor, newest first (20_memory.md R202; log 42). -/
  ioLog : List Config.IoEvent
  /-- The translation relation (20_memory.md R285). -/
  tlb : Tlb
  /-- The interrupt levels external sources assert now (60_exceptions.md R1668). -/
  extReq : BitVec 16
  /-- What the environment does at the next boundaries; none left is the default advance (60_exceptions.md R1585). -/
  inputs : List EnvInput
  /-- The instruction VA watchpoint (20_memory.md R296). -/
  insnWatch : Option Word64
  /-- The data VA watchpoint (20_memory.md R296). -/
  dataWatch : Option DataWatch
  /-- The MODEL's own: how many free values have been drawn (log 9). -/
  freeCount : Nat
  /-- The MODEL's own: a trap has been taken in this step (60_exceptions.md R1585 step 4; log 8). -/
  trapped : Bool
  deriving DecidableEq, Repr

/-- An empty interrupt queue. -/
def Queue.empty : Queue := { head := 0, tail := 0 }

/-- A trap level nothing has been saved in. -/
def TrapFrame.zero : TrapFrame := { tpc := 0, tnpc := 0, tstate := 0, tt := 0 }

/-- The machine right after reset: the default initial state of 70_reset_and_hazards.md R1752. The source gives no reset value for any register (R1750): every value here is a DESIGN CHOICE (log 1). -/
def State.reset : State where
  globals := Vector.replicate 21 0
  windows := Vector.replicate 128 0
  pc := Config.entry
  npc := Config.entry + 4
  fregs := Vector.replicate 64 0
  fsr := Config.fsrVer.zeroExtend 64 <<< 17
  fprs := 0b100
  gsr := 0
  y := 0
  ccr := 0
  asi := 0
  tick := 0
  softint := 0
  tickCmpr := 0x8000000000000000
  stick := 0
  stickCmpr := 0x8000000000000000
  cwp := 0
  cansave := 6
  canrestore := 0
  cleanwin := 7
  otherwin := 0
  wstate := 0
  trapStack := Vector.replicate 2 TrapFrame.zero
  tba := 0
  pstate := 0x014
  tl := 0
  pil := 0
  gl := 0
  scratchpad := Vector.replicate 8 0
  primaryContext0 := 0
  primaryContext1 := 0
  secondaryContext0 := 0
  secondaryContext1 := 0
  cpuMondo := Queue.empty
  devMondo := Queue.empty
  resError := Queue.empty
  nonresError := Queue.empty
  mem := []
  ioRegion := []
  ioLog := []
  tlb := .identity
  extReq := 0
  inputs := []
  insnWatch := none
  dataWatch := none
  freeCount := 0
  trapped := false

end Sys2Proof.Machine
end

