-- ==== Sys2Proof/Machine/Ops.lean ====
section
/-! DEFINITION. The named operations over registers, and trap entry and return (10_state.md R52 to R63, R70 to R73, R101, R102, R146 to R157; 60_exceptions.md R1570, R1600 to R1615). -/

namespace Sys2Proof.Machine

/-- The result of a step or of an instruction. -/
abbrev Outcome := Host.Outcome State Fault Refusal

/-! ### PSTATE (10_state.md R150) -/

/-- `PSTATE.tct`. -/
def State.tct (s : State) : Bool := s.pstate.getLsbD 12
/-- `PSTATE.cle`. -/
def State.cle (s : State) : Bool := s.pstate.getLsbD 9
/-- `PSTATE.tle`. -/
def State.tle (s : State) : Bool := s.pstate.getLsbD 8
/-- `PSTATE.pef`. -/
def State.pef (s : State) : Bool := s.pstate.getLsbD 4
/-- `PSTATE.am`. -/
def State.am (s : State) : Bool := s.pstate.getLsbD 3
/-- `PSTATE.priv`. -/
def State.priv (s : State) : Bool := s.pstate.getLsbD 2
/-- `PSTATE.ie`. -/
def State.ie (s : State) : Bool := s.pstate.getLsbD 1

/-- The bits of PSTATE that are storage; the rest read 0 and ignore writes (10_state.md R146, R150 to R155). -/
def pstateMask : BitVec 13 :=
  0x030E ||| (if Config.tctImplemented then 0x1000 else 0) ||| (if Config.fpuPresent then 0x0010 else 0)

/-- `am_mask` (10_state.md R153). -/
def amMask (s : State) (x : Word64) : Word64 := if s.am then (x.truncate 32).zeroExtend 64 else x

/-! ### R registers (10_state.md R52, R54) -/

/-- The storage an R register number names (10_state.md R54). -/
inductive PhysReg where
  /-- Register 0: the constant 0. -/
  | zero
  /-- An element of the global registers. -/
  | global (i : Fin 21)
  /-- An element of the windowed registers. -/
  | window (i : Fin 128)
  deriving DecidableEq, Repr

/-- `phys(n)` under a global level and a window (10_state.md R54). -/
def phys (gl : Fin 3) (cwp : BitVec 3) (n : RegNum) : PhysReg :=
  if n.toNat = 0 then .zero
  else if n.toNat < 8 then .global (Fin.ofNat 21 (7 * gl.val + n.toNat - 1))
  else if n.toNat < 16 then .window (Fin.ofNat 128 (16 * ((cwp.toNat + 1) % Config.nRegWindows) + (n.toNat - 8)))
  else if n.toNat < 24 then .window (Fin.ofNat 128 (16 * cwp.toNat + 8 + (n.toNat - 16)))
  else .window (Fin.ofNat 128 (16 * cwp.toNat + (n.toNat - 24)))

/-- The value of a piece of register storage. -/
def readPhys (s : State) (p : PhysReg) : Word64 :=
  match p with
  | .zero => 0
  | .global i => s.globals[i]
  | .window i => s.windows[i]

/-- Stores into a piece of register storage; register 0 discards the value. -/
def writePhys (s : State) (p : PhysReg) (v : Word64) : State :=
  match p with
  | .zero => s
  | .global i => { s with globals := s.globals.set i v }
  | .window i => { s with windows := s.windows.set i v }

/-- `R[n]` (10_state.md R54). -/
def readReg (s : State) (n : RegNum) : Word64 := readPhys s (phys s.gl s.cwp n)

/-- `R[n] <- v` (10_state.md R54). -/
def writeReg (s : State) (n : RegNum) (v : Word64) : State := writePhys s (phys s.gl s.cwp n) v

/-- The register after an even one: the odd half of a twin-word pair (10_state.md R57). -/
def oddOf (rd : RegNum) : RegNum := rd ||| 1#5

/-! ### F registers (10_state.md R71, R102; 30_encoding.md R345) -/

/-- The word of `FS[f]`. -/
def singleWord (f : RegNum) : Fin 64 := Fin.ofNat 64 f.toNat

/-- The register number of a double-precision field: its bit 0 is bit 5 of the number (30_encoding.md R345). -/
def doubleNumber (f : RegNum) : BitVec 6 := f.extractLsb' 0 1 ++ f.extractLsb' 1 4 ++ 0#1

/-- `FS[f]`. -/
def readS (s : State) (f : RegNum) : Word32 := s.fregs[singleWord f]

/-- The doubleword at an even word of the F registers. -/
def readFd (s : State) (n : BitVec 6) : Word64 :=
  s.fregs[Fin.ofNat 64 n.toNat] ++ s.fregs[Fin.ofNat 64 (n.toNat + 1)]

/-- `FD` of a field. -/
def readD (s : State) (f : RegNum) : Word64 := readFd s (doubleNumber f)

/-- `FPRS` after a write to F register word `n` (10_state.md R102). -/
def dirty (fprs : BitVec 3) (n : Nat) : BitVec 3 := if n < 32 then fprs ||| 0b001 else fprs ||| 0b010

/-- `FS[f] <- v`. -/
def writeS (s : State) (f : RegNum) (v : Word32) : State :=
  { s with fregs := s.fregs.set (singleWord f) v, fprs := dirty s.fprs f.toNat }

/-- Stores the doubleword at an even word of the F registers. -/
def writeFd (s : State) (n : BitVec 6) (v : Word64) : State :=
  { s with
    fregs := (s.fregs.set (Fin.ofNat 64 n.toNat) (v.extractLsb' 32 32)).set
      (Fin.ofNat 64 (n.toNat + 1)) (v.extractLsb' 0 32)
    fprs := dirty s.fprs n.toNat }

/-- `FD[..] <- v` of a field. -/
def writeD (s : State) (f : RegNum) (v : Word64) : State := writeFd s (doubleNumber f) v

/-- `FPU_enabled` (10_state.md R101). -/
def fpuEnabled (s : State) : Bool := Config.fpuPresent && s.fprs.getLsbD 2 && s.pef

/-! ### Program counters (10_state.md R62) -/

/-- The end of an instruction that is not a control transfer. -/
def advance (s : State) : State := { s with pc := s.npc, npc := s.npc + 4 }

/-- Writes both program counters. -/
def setPcs (s : State) (pc npc : Word64) : State := { s with pc := pc, npc := npc }

/-! ### Exceptions (60_exceptions.md R1570) -/

/-- The trap type of a window trap (60_exceptions.md R1657): `base` is 0x80 for a spill, 0xC0 for a fill. -/
def windowTrapType (base : BitVec 9) (other : Bool) (n : BitVec 3) : BitVec 9 :=
  base + (if other then 0x20 else 0) + 4 * n.zeroExtend 9

/-- The trap type (60_exceptions.md R1570). -/
def Exception.tt (e : Exception) : BitVec 9 :=
  match e with
  | .iaePrivilegeViolation => 0x008
  | .iaeUnauthAccess => 0x00B
  | .iaeNfoPage => 0x00C
  | .illegalInstruction => 0x010
  | .privilegedOpcode => 0x011
  | .daeInvalidAsi => 0x014
  | .daePrivilegeViolation => 0x015
  | .daeNcPage => 0x016
  | .daeNfoPage => 0x017
  | .fpDisabled => 0x020
  | .fpExceptionIeee754 => 0x021
  | .fpExceptionOther => 0x022
  | .tagOverflow => 0x023
  | .cleanWindow => 0x024
  | .divisionByZero => 0x028
  | .daeSideEffectPage => 0x030
  | .memAddressNotAligned => 0x034
  | .lddfMemAddressNotAligned => 0x035
  | .stdfMemAddressNotAligned => 0x036
  | .privilegedAction => 0x037
  | .interruptLevel n => 0x040 + n.zeroExtend 9
  | .vaWatchpoint => 0x062
  | .controlTransferInstruction => 0x074
  | .instructionVaWatchpoint => 0x075
  | .cpuMondo => 0x07C
  | .devMondo => 0x07D
  | .resumableError => 0x07E
  | .spill other n => windowTrapType 0x080 other n
  | .fill other n => windowTrapType 0x0C0 other n
  | .trapInstruction swtn => 0x100 + swtn.zeroExtend 9

/-- Whether the trap is delivered in privileged mode below MAXPTL: column P of 60_exceptions.md R1570. -/
def Exception.toPrivileged (e : Exception) : Bool :=
  match e with
  | .privilegedOpcode | .fpDisabled | .fpExceptionIeee754 | .fpExceptionOther | .tagOverflow
  | .cleanWindow | .divisionByZero | .vaWatchpoint | .controlTransferInstruction
  | .instructionVaWatchpoint | .cpuMondo | .devMondo | .resumableError | .spill _ _ | .fill _ _
  | .interruptLevel _ => true
  | .trapInstruction swtn => swtn.toNat < 128
  | .iaePrivilegeViolation | .iaeUnauthAccess | .iaeNfoPage | .illegalInstruction | .daeInvalidAsi
  | .daePrivilegeViolation | .daeNcPage | .daeNfoPage | .daeSideEffectPage | .memAddressNotAligned
  | .lddfMemAddressNotAligned | .stdfMemAddressNotAligned | .privilegedAction => false

/-! ### Trap entry (60_exceptions.md R1600) -/

/-- The next trap or global level, saturating at 2 = MAXPTL = MAXPGL (60_exceptions.md R1600, R1604). -/
def nextLevel (l : Fin 3) : Fin 3 :=
  match l with
  | 0 => 1
  | _ => 2

/-- The trap level below (41_control_transfer.md R720). -/
def prevLevel (l : Fin 3) : Fin 3 :=
  match l with
  | 2 => 1
  | _ => 0

/-- A global level as the 3-bit `gl` field of TSTATE. -/
def levelBits (l : Fin 3) : BitVec 3 := BitVec.ofNat 3 l.val

/-- TSTATE as trap entry writes it: gl 42:40, ccr 39:32, asi 31:24, pstate 20:8, cwp 2:0 (10_state.md R143, R146). -/
def savedTstate (s : State) : Word64 :=
  0#21 ++ levelBits s.gl ++ s.ccr ++ s.asi ++ 0#3 ++ s.pstate ++ 0#5 ++ s.cwp

/-- The frame trap entry saves (60_exceptions.md R1600, R1603). Program counters are masked when PSTATE.am = 1, those of control_transfer_instruction too unless `TCT_TPC_UNMASKED`. -/
def savedFrame (s : State) (tt : BitVec 9) : TrapFrame :=
  let mask (x : Word64) : Word64 := if Config.tctTpcUnmasked && tt == 0x074 then x else amMask s x
  { tpc := (mask s.pc).extractLsb' 2 62
    tnpc := (mask s.npc).extractLsb' 2 62
    tstate := savedTstate s
    tt := tt }

/-- PSTATE as trap entry leaves it: tct 0, cle from tle, tle and mm unchanged, pef 1 if there is an FPU, am 0, priv 1, ie 0 (60_exceptions.md R1600). -/
def trapPstate (s : State) : BitVec 13 :=
  0#1 ++ 0#2 ++ bit s.tle ++ bit s.tle ++ s.pstate.extractLsb' 6 2 ++ 0#1 ++ bit Config.fpuPresent ++ 0#1 ++ 1#1 ++ 0#1 ++ 0#1

/-- CWP as trap entry leaves it (60_exceptions.md R1600, R1658). -/
def trapCwp (s : State) (tt : BitVec 9) : BitVec 3 :=
  if tt = 0x024 then s.cwp + 1
  else if 0x080 ≤ tt ∧ tt ≤ 0x0BF then s.cwp + s.cansave + 2
  else if 0x0C0 ≤ tt ∧ tt ≤ 0x0FF then s.cwp - 1
  else s.cwp

/-- The trap vector (60_exceptions.md R1601). -/
def trapVector (s : State) (tt : BitVec 9) : Word64 := s.tba ++ bit (s.tl != 0) ++ tt ++ 0#5

/-- `take_trap_privileged(tt)`, for TL below MAXPTL (60_exceptions.md R1600). -/
def takeTrap (s : State) (tt : BitVec 9) : State :=
  { s with
    tl := nextLevel s.tl
    trapStack := s.trapStack.setIfInBounds s.tl.val (savedFrame s tt)
    gl := nextLevel s.gl
    pstate := trapPstate s
    cwp := trapCwp s tt
    pc := trapVector s tt
    npc := trapVector s tt + 4
    trapped := true }

/-- Hands an event to hyperprivileged software: no state changes (60_exceptions.md R1610). -/
def leave (s : State) (cause : HyperCause) (info : Option AccessInfo) : Outcome :=
  .fault (.exitToHyperprivileged cause s.pc s.npc info)

/-- Raises an exception: a trap to privileged mode, or, in column H or at TL = MAXPTL, to hyperprivileged mode (60_exceptions.md R1570, R1606, R1610). -/
def raiseAt (s : State) (e : Exception) (info : Option AccessInfo) : Outcome :=
  if e.toPrivileged && decide (s.tl.val < Config.maxPtl) then .next (takeTrap s e.tt)
  else leave s (.trap e.tt) info

/-- Raises an exception that is no access exception. -/
def raise (s : State) (e : Exception) : Outcome := raiseAt s e none

/-! ### Return from a trap (41_control_transfer.md R720; 60_exceptions.md R1615) -/

/-- The frame of the current trap level; at TL = 0 there is none and the first is read. -/
def currentFrame (s : State) : TrapFrame :=
  match s.tl with
  | 2 => s.trapStack[1]
  | _ => s.trapStack[0]

/-- Replaces the frame of the current trap level. -/
def setCurrentFrame (s : State) (f : TrapFrame) : State :=
  { s with trapStack := s.trapStack.setIfInBounds (s.tl.val - 1) f }

/-- The GL that DONE and RETRY restore, saturated (41_control_transfer.md R720). -/
def restoredGl (tstate : Word64) : Fin 3 :=
  match (tstate.extractLsb' 40 3).toNat with
  | 0 => 0
  | 1 => 1
  | _ => 2

/-- What DONE and RETRY restore from TSTATE[TL], and TL - 1 (41_control_transfer.md R720). -/
def returnFromTrap (s : State) : State :=
  let t := (currentFrame s).tstate
  { s with
    gl := restoredGl t
    ccr := t.extractLsb' 32 8
    asi := t.extractLsb' 24 8
    pstate := t.extractLsb' 8 13 &&& pstateMask
    cwp := t.extractLsb' 0 3
    tl := prevLevel s.tl }

/-! ### Checks shared by instructions -/

/-- Goes on where the FPU is enabled, else raises fp_disabled (10_state.md R101). -/
def requireFpu (s : State) (k : Outcome) : Outcome := if fpuEnabled s then k else raise s .fpDisabled

/-- Goes on in privileged mode, else raises privileged_opcode (60_exceptions.md R1565). -/
def requirePriv (s : State) (k : Outcome) : Outcome := if s.priv then k else raise s .privilegedOpcode

/-- `tct_check()` (41_control_transfer.md R619). -/
def tctCheck (s : State) (k : Outcome) : Outcome :=
  if Config.tctImplemented && s.tct then raise s .controlTransferInstruction else k

/-- The spill trap for the current OTHERWIN and WSTATE (60_exceptions.md R1573, R1657). -/
def spillException (s : State) : Exception :=
  if s.otherwin = 0 then .spill false (s.wstate.extractLsb' 0 3) else .spill true (s.wstate.extractLsb' 3 3)

/-- The fill trap for the current OTHERWIN and WSTATE (60_exceptions.md R1573, R1657). -/
def fillException (s : State) : Exception :=
  if s.otherwin = 0 then .fill false (s.wstate.extractLsb' 0 3) else .fill true (s.wstate.extractLsb' 3 3)

/-- The window registers after a restore: CWP - 1, CANRESTORE - 1, CANSAVE + 1 (44_window_and_state.md R1052). -/
def restoreWindow (s : State) : State :=
  { s with cwp := s.cwp - 1, canrestore := s.canrestore - 1, cansave := s.cansave + 1 }

/-- Draws the next free value (log 9). -/
def drawFree (s : State) : State := { s with freeCount := s.freeCount + 1 }

end Sys2Proof.Machine
end

