-- ==== Sys2Proof/Machine/Flags.lean ====
section
/-! DEFINITION. Condition codes: how CCR is computed and how conditions test it, `fcc` and register values (40_integer.md R401 to R403; 30_encoding.md R350 to R352). -/

namespace Sys2Proof.Machine

/-- One group of condition codes, `n z v c` from the most significant bit (10_state.md R97). -/
def nzvc (n z v c : Bool) : BitVec 4 := bit n ++ bit z ++ bit v ++ bit c

/-- `CCR.icc`. -/
def iccOf (s : State) : BitVec 4 := s.ccr.extractLsb' 0 4
/-- `CCR.xcc`. -/
def xccOf (s : State) : BitVec 4 := s.ccr.extractLsb' 4 4
/-- `CCR.icc.c`, the carry that ADDC and SUBC read (40_integer.md R406, R430). -/
def iccC (s : State) : Bool := s.ccr.getLsbD 0

/-- The condition code an instruction selects (30_encoding.md R353, R354). -/
def ccOf (s : State) (cc : IntCc) : BitVec 4 :=
  match cc with
  | .icc => iccOf s
  | .xcc => xccOf s

/-- CCR from its two groups. -/
def mkCcr (xcc icc : BitVec 4) : BitVec 8 := xcc ++ icc

/-- The codes of `a + b + cin` at one width (40_integer.md R401). -/
def addCodes {w : Nat} (a b : BitVec w) (cin : Bool) : BitVec 4 :=
  let sum := a + b + BitVec.ofNat w cin.toNat
  nzvc sum.msb (sum == 0) (a.msb == b.msb && sum.msb != a.msb)
    (decide (2 ^ w ≤ a.toNat + b.toNat + cin.toNat))

/-- The codes of `a - b - cin` at one width (40_integer.md R402). -/
def subCodes {w : Nat} (a b : BitVec w) (cin : Bool) : BitVec 4 :=
  let diff := a - b - BitVec.ofNat w cin.toNat
  nzvc diff.msb (diff == 0) (a.msb != b.msb && diff.msb != a.msb)
    (decide (a.toNat < b.toNat + cin.toNat))

/-- The codes of a result at one width, `v` and `c` clear (40_integer.md R403). -/
def logicCodes {w : Nat} (res : BitVec w) : BitVec 4 := nzvc res.msb (res == 0) false false

/-- `cc_add` (40_integer.md R401). -/
def ccAdd (a b : Word64) (cin : Bool) : BitVec 8 :=
  mkCcr (addCodes a b cin) (addCodes (a.setWidth 32) (b.setWidth 32) cin)

/-- `cc_sub` (40_integer.md R402). -/
def ccSub (a b : Word64) (cin : Bool) : BitVec 8 :=
  mkCcr (subCodes a b cin) (subCodes (a.setWidth 32) (b.setWidth 32) cin)

/-- `cc_logic` (40_integer.md R403). -/
def ccLogic (res : Word64) : BitVec 8 := mkCcr (logicCodes res) (logicCodes (res.setWidth 32))

/-- CCR with `icc.v` replaced (40_integer.md R447, R452). -/
def withIccV (ccr : BitVec 8) (v : Bool) : BitVec 8 :=
  ccr.extractLsb' 2 6 ++ bit v ++ ccr.extractLsb' 0 1

/-- `tag_overflow_add` (40_integer.md R451). -/
def tagOverflowAdd (a b : Word64) : Bool :=
  a.extractLsb' 0 2 != 0 || b.extractLsb' 0 2 != 0 || (ccAdd a b false).getLsbD 1

/-- `tag_overflow_sub` (40_integer.md R451). -/
def tagOverflowSub (a b : Word64) : Bool :=
  a.extractLsb' 0 2 != 0 || b.extractLsb' 0 2 != 0 || (ccSub a b false).getLsbD 1

/-- `icc_test`, on one group of condition codes (30_encoding.md R350). -/
def iccTest (cond : BitVec 4) (cc : BitVec 4) : Bool :=
  let n := cc.getLsbD 3
  let z := cc.getLsbD 2
  let v := cc.getLsbD 1
  let c := cc.getLsbD 0
  match cond.toNat with
  | 0b1000 => true
  | 0b0000 => false
  | 0b1001 => !z
  | 0b0001 => z
  | 0b1010 => !(z || (n ^^ v))
  | 0b0010 => z || (n ^^ v)
  | 0b1011 => !(n ^^ v)
  | 0b0011 => n ^^ v
  | 0b1100 => !(c || z)
  | 0b0100 => c || z
  | 0b1101 => !c
  | 0b0101 => c
  | 0b1110 => !n
  | 0b0110 => n
  | 0b1111 => !v
  | _ => v

/-- `fcc_test`, on one `fcc` field: E = 0, L = 1, G = 2, U = 3 (30_encoding.md R351). -/
def fccTest (cond : BitVec 4) (fcc : BitVec 2) : Bool :=
  let e := fcc == 0
  let l := fcc == 1
  let g := fcc == 2
  let u := fcc == 3
  match cond.toNat with
  | 0b1000 => true
  | 0b0000 => false
  | 0b0111 => u
  | 0b0110 => g
  | 0b0101 => g || u
  | 0b0100 => l
  | 0b0011 => l || u
  | 0b0010 => l || g
  | 0b0001 => l || g || u
  | 0b1001 => e
  | 0b1010 => e || u
  | 0b1011 => e || g
  | 0b1100 => e || g || u
  | 0b1101 => e || l
  | 0b1110 => e || l || u
  | _ => e || l || g

/-- `rcond_test`, the value read as signed; 000 and 100 are reserved and no instruction has them (30_encoding.md R352). -/
def rcondTest (rcond : BitVec 3) (v : Word64) : Bool :=
  let z := v == 0
  let n := v.msb
  match rcond.toNat with
  | 0b001 => z
  | 0b010 => z || n
  | 0b011 => n
  | 0b101 => !z
  | 0b110 => !(z || n)
  | 0b111 => !n
  | _ => false

/-- `FSR.fcc<n>`: bits 11:10, 33:32, 35:34, 37:36 (10_state.md R80). -/
def fccOf (fsr : Word64) (n : FccNum) : BitVec 2 :=
  match n.toNat with
  | 0 => fsr.extractLsb' 10 2
  | 1 => fsr.extractLsb' 32 2
  | 2 => fsr.extractLsb' 34 2
  | _ => fsr.extractLsb' 36 2

end Sys2Proof.Machine
end

