-- ==== Sys2Proof/Machine/Operands.lean ====
section
/-! DEFINITION. The operand forms (30_encoding.md R340 to R343; 20_memory.md R204, R210). -/

namespace Sys2Proof.Machine

/-- The second operand: `R[rs2]`, or the sign-extended immediate (30_encoding.md R340). -/
def operand2 {n : Nat} (s : State) (o : RegOrImm n) : Word64 :=
  match o with
  | .reg rs2 => readReg s rs2
  | .imm v => v.signExtend 64

/-- The count of a 32-bit shift: bits 4:0 of `R[rs2]`, or `shcnt32` (40_integer.md R432). -/
def shiftCount32 (s : State) (o : RegOrImm 5) : BitVec 5 :=
  match o with
  | .reg rs2 => (readReg s rs2).extractLsb' 0 5
  | .imm v => v

/-- The count of a 64-bit shift: bits 5:0 of `R[rs2]`, or `shcnt64` (40_integer.md R432). -/
def shiftCount64 (s : State) (o : RegOrImm 6) : BitVec 6 :=
  match o with
  | .reg rs2 => (readReg s rs2).extractLsb' 0 6
  | .imm v => v

/-- The second addend of a software trap number: `R[rs2]`, or `imm_trap_#` zero-extended (41_control_transfer.md R700). -/
def trapOperand (s : State) (o : RegOrImm 8) : Word64 :=
  match o with
  | .reg rs2 => readReg s rs2
  | .imm v => v.setWidth 64

/-- The effective address `R[rs1] + operand2` (20_memory.md R204). -/
def effectiveAddress (s : State) (rs1 : RegNum) (o : RegOrImm 13) : Word64 := readReg s rs1 + operand2 s o

/-- The effective address of an alternate-space access (20_memory.md R204). -/
def alternateAddress (s : State) (rs1 : RegNum) (o : AsiOperand) : Word64 :=
  match o with
  | .immAsi rs2 _ => readReg s rs1 + readReg s rs2
  | .asiReg v => readReg s rs1 + v.signExtend 64

/-- The explicit ASI of an alternate-space access (20_memory.md R210). -/
def explicitAsi (s : State) (o : AsiOperand) : Asi :=
  match o with
  | .immAsi _ asi => asi
  | .asiReg _ => s.asi

/-- The explicit ASI of CASA and CASXA (20_memory.md R210). -/
def casAsi (s : State) (o : CasAsi) : Asi :=
  match o with
  | .immAsi asi => asi
  | .asiReg => s.asi

/-- The target of a PC-relative control transfer: `PC + 4 * sext(disp)` (41_control_transfer.md R618). -/
def pcRelative {n : Nat} (s : State) (disp : BitVec n) : Word64 := s.pc + 4 * disp.signExtend 64

end Sys2Proof.Machine
end

