-- ==== Sys2Proof/Machine/Control.lean ====
section
/-! DEFINITION. Control-transfer instructions (41_control_transfer.md). -/

namespace Sys2Proof.Machine

/-! ### Shared forms -/

/-- `branch_step` (41_control_transfer.md R600); `always` is the condition 1000. -/
def branchStep (s : State) (always taken annul : Bool) (target : Word64) : State :=
  if always && annul then setPcs s target (target + 4)
  else if taken then setPcs s s.npc target
  else if annul then setPcs s (s.npc + 4) (s.npc + 8)
  else advance s

/-- A branch whose condition has been tested: a taken one may trap on control transfer (41_control_transfer.md R601, R619). -/
def branch (s : State) (always taken annul : Bool) (target : Word64) : Outcome :=
  if taken then tctCheck s (.next (branchStep s always taken annul target))
  else .next (branchStep s always taken annul target)

/-- Bicc: tests `icc` (41_control_transfer.md R601). -/
def branchIcc (cond : BitVec 4) (a : Bool) (disp22 : BitVec 22) (s : State) : Outcome :=
  branch s (cond == 0b1000) (iccTest cond (iccOf s)) a (pcRelative s disp22)

/-- BPcc: tests `icc` or `xcc`; the prediction bit has no effect (41_control_transfer.md R620). -/
def branchPcc (cond : BitVec 4) (a : Bool) (cc : IntCc) (disp19 : BitVec 19) (s : State) : Outcome :=
  branch s (cond == 0b1000) (iccTest cond (ccOf s cc)) a (pcRelative s disp19)

/-- BPr: tests `R[rs1]` (41_control_transfer.md R640). -/
def branchReg (rcond : BitVec 3) (a : Bool) (d16 : BitVec 16) (rs1 : RegNum) (s : State) : Outcome :=
  branch s false (rcondTest rcond (readReg s rs1)) a (pcRelative s d16)

/-- FBfcc: tests `fcc0` (41_control_transfer.md R650). -/
def branchFcc (cond : BitVec 4) (a : Bool) (disp22 : BitVec 22) (s : State) : Outcome :=
  requireFpu s (branch s (cond == 0b1000) (fccTest cond (fccOf s.fsr 0)) a (pcRelative s disp22))

/-- FBPfcc: tests the selected `fcc` (41_control_transfer.md R670). -/
def branchPfcc (cond : BitVec 4) (a : Bool) (fcc : FccNum) (disp19 : BitVec 19) (s : State) : Outcome :=
  requireFpu s (branch s (cond == 0b1000) (fccTest cond (fccOf s.fsr fcc)) a (pcRelative s disp19))

/-- The software trap number: 8 bits of the sum in privileged mode, 7 in nonprivileged mode (41_control_transfer.md R700). -/
def softwareTrapNumber (s : State) (rs1 : RegNum) (num : RegOrImm 8) : BitVec 8 :=
  let sum := readReg s rs1 + trapOperand s num
  if s.priv then sum.extractLsb' 0 8 else 0#1 ++ sum.extractLsb' 0 7

/-- Tcc (41_control_transfer.md R700). -/
def trapIcc (cond : BitVec 4) (rs1 : RegNum) (cc : IntCc) (num : RegOrImm 8) (s : State) : Outcome :=
  if iccTest cond (ccOf s cc) then tctCheck s (raise s (.trapInstruction (softwareTrapNumber s rs1 num)))
  else .next (advance s)

/-- DONE and RETRY: privileged, TL above 0, then the restore with the program counters `pcs` picks (41_control_transfer.md R720). -/
def trapReturn (s : State) (pcs : TrapFrame → Word64 × Word64) : Outcome :=
  requirePriv s <|
    if s.tl = 0 then raise s .illegalInstruction
    else
      tctCheck s
        (.next (setPcs (returnFromTrap s) (pcs (currentFrame s)).1 (pcs (currentFrame s)).2))

/-- A saved program counter with its two low zero bits. -/
def savedPc (x : BitVec 62) : Word64 := x ++ 0#2

/-! ### The instructions -/

/-- BA (41_control_transfer.md R602). -/
def execBa (a : Bool) (disp22 : BitVec 22) (s : State) : Outcome :=
  branchIcc 0b1000 a disp22 s

/-- BN (41_control_transfer.md R603). -/
def execBn (a : Bool) (disp22 : BitVec 22) (s : State) : Outcome :=
  branchIcc 0b0000 a disp22 s

/-- BNE (41_control_transfer.md R604). -/
def execBne (a : Bool) (disp22 : BitVec 22) (s : State) : Outcome :=
  branchIcc 0b1001 a disp22 s

/-- BE (41_control_transfer.md R605). -/
def execBe (a : Bool) (disp22 : BitVec 22) (s : State) : Outcome :=
  branchIcc 0b0001 a disp22 s

/-- BG (41_control_transfer.md R606). -/
def execBg (a : Bool) (disp22 : BitVec 22) (s : State) : Outcome :=
  branchIcc 0b1010 a disp22 s

/-- BLE (41_control_transfer.md R607). -/
def execBle (a : Bool) (disp22 : BitVec 22) (s : State) : Outcome :=
  branchIcc 0b0010 a disp22 s

/-- BGE (41_control_transfer.md R608). -/
def execBge (a : Bool) (disp22 : BitVec 22) (s : State) : Outcome :=
  branchIcc 0b1011 a disp22 s

/-- BL (41_control_transfer.md R609). -/
def execBl (a : Bool) (disp22 : BitVec 22) (s : State) : Outcome :=
  branchIcc 0b0011 a disp22 s

/-- BGU (41_control_transfer.md R610). -/
def execBgu (a : Bool) (disp22 : BitVec 22) (s : State) : Outcome :=
  branchIcc 0b1100 a disp22 s

/-- BLEU (41_control_transfer.md R611). -/
def execBleu (a : Bool) (disp22 : BitVec 22) (s : State) : Outcome :=
  branchIcc 0b0100 a disp22 s

/-- BCC (41_control_transfer.md R612). -/
def execBcc (a : Bool) (disp22 : BitVec 22) (s : State) : Outcome :=
  branchIcc 0b1101 a disp22 s

/-- BCS (41_control_transfer.md R613). -/
def execBcs (a : Bool) (disp22 : BitVec 22) (s : State) : Outcome :=
  branchIcc 0b0101 a disp22 s

/-- BPOS (41_control_transfer.md R614). -/
def execBpos (a : Bool) (disp22 : BitVec 22) (s : State) : Outcome :=
  branchIcc 0b1110 a disp22 s

/-- BNEG (41_control_transfer.md R615). -/
def execBneg (a : Bool) (disp22 : BitVec 22) (s : State) : Outcome :=
  branchIcc 0b0110 a disp22 s

/-- BVC (41_control_transfer.md R616). -/
def execBvc (a : Bool) (disp22 : BitVec 22) (s : State) : Outcome :=
  branchIcc 0b1111 a disp22 s

/-- BVS (41_control_transfer.md R617). -/
def execBvs (a : Bool) (disp22 : BitVec 22) (s : State) : Outcome :=
  branchIcc 0b0111 a disp22 s

/-- BPA (41_control_transfer.md R621). -/
def execBpa (a : Bool) (cc : IntCc) (_p : Bool) (disp19 : BitVec 19) (s : State) : Outcome :=
  branchPcc 0b1000 a cc disp19 s

/-- BPN (41_control_transfer.md R622). -/
def execBpn (a : Bool) (cc : IntCc) (_p : Bool) (disp19 : BitVec 19) (s : State) : Outcome :=
  branchPcc 0b0000 a cc disp19 s

/-- BPNE (41_control_transfer.md R623). -/
def execBpne (a : Bool) (cc : IntCc) (_p : Bool) (disp19 : BitVec 19) (s : State) : Outcome :=
  branchPcc 0b1001 a cc disp19 s

/-- BPE (41_control_transfer.md R624). -/
def execBpe (a : Bool) (cc : IntCc) (_p : Bool) (disp19 : BitVec 19) (s : State) : Outcome :=
  branchPcc 0b0001 a cc disp19 s

/-- BPG (41_control_transfer.md R625). -/
def execBpg (a : Bool) (cc : IntCc) (_p : Bool) (disp19 : BitVec 19) (s : State) : Outcome :=
  branchPcc 0b1010 a cc disp19 s

/-- BPLE (41_control_transfer.md R626). -/
def execBple (a : Bool) (cc : IntCc) (_p : Bool) (disp19 : BitVec 19) (s : State) : Outcome :=
  branchPcc 0b0010 a cc disp19 s

/-- BPGE (41_control_transfer.md R627). -/
def execBpge (a : Bool) (cc : IntCc) (_p : Bool) (disp19 : BitVec 19) (s : State) : Outcome :=
  branchPcc 0b1011 a cc disp19 s

/-- BPL (41_control_transfer.md R628). -/
def execBpl (a : Bool) (cc : IntCc) (_p : Bool) (disp19 : BitVec 19) (s : State) : Outcome :=
  branchPcc 0b0011 a cc disp19 s

/-- BPGU (41_control_transfer.md R629). -/
def execBpgu (a : Bool) (cc : IntCc) (_p : Bool) (disp19 : BitVec 19) (s : State) : Outcome :=
  branchPcc 0b1100 a cc disp19 s

/-- BPLEU (41_control_transfer.md R630). -/
def execBpleu (a : Bool) (cc : IntCc) (_p : Bool) (disp19 : BitVec 19) (s : State) : Outcome :=
  branchPcc 0b0100 a cc disp19 s

/-- BPCC (41_control_transfer.md R631). -/
def execBpcc (a : Bool) (cc : IntCc) (_p : Bool) (disp19 : BitVec 19) (s : State) : Outcome :=
  branchPcc 0b1101 a cc disp19 s

/-- BPCS (41_control_transfer.md R632). -/
def execBpcs (a : Bool) (cc : IntCc) (_p : Bool) (disp19 : BitVec 19) (s : State) : Outcome :=
  branchPcc 0b0101 a cc disp19 s

/-- BPPOS (41_control_transfer.md R633). -/
def execBppos (a : Bool) (cc : IntCc) (_p : Bool) (disp19 : BitVec 19) (s : State) : Outcome :=
  branchPcc 0b1110 a cc disp19 s

/-- BPNEG (41_control_transfer.md R634). -/
def execBpneg (a : Bool) (cc : IntCc) (_p : Bool) (disp19 : BitVec 19) (s : State) : Outcome :=
  branchPcc 0b0110 a cc disp19 s

/-- BPVC (41_control_transfer.md R635). -/
def execBpvc (a : Bool) (cc : IntCc) (_p : Bool) (disp19 : BitVec 19) (s : State) : Outcome :=
  branchPcc 0b1111 a cc disp19 s

/-- BPVS (41_control_transfer.md R636). -/
def execBpvs (a : Bool) (cc : IntCc) (_p : Bool) (disp19 : BitVec 19) (s : State) : Outcome :=
  branchPcc 0b0111 a cc disp19 s

/-- BRZ (41_control_transfer.md R641). -/
def execBrz (a : Bool) (d16 : BitVec 16) (_p : Bool) (rs1 : RegNum) (s : State) : Outcome :=
  branchReg 0b001 a d16 rs1 s

/-- BRLEZ (41_control_transfer.md R642). -/
def execBrlez (a : Bool) (d16 : BitVec 16) (_p : Bool) (rs1 : RegNum) (s : State) : Outcome :=
  branchReg 0b010 a d16 rs1 s

/-- BRLZ (41_control_transfer.md R643). -/
def execBrlz (a : Bool) (d16 : BitVec 16) (_p : Bool) (rs1 : RegNum) (s : State) : Outcome :=
  branchReg 0b011 a d16 rs1 s

/-- BRNZ (41_control_transfer.md R644). -/
def execBrnz (a : Bool) (d16 : BitVec 16) (_p : Bool) (rs1 : RegNum) (s : State) : Outcome :=
  branchReg 0b101 a d16 rs1 s

/-- BRGZ (41_control_transfer.md R645). -/
def execBrgz (a : Bool) (d16 : BitVec 16) (_p : Bool) (rs1 : RegNum) (s : State) : Outcome :=
  branchReg 0b110 a d16 rs1 s

/-- BRGEZ (41_control_transfer.md R646). -/
def execBrgez (a : Bool) (d16 : BitVec 16) (_p : Bool) (rs1 : RegNum) (s : State) : Outcome :=
  branchReg 0b111 a d16 rs1 s

/-- FBA (41_control_transfer.md R651). -/
def execFba (a : Bool) (disp22 : BitVec 22) (s : State) : Outcome :=
  branchFcc 0b1000 a disp22 s

/-- FBN (41_control_transfer.md R652). -/
def execFbn (a : Bool) (disp22 : BitVec 22) (s : State) : Outcome :=
  branchFcc 0b0000 a disp22 s

/-- FBU (41_control_transfer.md R653). -/
def execFbu (a : Bool) (disp22 : BitVec 22) (s : State) : Outcome :=
  branchFcc 0b0111 a disp22 s

/-- FBG (41_control_transfer.md R654). -/
def execFbg (a : Bool) (disp22 : BitVec 22) (s : State) : Outcome :=
  branchFcc 0b0110 a disp22 s

/-- FBUG (41_control_transfer.md R655). -/
def execFbug (a : Bool) (disp22 : BitVec 22) (s : State) : Outcome :=
  branchFcc 0b0101 a disp22 s

/-- FBL (41_control_transfer.md R656). -/
def execFbl (a : Bool) (disp22 : BitVec 22) (s : State) : Outcome :=
  branchFcc 0b0100 a disp22 s

/-- FBUL (41_control_transfer.md R657). -/
def execFbul (a : Bool) (disp22 : BitVec 22) (s : State) : Outcome :=
  branchFcc 0b0011 a disp22 s

/-- FBLG (41_control_transfer.md R658). -/
def execFblg (a : Bool) (disp22 : BitVec 22) (s : State) : Outcome :=
  branchFcc 0b0010 a disp22 s

/-- FBNE (41_control_transfer.md R659). -/
def execFbne (a : Bool) (disp22 : BitVec 22) (s : State) : Outcome :=
  branchFcc 0b0001 a disp22 s

/-- FBE (41_control_transfer.md R660). -/
def execFbe (a : Bool) (disp22 : BitVec 22) (s : State) : Outcome :=
  branchFcc 0b1001 a disp22 s

/-- FBUE (41_control_transfer.md R661). -/
def execFbue (a : Bool) (disp22 : BitVec 22) (s : State) : Outcome :=
  branchFcc 0b1010 a disp22 s

/-- FBGE (41_control_transfer.md R662). -/
def execFbge (a : Bool) (disp22 : BitVec 22) (s : State) : Outcome :=
  branchFcc 0b1011 a disp22 s

/-- FBUGE (41_control_transfer.md R663). -/
def execFbuge (a : Bool) (disp22 : BitVec 22) (s : State) : Outcome :=
  branchFcc 0b1100 a disp22 s

/-- FBLE (41_control_transfer.md R664). -/
def execFble (a : Bool) (disp22 : BitVec 22) (s : State) : Outcome :=
  branchFcc 0b1101 a disp22 s

/-- FBULE (41_control_transfer.md R665). -/
def execFbule (a : Bool) (disp22 : BitVec 22) (s : State) : Outcome :=
  branchFcc 0b1110 a disp22 s

/-- FBO (41_control_transfer.md R666). -/
def execFbo (a : Bool) (disp22 : BitVec 22) (s : State) : Outcome :=
  branchFcc 0b1111 a disp22 s

/-- FBPA (41_control_transfer.md R671). -/
def execFbpa (a : Bool) (fcc : FccNum) (_p : Bool) (disp19 : BitVec 19) (s : State) : Outcome :=
  branchPfcc 0b1000 a fcc disp19 s

/-- FBPN (41_control_transfer.md R672). -/
def execFbpn (a : Bool) (fcc : FccNum) (_p : Bool) (disp19 : BitVec 19) (s : State) : Outcome :=
  branchPfcc 0b0000 a fcc disp19 s

/-- FBPU (41_control_transfer.md R673). -/
def execFbpu (a : Bool) (fcc : FccNum) (_p : Bool) (disp19 : BitVec 19) (s : State) : Outcome :=
  branchPfcc 0b0111 a fcc disp19 s

/-- FBPG (41_control_transfer.md R674). -/
def execFbpg (a : Bool) (fcc : FccNum) (_p : Bool) (disp19 : BitVec 19) (s : State) : Outcome :=
  branchPfcc 0b0110 a fcc disp19 s

/-- FBPUG (41_control_transfer.md R675). -/
def execFbpug (a : Bool) (fcc : FccNum) (_p : Bool) (disp19 : BitVec 19) (s : State) : Outcome :=
  branchPfcc 0b0101 a fcc disp19 s

/-- FBPL (41_control_transfer.md R676). -/
def execFbpl (a : Bool) (fcc : FccNum) (_p : Bool) (disp19 : BitVec 19) (s : State) : Outcome :=
  branchPfcc 0b0100 a fcc disp19 s

/-- FBPUL (41_control_transfer.md R677). -/
def execFbpul (a : Bool) (fcc : FccNum) (_p : Bool) (disp19 : BitVec 19) (s : State) : Outcome :=
  branchPfcc 0b0011 a fcc disp19 s

/-- FBPLG (41_control_transfer.md R678). -/
def execFbplg (a : Bool) (fcc : FccNum) (_p : Bool) (disp19 : BitVec 19) (s : State) : Outcome :=
  branchPfcc 0b0010 a fcc disp19 s

/-- FBPNE (41_control_transfer.md R679). -/
def execFbpne (a : Bool) (fcc : FccNum) (_p : Bool) (disp19 : BitVec 19) (s : State) : Outcome :=
  branchPfcc 0b0001 a fcc disp19 s

/-- FBPE (41_control_transfer.md R680). -/
def execFbpe (a : Bool) (fcc : FccNum) (_p : Bool) (disp19 : BitVec 19) (s : State) : Outcome :=
  branchPfcc 0b1001 a fcc disp19 s

/-- FBPUE (41_control_transfer.md R681). -/
def execFbpue (a : Bool) (fcc : FccNum) (_p : Bool) (disp19 : BitVec 19) (s : State) : Outcome :=
  branchPfcc 0b1010 a fcc disp19 s

/-- FBPGE (41_control_transfer.md R682). -/
def execFbpge (a : Bool) (fcc : FccNum) (_p : Bool) (disp19 : BitVec 19) (s : State) : Outcome :=
  branchPfcc 0b1011 a fcc disp19 s

/-- FBPUGE (41_control_transfer.md R683). -/
def execFbpuge (a : Bool) (fcc : FccNum) (_p : Bool) (disp19 : BitVec 19) (s : State) : Outcome :=
  branchPfcc 0b1100 a fcc disp19 s

/-- FBPLE (41_control_transfer.md R684). -/
def execFbple (a : Bool) (fcc : FccNum) (_p : Bool) (disp19 : BitVec 19) (s : State) : Outcome :=
  branchPfcc 0b1101 a fcc disp19 s

/-- FBPULE (41_control_transfer.md R685). -/
def execFbpule (a : Bool) (fcc : FccNum) (_p : Bool) (disp19 : BitVec 19) (s : State) : Outcome :=
  branchPfcc 0b1110 a fcc disp19 s

/-- FBPO (41_control_transfer.md R686). -/
def execFbpo (a : Bool) (fcc : FccNum) (_p : Bool) (disp19 : BitVec 19) (s : State) : Outcome :=
  branchPfcc 0b1111 a fcc disp19 s

/-- CALL (41_control_transfer.md R690). -/
def execCall (disp30 : BitVec 30) (s : State) : Outcome :=
  tctCheck s (.next (setPcs (writeReg s 15 (amMask s s.pc)) s.npc (pcRelative s disp30)))

/-- JMPL (41_control_transfer.md R691). -/
def execJmpl (rd rs1 : RegNum) (op2 : RegOrImm 13) (s : State) : Outcome :=
  let target := effectiveAddress s rs1 op2
  if target.extractLsb' 0 2 != 0 then raise s .memAddressNotAligned
  else tctCheck s (.next (setPcs (writeReg s rd (amMask s s.pc)) s.npc target))

/-- RETURN (41_control_transfer.md R692). -/
def execReturn (rs1 : RegNum) (op2 : RegOrImm 13) (s : State) : Outcome :=
  let target := effectiveAddress s rs1 op2
  if s.canrestore = 0 then raise s (fillException s)
  else if target.extractLsb' 0 2 != 0 then raise s .memAddressNotAligned
  else tctCheck s (.next (setPcs (restoreWindow s) s.npc target))

/-- TA (41_control_transfer.md R701). -/
def execTa (rs1 : RegNum) (cc : IntCc) (num : RegOrImm 8) (s : State) : Outcome :=
  trapIcc 0b1000 rs1 cc num s

/-- TN (41_control_transfer.md R702). -/
def execTn (rs1 : RegNum) (cc : IntCc) (num : RegOrImm 8) (s : State) : Outcome :=
  trapIcc 0b0000 rs1 cc num s

/-- TNE (41_control_transfer.md R703). -/
def execTne (rs1 : RegNum) (cc : IntCc) (num : RegOrImm 8) (s : State) : Outcome :=
  trapIcc 0b1001 rs1 cc num s

/-- TE (41_control_transfer.md R704). -/
def execTe (rs1 : RegNum) (cc : IntCc) (num : RegOrImm 8) (s : State) : Outcome :=
  trapIcc 0b0001 rs1 cc num s

/-- TG (41_control_transfer.md R705). -/
def execTg (rs1 : RegNum) (cc : IntCc) (num : RegOrImm 8) (s : State) : Outcome :=
  trapIcc 0b1010 rs1 cc num s

/-- TLE (41_control_transfer.md R706). -/
def execTle (rs1 : RegNum) (cc : IntCc) (num : RegOrImm 8) (s : State) : Outcome :=
  trapIcc 0b0010 rs1 cc num s

/-- TGE (41_control_transfer.md R707). -/
def execTge (rs1 : RegNum) (cc : IntCc) (num : RegOrImm 8) (s : State) : Outcome :=
  trapIcc 0b1011 rs1 cc num s

/-- TL (41_control_transfer.md R708). -/
def execTl (rs1 : RegNum) (cc : IntCc) (num : RegOrImm 8) (s : State) : Outcome :=
  trapIcc 0b0011 rs1 cc num s

/-- TGU (41_control_transfer.md R709). -/
def execTgu (rs1 : RegNum) (cc : IntCc) (num : RegOrImm 8) (s : State) : Outcome :=
  trapIcc 0b1100 rs1 cc num s

/-- TLEU (41_control_transfer.md R710). -/
def execTleu (rs1 : RegNum) (cc : IntCc) (num : RegOrImm 8) (s : State) : Outcome :=
  trapIcc 0b0100 rs1 cc num s

/-- TCC (41_control_transfer.md R711). -/
def execTcc (rs1 : RegNum) (cc : IntCc) (num : RegOrImm 8) (s : State) : Outcome :=
  trapIcc 0b1101 rs1 cc num s

/-- TCS (41_control_transfer.md R712). -/
def execTcs (rs1 : RegNum) (cc : IntCc) (num : RegOrImm 8) (s : State) : Outcome :=
  trapIcc 0b0101 rs1 cc num s

/-- TPOS (41_control_transfer.md R713). -/
def execTpos (rs1 : RegNum) (cc : IntCc) (num : RegOrImm 8) (s : State) : Outcome :=
  trapIcc 0b1110 rs1 cc num s

/-- TNEG (41_control_transfer.md R714). -/
def execTneg (rs1 : RegNum) (cc : IntCc) (num : RegOrImm 8) (s : State) : Outcome :=
  trapIcc 0b0110 rs1 cc num s

/-- TVC (41_control_transfer.md R715). -/
def execTvc (rs1 : RegNum) (cc : IntCc) (num : RegOrImm 8) (s : State) : Outcome :=
  trapIcc 0b1111 rs1 cc num s

/-- TVS (41_control_transfer.md R716). -/
def execTvs (rs1 : RegNum) (cc : IntCc) (num : RegOrImm 8) (s : State) : Outcome :=
  trapIcc 0b0111 rs1 cc num s

/-- DONE (41_control_transfer.md R720). -/
def execDone (s : State) : Outcome :=
  trapReturn s (fun f => (savedPc f.tnpc, savedPc f.tnpc + 4))

/-- RETRY (41_control_transfer.md R721). -/
def execRetry (s : State) : Outcome :=
  trapReturn s (fun f => (savedPc f.tpc, savedPc f.tnpc))

/-- ILLTRAP (41_control_transfer.md R722). -/
def execIlltrap (_ignored : BitVec 5) (_const22 : BitVec 22) (s : State) : Outcome :=
  raise s .illegalInstruction

end Sys2Proof.Machine
end

