-- ==== Sys2Proof/Machine/FpArith.lean ====
section
/-! DEFINITION. Floating-point values, exact arithmetic on them, rounding, and what an FPop does to FSR (45_floating_point.md R1150 to R1159, R1179, R1199, R1212, R1219, R1260, R1270 to R1275). -/

namespace Sys2Proof.Machine

/-! ### Formats and values (45_floating_point.md R1151) -/

/-- The formats this hardware computes in. -/
inductive FpFormat where
  | single
  | double
  deriving DecidableEq, Repr

/-- How many fraction bits. -/
def FpFormat.fracBits : FpFormat → Nat
  | .single => 23
  | .double => 52

/-- How many exponent bits. -/
def FpFormat.expBits : FpFormat → Nat
  | .single => 8
  | .double => 11

/-- The exponent bias. -/
def FpFormat.bias (f : FpFormat) : Nat := 2 ^ (f.expBits - 1) - 1

/-- `emin = 1 - bias` (45_floating_point.md R1154). -/
def FpFormat.emin (f : FpFormat) : Int := 1 - (f.bias : Int)

/-- The exponent of the last bit of a subnormal number. -/
def FpFormat.quantum (f : FpFormat) : Int := f.emin - f.fracBits

/-- A floating-point datum, or an exact number on its way to one. -/
inductive FpVal where
  /-- A NaN: its sign, its quiet bit, and the fraction bits below the quiet bit. -/
  | nan (neg quiet : Bool) (payload : Nat)
  | inf (neg : Bool)
  | zero (neg : Bool)
  /-- The nonzero number `(-1)^neg * mant * 2^exp`. -/
  | finite (neg : Bool) (mant : Nat) (exp : Int)
  deriving DecidableEq, Repr

/-- The value of a bit pattern (45_floating_point.md R1151). -/
def unpack (f : FpFormat) (bits : Nat) : FpVal :=
  let frac := bits % 2 ^ f.fracBits
  let e := bits / 2 ^ f.fracBits % 2 ^ f.expBits
  let neg := bits / 2 ^ (f.fracBits + f.expBits) % 2 == 1
  if e = 2 ^ f.expBits - 1 then
    if frac = 0 then .inf neg
    else .nan neg (frac / 2 ^ (f.fracBits - 1) == 1) (frac % 2 ^ (f.fracBits - 1))
  else if e = 0 then (if frac = 0 then .zero neg else .finite neg frac f.quantum)
  else .finite neg (2 ^ f.fracBits + frac) (f.quantum + e - 1)

/-- The value of a single-precision register. -/
def unpackS (v : Word32) : FpVal := unpack .single v.toNat

/-- The value of a double-precision register. -/
def unpackD (v : Word64) : FpVal := unpack .double v.toNat

/-- Whether the value is a NaN. -/
def FpVal.isNan : FpVal → Bool
  | .nan _ _ _ => true
  | _ => false

/-- Whether the value is a signalling NaN. -/
def FpVal.isSNan : FpVal → Bool
  | .nan _ quiet _ => !quiet
  | _ => false

/-- `QS(x)` (45_floating_point.md R1156). -/
def FpVal.quieted : FpVal → FpVal
  | .nan neg _ payload => .nan neg true payload
  | v => v

/-- `dQNaN` (45_floating_point.md R1156). -/
def defaultNan (f : FpFormat) : FpVal := .nan false true (2 ^ (f.fracBits - 1) - 1)

/-- The value with its sign complemented; NaNs keep theirs (45_floating_point.md R1260). -/
def FpVal.negated : FpVal → FpVal
  | .nan neg quiet payload => .nan neg quiet payload
  | .inf neg => .inf !neg
  | .zero neg => .zero !neg
  | .finite neg mant exp => .finite (!neg) mant exp

/-! ### Rounding (45_floating_point.md R1153, R1154) -/

/-- The IEEE conditions an FPop detects (45_floating_point.md R1155). -/
structure FpFlags where
  nv : Bool
  ovf : Bool
  unf : Bool
  dz : Bool
  nx : Bool
  deriving DecidableEq, Repr

/-- Nothing detected. -/
def FpFlags.none : FpFlags := { nv := false, ovf := false, unf := false, dz := false, nx := false }

/-- Invalid. -/
def FpFlags.invalid : FpFlags := { FpFlags.none with nv := true }

/-- Division by zero. -/
def FpFlags.divByZero : FpFlags := { FpFlags.none with dz := true }

/-- Both sets. -/
def FpFlags.or (a b : FpFlags) : FpFlags :=
  { nv := a.nv || b.nv, ovf := a.ovf || b.ovf, unf := a.unf || b.unf, dz := a.dz || b.dz, nx := a.nx || b.nx }

/-- The set as the 5-bit fields hold it: nv, of, uf, dz, nx from the most significant bit (45_floating_point.md R1155). -/
def FpFlags.mask (e : FpFlags) : BitVec 5 := bit e.nv ++ bit e.ovf ++ bit e.unf ++ bit e.dz ++ bit e.nx

/-- `rmode()`: 0 nearest, 1 toward zero, 2 toward plus infinity, 3 toward minus infinity (45_floating_point.md R1153). -/
def roundingMode (s : State) : BitVec 2 :=
  if s.gsr.getLsbD 27 then s.gsr.extractLsb' 25 2 else s.fsr.extractLsb' 30 2

/-- `tem.ufm` (10_state.md R83). -/
def underflowMask (s : State) : Bool := s.fsr.getLsbD 25

/-- A magnitude `mant * 2^exp` rounded to a multiple of `2^q`, as that multiple, and whether it changed. -/
def roundMagnitude (mode : BitVec 2) (neg : Bool) (mant : Nat) (exp q : Int) : Nat × Bool :=
  if q ≤ exp then (mant * 2 ^ (exp - q).toNat, false)
  else
    let unit := 2 ^ (q - exp).toNat
    let hi := mant / unit
    let lo := mant % unit
    let up : Bool :=
      match mode.toNat with
      | 0 => unit < 2 * lo || (2 * lo == unit && hi % 2 == 1)
      | 1 => false
      | 2 => !neg && lo != 0
      | _ => neg && lo != 0
    (if up then hi + 1 else hi, lo != 0)

/-- The bit pattern of a sign and the exponent and fraction fields below it. -/
def signed (f : FpFormat) (neg : Bool) (magnitude : Nat) : Nat :=
  (if neg then 2 ^ (f.fracBits + f.expBits) else 0) + magnitude

/-- The exponent and fraction fields of an infinity. -/
def infinityBits (f : FpFormat) : Nat := (2 ^ f.expBits - 1) * 2 ^ f.fracBits

/-- What an overflow delivers: an infinity, or the largest finite number (45_floating_point.md R1154). -/
def overflowBits (f : FpFormat) (mode : BitVec 2) (neg : Bool) : Nat :=
  let toInfinity : Bool :=
    match mode.toNat with
    | 0 => true
    | 1 => false
    | 2 => !neg
    | _ => neg
  signed f neg (if toInfinity then infinityBits f else infinityBits f - 1)

/-- `round_to(fmt, x, m)` for `x = (-1)^neg * mant * 2^exp`, `mant` not 0 (45_floating_point.md R1154). -/
def roundTo (f : FpFormat) (mode : BitVec 2) (ufm neg : Bool) (mant : Nat) (exp : Int) : Nat × FpFlags :=
  let top : Int := exp + Nat.log2 mant
  if top < f.emin then
    let r := roundMagnitude mode neg mant exp f.quantum
    (signed f neg r.1, { FpFlags.none with unf := ufm || r.2, nx := r.2 })
  else
    let q := top - f.fracBits
    let r := roundMagnitude mode neg mant exp q
    if (f.bias : Int) < q + Nat.log2 r.1 then
      (overflowBits f mode neg, { FpFlags.none with ovf := true, nx := true })
    else (signed f neg ((top - f.emin).toNat * 2 ^ f.fracBits + r.1), { FpFlags.none with nx := r.2 })

/-- The bit pattern of a value the format can hold. -/
def pack (f : FpFormat) : FpVal → Nat
  | .nan neg quiet payload =>
    signed f neg (infinityBits f + (if quiet then 2 ^ (f.fracBits - 1) else 0) + payload)
  | .inf neg => signed f neg (infinityBits f)
  | .zero neg => signed f neg 0
  | .finite neg mant exp => (roundTo f 0 false neg mant exp).1

/-! ### Exact operations (45_floating_point.md R1179, R1270 to R1275) -/

/-- What an operation gives before it is put into the format. -/
inductive FpResult where
  /-- A cell of the operation's table: delivered as it is. -/
  | cell (v : FpVal)
  /-- An exact nonzero number, to be rounded. -/
  | exact (neg : Bool) (mant : Nat) (exp : Int)
  deriving DecidableEq, Repr

/-- The NaN rule for two operands, `a` in the rs1 position (45_floating_point.md R1156; 92_eei_decisions.md D26). -/
def chooseNan (a b : FpVal) : Option (FpVal × FpFlags) :=
  if b.isSNan then some (b.quieted, .invalid)
  else if a.isSNan then some (a.quieted, .invalid)
  else if b.isNan then some (b, .none)
  else if a.isNan then some (a, .none)
  else none

/-- The sign of an exact zero sum of opposite numbers: minus in rounding mode 3 (45_floating_point.md R1270). -/
def zeroSumNegative (mode : BitVec 2) : Bool := mode == 3

/-- The signed integer `v / 2^e` of a number, for `e` not above its exponent. -/
def FpVal.scaled (v : FpVal) (e : Int) : Int :=
  match v with
  | .finite neg mant exp =>
    let m : Int := ((mant * 2 ^ (exp - e).toNat : Nat) : Int)
    if neg then -m else m
  | _ => 0

/-- The exact sum of two nonzero numbers. -/
def sumFinite (mode : BitVec 2) (a b : FpVal) (ea eb : Int) : FpResult :=
  let e := if ea ≤ eb then ea else eb
  let t := a.scaled e + b.scaled e
  if t = 0 then .cell (.zero (zeroSumNegative mode)) else .exact (decide (t < 0)) t.natAbs e

/-- Add, of operands that are no NaN (45_floating_point.md R1270). A zero plus a nonzero number is the table's cell N, a subnormal one too: no underflow is detected, even where `tem.ufm` is 1 (DESIGN CHOICE, log 41). -/
def addExact (f : FpFormat) (mode : BitVec 2) (a b : FpVal) : FpResult × FpFlags :=
  match a, b with
  | .inf x, .inf y => if x = y then (.cell a, .none) else (.cell (defaultNan f), .invalid)
  | .inf _, _ => (.cell a, .none)
  | _, .inf _ => (.cell b, .none)
  | .zero x, .zero y => (.cell (.zero (if x = y then x else zeroSumNegative mode)), .none)
  | .zero _, _ => (.cell b, .none)
  | _, .zero _ => (.cell a, .none)
  | .finite _ _ ea, .finite _ _ eb => (sumFinite mode a b ea eb, .none)
  | _, _ => (.cell a, .none)

/-- Subtract is the sum with the sign of the second operand complemented (45_floating_point.md R1271). -/
def subExact (f : FpFormat) (mode : BitVec 2) (a b : FpVal) : FpResult × FpFlags :=
  addExact f mode a b.negated

/-- Multiply, of operands that are no NaN (45_floating_point.md R1272). -/
def mulExact (f : FpFormat) (a b : FpVal) : FpResult × FpFlags :=
  match a, b with
  | .inf x, .inf y => (.cell (.inf (x ^^ y)), .none)
  | .inf _, .zero _ => (.cell (defaultNan f), .invalid)
  | .zero _, .inf _ => (.cell (defaultNan f), .invalid)
  | .inf x, .finite y _ _ => (.cell (.inf (x ^^ y)), .none)
  | .finite x _ _, .inf y => (.cell (.inf (x ^^ y)), .none)
  | .zero x, .zero y => (.cell (.zero (x ^^ y)), .none)
  | .zero x, .finite y _ _ => (.cell (.zero (x ^^ y)), .none)
  | .finite x _ _, .zero y => (.cell (.zero (x ^^ y)), .none)
  | .finite x ma ea, .finite y mb eb => (.exact (x ^^ y) (ma * mb) (ea + eb), .none)
  | _, _ => (.cell a, .none)

/-- A quotient of 67 bits or more whose last bit says whether a remainder is left: it rounds as the exact quotient does. -/
def quotient (neg : Bool) (ma mb : Nat) (e : Int) : FpResult :=
  let n := ma * 2 ^ 120
  .exact neg (2 * (n / mb) + (if n % mb = 0 then 0 else 1)) (e - 121)

/-- Divide, of operands that are no NaN (45_floating_point.md R1273). -/
def divExact (f : FpFormat) (a b : FpVal) : FpResult × FpFlags :=
  match a, b with
  | .inf _, .inf _ => (.cell (defaultNan f), .invalid)
  | .inf x, .zero y => (.cell (.inf (x ^^ y)), .none)
  | .inf x, .finite y _ _ => (.cell (.inf (x ^^ y)), .none)
  | .zero x, .inf y => (.cell (.zero (x ^^ y)), .none)
  | .finite x _ _, .inf y => (.cell (.zero (x ^^ y)), .none)
  | .zero _, .zero _ => (.cell (defaultNan f), .invalid)
  | .finite x _ _, .zero y => (.cell (.inf (x ^^ y)), .divByZero)
  | .zero x, .finite y _ _ => (.cell (.zero (x ^^ y)), .none)
  | .finite x ma ea, .finite y mb eb => (quotient (x ^^ y) ma mb (ea - eb), .none)
  | _, _ => (.cell a, .none)

/-- The greatest number below `r + 2^k` whose square is at most `n`, by trying each bit in turn. -/
def isqrtFrom (n : Nat) : Nat → Nat → Nat
  | 0, r => r
  | k + 1, r => isqrtFrom n k (if (r + 2 ^ k) * (r + 2 ^ k) ≤ n then r + 2 ^ k else r)

/-- The integer square root of a number below `2^192`. -/
def isqrt (n : Nat) : Nat := isqrtFrom n 96 0

/-- A root of 57 bits or more whose last bit says whether the root is inexact: it rounds as the exact root does. -/
def rootFinite (mant : Nat) (exp : Int) : FpResult :=
  let odd := exp % 2
  let n := mant * 2 ^ (114 + odd.toNat)
  let r := isqrt n
  .exact false (2 * r + (if r * r = n then 0 else 1)) ((exp - 114 - odd) / 2 - 1)

/-- Square root, of an operand that is no NaN (45_floating_point.md R1274). -/
def sqrtExact (f : FpFormat) (b : FpVal) : FpResult × FpFlags :=
  match b with
  | .inf false => (.cell b, .none)
  | .zero _ => (.cell b, .none)
  | .finite false mant exp => (rootFinite mant exp, .none)
  | .inf true => (.cell (defaultNan f), .invalid)
  | .finite true _ _ => (.cell (defaultNan f), .invalid)
  | .nan _ _ _ => (.cell b, .none)

/-- Puts the result of an operation into the format: a cell as it is, nothing detected in doing so (log 41), an exact number rounded (45_floating_point.md R1179). -/
def deliver (f : FpFormat) (s : State) (r : FpResult × FpFlags) : Nat × FpFlags :=
  match r.1 with
  | .cell v => (pack f v, r.2)
  | .exact neg mant exp =>
    let q := roundTo f (roundingMode s) (underflowMask s) neg mant exp
    (q.1, r.2.or q.2)

/-- A two-operand operation: the NaN rule first, then the operation (45_floating_point.md R1179). -/
def withNans (a b : FpVal) (op : FpVal → FpVal → FpResult × FpFlags) : FpResult × FpFlags :=
  match chooseNan a b with
  | some (v, e) => (.cell v, e)
  | none => op a b

/-- A one-operand operation: the NaN rule first (45_floating_point.md R1156). -/
def withNan (b : FpVal) (op : FpVal → FpResult × FpFlags) : FpResult × FpFlags :=
  if b.isNan then (.cell b.quieted, if b.isSNan then .invalid else .none) else op b

/-- The operations with two operands of one format. -/
inductive FpOp where
  | add
  | sub
  | mul
  | div
  deriving DecidableEq, Repr

/-- The exact result of an operation (45_floating_point.md R1270 to R1273). -/
def FpOp.apply (o : FpOp) (f : FpFormat) (mode : BitVec 2) (a b : FpVal) : FpResult × FpFlags :=
  match o with
  | .add => addExact f mode a b
  | .sub => subExact f mode a b
  | .mul => mulExact f a b
  | .div => divExact f a b

/-- FADD, FSUB, FMUL and FDIV: the bit pattern and the conditions detected (45_floating_point.md R1179). -/
def arith (o : FpOp) (f : FpFormat) (s : State) (a b : FpVal) : Nat × FpFlags :=
  deliver f s (withNans a b (o.apply f (roundingMode s)))

/-- FSQRT (45_floating_point.md R1194). -/
def squareRoot (f : FpFormat) (s : State) (b : FpVal) : Nat × FpFlags :=
  deliver f s (withNan b (sqrtExact f))

/-- A NaN carried from single to double: zeros below (45_floating_point.md R1199). -/
def FpVal.widened : FpVal → FpVal
  | .nan neg quiet payload => .nan neg quiet (payload * 2 ^ 29)
  | v => v

/-- A NaN carried from double to single: the low bits are discarded (45_floating_point.md R1199). -/
def FpVal.narrowed : FpVal → FpVal
  | .nan neg quiet payload => .nan neg quiet (payload / 2 ^ 29)
  | v => v

/-- An exact result as a value, nothing rounded. -/
def FpResult.toVal : FpResult → FpVal
  | .cell v => v
  | .exact neg mant exp => .finite neg mant exp

/-- FsMULd: the exact product, which always fits a double (45_floating_point.md R1189). -/
def singleProduct (a b : FpVal) : Nat × FpFlags :=
  match chooseNan a b with
  | some (v, e) => (pack .double v.widened, e)
  | none =>
    let r := mulExact .double a b
    (pack .double r.1.toVal, r.2)

/-- FsTOd (45_floating_point.md R1199). -/
def singleToDouble (b : FpVal) : Nat × FpFlags :=
  (pack .double b.quieted.widened, if b.isSNan then .invalid else .none)

/-- FdTOs (45_floating_point.md R1199). -/
def doubleToSingle (s : State) (b : FpVal) : Nat × FpFlags :=
  match b with
  | .finite neg mant exp => deliver .single s (.exact neg mant exp, .none)
  | _ => (pack .single b.quieted.narrowed, if b.isSNan then .invalid else .none)

/-- FiTO and FxTO (45_floating_point.md R1200, R1275). -/
def intToFp (f : FpFormat) (s : State) (n : Int) : Nat × FpFlags :=
  if n = 0 then (pack f (.zero false), .none)
  else deliver f s (.exact (decide (n < 0)) n.natAbs 0, .none)

/-- `trunc` of a magnitude, and whether it changed. -/
def truncMagnitude (mant : Nat) (exp : Int) : Nat × Bool := roundMagnitude 1 false mant exp 0

/-- The result of a float-to-integer conversion that is invalid (45_floating_point.md R1212). -/
def invalidInt (w : Nat) (neg : Bool) : Int := if neg then -2 ^ (w - 1) else 2 ^ (w - 1) - 1

/-- Float to a `w`-bit integer: truncated, the rounding mode ignored (45_floating_point.md R1212). -/
def fpToInt (w : Nat) (b : FpVal) : Int × FpFlags :=
  match b with
  | .nan neg _ _ => (invalidInt w neg, .invalid)
  | .inf neg => (invalidInt w neg, .invalid)
  | .zero _ => (0, .none)
  | .finite neg mant exp =>
    let m := truncMagnitude mant exp
    let t : Int := if neg then -(m.1 : Int) else m.1
    if 2 ^ (w - 1) ≤ t ∨ t ≤ -(2 ^ (w - 1) + 1) then (invalidInt w neg, .invalid)
    else (t, { FpFlags.none with nx := m.2 })

/-- The exponent a number is held at; 0 for the others. -/
def FpVal.exponent : FpVal → Int
  | .finite _ _ e => e
  | _ => 0

/-- `rel` of FCMP: 0 equal, 1 less, 2 greater, 3 unordered (45_floating_point.md R1219). -/
def fpRelation (a b : FpVal) : BitVec 2 :=
  if a.isNan || b.isNan then 3
  else
    match a, b with
    | .inf x, .inf y => if x = y then 0 else if x then 1 else 2
    | .inf x, _ => if x then 1 else 2
    | _, .inf y => if y then 2 else 1
    | _, _ =>
      let e := if a.exponent ≤ b.exponent then a.exponent else b.exponent
      if a.scaled e = b.scaled e then 0 else if a.scaled e < b.scaled e then 1 else 2

/-- The conditions FCMP and FCMPE detect (45_floating_point.md R1219). -/
def compareFlags (signalling : Bool) (a b : FpVal) : FpFlags :=
  if a.isSNan || b.isSNan || (signalling && (a.isNan || b.isNan)) then .invalid else .none

/-- The product a fused multiply-add adds to: exact, in an unbounded range, or the NaN it gives (45_floating_point.md R1260). -/
def fusedProduct (f : FpFormat) (a b : FpVal) : FpVal × FpFlags :=
  let r := withNans a b (mulExact f)
  (r.1.toVal, r.2)

/-- A sum of a fused multiply-add, negated where `negate`; NaNs are not. A number of it is always rounded (45_floating_point.md R1260). -/
def fusedResult (negate : Bool) (r : FpResult) : FpResult :=
  match (if negate then r.toVal.negated else r.toVal) with
  | .finite neg mant exp => .exact neg mant exp
  | v => .cell v

/-- FMADD, FMSUB, FNMSUB, FNMADD: `(a * b) + c`, or `- c` where `minus`, negated where `negate`, rounded once (45_floating_point.md R1260). -/
def fusedMultiplyAdd (f : FpFormat) (s : State) (minus negate : Bool) (a b c : FpVal) : Nat × FpFlags :=
  let p := fusedProduct f a b
  let t := withNans p.1 c ((if minus then FpOp.sub else FpOp.add).apply f (roundingMode s))
  deliver f s (fusedResult negate t.1, p.2.or t.2)

/-! ### FSR (45_floating_point.md R1155; 10_state.md R80) -/

/-- `FSR.tem` (10_state.md R83). -/
def trapEnable (fsr : Word64) : BitVec 5 := fsr.extractLsb' 23 5

/-- What `cexc` becomes, and whether the FPop traps (45_floating_point.md R1155, Table 5-7). -/
def ieeeDecision (tem : BitVec 5) (e : FpFlags) : BitVec 5 × Bool :=
  let ofm := tem.getLsbD 3
  let ufm := tem.getLsbD 2
  let nxm := tem.getLsbD 0
  if e.ovf then
    if ofm then (0b01000, true) else if nxm then (0b00001, true) else (0b01001, false)
  else if e.unf then
    if ufm then (0b00100, true) else if nxm then (0b00001, true) else (0b00101, false)
  else (e.mask, (e.mask &&& tem) != 0)

/-- FSR with `ftt`, bits 16:14, and `cexc`, bits 4:0, replaced (10_state.md R80). -/
def withFttCexc (fsr : Word64) (ftt : BitVec 3) (cexc : BitVec 5) : Word64 :=
  (fsr &&& ~~~0x1C01F#64) ||| (ftt.setWidth 64 <<< 14) ||| cexc.setWidth 64

/-- FSR with conditions accumulated into `aexc`, bits 9:5 (10_state.md R87). -/
def accrue (fsr : Word64) (c : BitVec 5) : Word64 := fsr ||| (c.setWidth 64 <<< 5)

/-- Where `FSR.fcc<n>` stands (10_state.md R80). -/
def fccShift (n : FccNum) : Nat :=
  match n.toNat with
  | 0 => 10
  | 1 => 32
  | 2 => 34
  | _ => 36

/-- FSR with `fcc<n>` replaced. -/
def withFcc (fsr : Word64) (n : FccNum) (rel : BitVec 2) : Word64 :=
  (fsr &&& ~~~(3#64 <<< fccShift n)) ||| (rel.setWidth 64 <<< fccShift n)

/-- `fp_finish(E, write_result)` (45_floating_point.md R1155). -/
def fpFinish (s : State) (e : FpFlags) (write : State → State) : Outcome :=
  let d := ieeeDecision (trapEnable s.fsr) e
  if d.2 then raise { s with fsr := withFttCexc s.fsr 1 d.1 } .fpExceptionIeee754
  else .next (advance (write { s with fsr := accrue (withFttCexc s.fsr 0 d.1) d.1 }))

/-- Step 5 of 45_floating_point.md R1150, `unfinished` being what the parameter says of the FPop and its operands: `ftt` 2 and fp_exception_other, `cexc`, `aexc`, `fcc` and the F registers as they were (R1157). -/
def unlessUnfinished (unfinished : Bool) (s : State) (k : Outcome) : Outcome :=
  if unfinished then raise { s with fsr := withFttCexc s.fsr 2 (s.fsr.extractLsb' 0 5) } .fpExceptionOther else k

/-- The single-precision operands of an FPop, as `unfinished` takes them. -/
def singleOperands (s : State) (fs : List RegNum) : List Word64 := fs.map fun f => (readS s f).setWidth 64

/-- The double-precision operands of an FPop, as `unfinished` takes them. -/
def doubleOperands (s : State) (fs : List RegNum) : List Word64 := fs.map fun f => readD s f

/-- Checks 3 and 5 of 45_floating_point.md R1150, for an FPop that may be unfinished. -/
def requireFinished (s : State) (insn : Config.UnfinishedOp) (operands : List Word64) (k : Outcome) : Outcome :=
  requireFpu s (unlessUnfinished (Config.unfinished insn operands) s k)

/-- Completes an FPop with a single-precision result. -/
def finishS (s : State) (rd : RegNum) (r : Nat × FpFlags) : Outcome :=
  fpFinish s r.2 (fun t => writeS t rd (BitVec.ofNat 32 r.1))

/-- Completes an FPop with a double-precision result. -/
def finishD (s : State) (rd : RegNum) (r : Nat × FpFlags) : Outcome :=
  fpFinish s r.2 (fun t => writeD t rd (BitVec.ofNat 64 r.1))

end Sys2Proof.Machine
end

