-- ==== Sys2Proof/Machine/Fp.lean ====
section
/-! DEFINITION. The floating-point operate instructions (45_floating_point.md). -/

namespace Sys2Proof.Machine

/-! ### Shared forms -/

/-- A move of a single register: nothing is detected (45_floating_point.md R1155, R1170). -/
def moveS (s : State) (rd : RegNum) (v : Word32) : Outcome := fpFinish s .none (fun t => writeS t rd v)

/-- A move of a double register (45_floating_point.md R1155, R1171). -/
def moveD (s : State) (rd : RegNum) (v : Word64) : Outcome := fpFinish s .none (fun t => writeD t rd v)

/-- A conditional move of a single register: cexc and ftt are cleared whether or not it happens (45_floating_point.md R1230, R1240). -/
def condMoveS (s : State) (test : Bool) (rd rs2 : RegNum) : Outcome :=
  fpFinish s .none (fun t => if test then writeS t rd (readS s rs2) else t)

/-- A conditional move of a double register (45_floating_point.md R1230, R1240). -/
def condMoveD (s : State) (test : Bool) (rd rs2 : RegNum) : Outcome :=
  fpFinish s .none (fun t => if test then writeD t rd (readD s rs2) else t)

/-- A conversion to a 32-bit integer (45_floating_point.md R1212). -/
def finishInt32 (s : State) (rd : RegNum) (b : FpVal) : Outcome :=
  fpFinish s (fpToInt 32 b).2 (fun t => writeS t rd (BitVec.ofInt 32 (fpToInt 32 b).1))

/-- A conversion to a 64-bit integer (45_floating_point.md R1212). -/
def finishInt64 (s : State) (rd : RegNum) (b : FpVal) : Outcome :=
  fpFinish s (fpToInt 64 b).2 (fun t => writeD t rd (BitVec.ofInt 64 (fpToInt 64 b).1))

/-- FCMP and FCMPE (45_floating_point.md R1219). -/
def compare (s : State) (fcc : FccNum) (signalling : Bool) (a b : FpVal) : Outcome :=
  fpFinish s (compareFlags signalling a b) (fun t => { t with fsr := withFcc t.fsr fcc (fpRelation a b) })

/-- A fused multiply-add in single precision; illegal_instruction where there is none (45_floating_point.md R1260). -/
def fusedS (s : State) (insn : Config.UnfinishedOp) (rd rs1 rs2 rs3 : RegNum) (minus negate : Bool) : Outcome :=
  if Config.fmafImplemented then
    requireFinished s insn (singleOperands s [rs1, rs2, rs3]) <| finishS s rd <|
      fusedMultiplyAdd .single s minus negate (unpackS (readS s rs1)) (unpackS (readS s rs2)) (unpackS (readS s rs3))
  else raise s .illegalInstruction

/-- A fused multiply-add in double precision; illegal_instruction where there is none (45_floating_point.md R1260). -/
def fusedD (s : State) (insn : Config.UnfinishedOp) (rd rs1 rs2 rs3 : RegNum) (minus negate : Bool) : Outcome :=
  if Config.fmafImplemented then
    requireFinished s insn (doubleOperands s [rs1, rs2, rs3]) <| finishD s rd <|
      fusedMultiplyAdd .double s minus negate (unpackD (readD s rs1)) (unpackD (readD s rs2)) (unpackD (readD s rs3))
  else raise s .illegalInstruction

/-! ### The instructions -/

/-- FMOVs (45_floating_point.md R1170). Every bit pattern is copied alike, NaNs too. -/
def execFmovs (rd rs2 : RegNum) (s : State) : Outcome :=
  requireFpu s (moveS s rd (readS s rs2))

/-- FMOVd (45_floating_point.md R1171). Every bit pattern is copied alike, NaNs too. -/
def execFmovd (rd rs2 : RegNum) (s : State) : Outcome :=
  requireFpu s (moveD s rd (readD s rs2))

/-- FMOVq (45_floating_point.md R1172). Raises illegal_instruction on every operand: no quad-precision FPop is in hardware (R1159). -/
def execFmovq (_rd _rs2 : RegNum) (s : State) : Outcome :=
  raise s .illegalInstruction

/-- FNEGs (45_floating_point.md R1173). -/
def execFnegs (rd rs2 : RegNum) (s : State) : Outcome :=
  requireFpu s (moveS s rd (readS s rs2 ^^^ 0x80000000))

/-- FNEGd (45_floating_point.md R1174). -/
def execFnegd (rd rs2 : RegNum) (s : State) : Outcome :=
  requireFpu s (moveD s rd (readD s rs2 ^^^ 0x8000000000000000))

/-- FNEGq (45_floating_point.md R1175). Raises illegal_instruction on every operand: no quad-precision FPop is in hardware (R1159). -/
def execFnegq (_rd _rs2 : RegNum) (s : State) : Outcome :=
  raise s .illegalInstruction

/-- FABSs (45_floating_point.md R1176). -/
def execFabss (rd rs2 : RegNum) (s : State) : Outcome :=
  requireFpu s (moveS s rd (readS s rs2 &&& 0x7FFFFFFF))

/-- FABSd (45_floating_point.md R1177). -/
def execFabsd (rd rs2 : RegNum) (s : State) : Outcome :=
  requireFpu s (moveD s rd (readD s rs2 &&& 0x7FFFFFFFFFFFFFFF))

/-- FABSq (45_floating_point.md R1178). Raises illegal_instruction on every operand: no quad-precision FPop is in hardware (R1159). -/
def execFabsq (_rd _rs2 : RegNum) (s : State) : Outcome :=
  raise s .illegalInstruction

/-- FSQRTs (45_floating_point.md R1194). -/
def execFsqrts (rd rs2 : RegNum) (s : State) : Outcome :=
  requireFinished s .fsqrts (singleOperands s [rs2]) (finishS s rd (squareRoot .single s (unpackS (readS s rs2))))

/-- FSQRTd (45_floating_point.md R1195). -/
def execFsqrtd (rd rs2 : RegNum) (s : State) : Outcome :=
  requireFinished s .fsqrtd (doubleOperands s [rs2]) (finishD s rd (squareRoot .double s (unpackD (readD s rs2))))

/-- FSQRTq (45_floating_point.md R1196). Raises illegal_instruction on every operand: no quad-precision FPop is in hardware (R1159). -/
def execFsqrtq (_rd _rs2 : RegNum) (s : State) : Outcome :=
  raise s .illegalInstruction

/-- FsTOx (45_floating_point.md R1216). -/
def execFstox (rd rs2 : RegNum) (s : State) : Outcome :=
  requireFinished s .fstox (singleOperands s [rs2]) (finishInt64 s rd (unpackS (readS s rs2)))

/-- FdTOx (45_floating_point.md R1217). -/
def execFdtox (rd rs2 : RegNum) (s : State) : Outcome :=
  requireFinished s .fdtox (doubleOperands s [rs2]) (finishInt64 s rd (unpackD (readD s rs2)))

/-- FqTOx (45_floating_point.md R1218). Raises illegal_instruction on every operand: no quad-precision FPop is in hardware (R1159). -/
def execFqtox (_rd _rs2 : RegNum) (s : State) : Outcome :=
  raise s .illegalInstruction

/-- FxTOs (45_floating_point.md R1203). -/
def execFxtos (rd rs2 : RegNum) (s : State) : Outcome :=
  requireFpu s (finishS s rd (intToFp .single s (readD s rs2).toInt))

/-- FxTOd (45_floating_point.md R1204). -/
def execFxtod (rd rs2 : RegNum) (s : State) : Outcome :=
  requireFpu s (finishD s rd (intToFp .double s (readD s rs2).toInt))

/-- FxTOq (45_floating_point.md R1205). Raises illegal_instruction on every operand: no quad-precision FPop is in hardware (R1159). -/
def execFxtoq (_rd _rs2 : RegNum) (s : State) : Outcome :=
  raise s .illegalInstruction

/-- FiTOs (45_floating_point.md R1200). -/
def execFitos (rd rs2 : RegNum) (s : State) : Outcome :=
  requireFpu s (finishS s rd (intToFp .single s (readS s rs2).toInt))

/-- FdTOs (45_floating_point.md R1208). -/
def execFdtos (rd rs2 : RegNum) (s : State) : Outcome :=
  requireFinished s .fdtos (doubleOperands s [rs2]) (finishS s rd (doubleToSingle s (unpackD (readD s rs2))))

/-- FqTOs (45_floating_point.md R1210). Raises illegal_instruction on every operand: no quad-precision FPop is in hardware (R1159). -/
def execFqtos (_rd _rs2 : RegNum) (s : State) : Outcome :=
  raise s .illegalInstruction

/-- FiTOd (45_floating_point.md R1201). -/
def execFitod (rd rs2 : RegNum) (s : State) : Outcome :=
  requireFpu s (finishD s rd (intToFp .double s (readS s rs2).toInt))

/-- FsTOd (45_floating_point.md R1206). -/
def execFstod (rd rs2 : RegNum) (s : State) : Outcome :=
  requireFinished s .fstod (singleOperands s [rs2]) (finishD s rd (singleToDouble (unpackS (readS s rs2))))

/-- FqTOd (45_floating_point.md R1211). Raises illegal_instruction on every operand: no quad-precision FPop is in hardware (R1159). -/
def execFqtod (_rd _rs2 : RegNum) (s : State) : Outcome :=
  raise s .illegalInstruction

/-- FiTOq (45_floating_point.md R1202). Raises illegal_instruction on every operand: no quad-precision FPop is in hardware (R1159). -/
def execFitoq (_rd _rs2 : RegNum) (s : State) : Outcome :=
  raise s .illegalInstruction

/-- FsTOq (45_floating_point.md R1207). Raises illegal_instruction on every operand: no quad-precision FPop is in hardware (R1159). -/
def execFstoq (_rd _rs2 : RegNum) (s : State) : Outcome :=
  raise s .illegalInstruction

/-- FdTOq (45_floating_point.md R1209). Raises illegal_instruction on every operand: no quad-precision FPop is in hardware (R1159). -/
def execFdtoq (_rd _rs2 : RegNum) (s : State) : Outcome :=
  raise s .illegalInstruction

/-- FsTOi (45_floating_point.md R1213). -/
def execFstoi (rd rs2 : RegNum) (s : State) : Outcome :=
  requireFinished s .fstoi (singleOperands s [rs2]) (finishInt32 s rd (unpackS (readS s rs2)))

/-- FdTOi (45_floating_point.md R1214). -/
def execFdtoi (rd rs2 : RegNum) (s : State) : Outcome :=
  requireFinished s .fdtoi (doubleOperands s [rs2]) (finishInt32 s rd (unpackD (readD s rs2)))

/-- FqTOi (45_floating_point.md R1215). Raises illegal_instruction on every operand: no quad-precision FPop is in hardware (R1159). -/
def execFqtoi (_rd _rs2 : RegNum) (s : State) : Outcome :=
  raise s .illegalInstruction

/-- FADDs (45_floating_point.md R1180). -/
def execFadds (rd rs1 rs2 : RegNum) (s : State) : Outcome :=
  requireFinished s .fadds (singleOperands s [rs1, rs2]) <|
    finishS s rd (arith .add .single s (unpackS (readS s rs1)) (unpackS (readS s rs2)))

/-- FADDd (45_floating_point.md R1181). -/
def execFaddd (rd rs1 rs2 : RegNum) (s : State) : Outcome :=
  requireFinished s .faddd (doubleOperands s [rs1, rs2]) <|
    finishD s rd (arith .add .double s (unpackD (readD s rs1)) (unpackD (readD s rs2)))

/-- FADDq (45_floating_point.md R1182). Raises illegal_instruction on every operand: no quad-precision FPop is in hardware (R1159). -/
def execFaddq (_rd _rs1 _rs2 : RegNum) (s : State) : Outcome :=
  raise s .illegalInstruction

/-- FSUBs (45_floating_point.md R1183). -/
def execFsubs (rd rs1 rs2 : RegNum) (s : State) : Outcome :=
  requireFinished s .fsubs (singleOperands s [rs1, rs2]) <|
    finishS s rd (arith .sub .single s (unpackS (readS s rs1)) (unpackS (readS s rs2)))

/-- FSUBd (45_floating_point.md R1184). -/
def execFsubd (rd rs1 rs2 : RegNum) (s : State) : Outcome :=
  requireFinished s .fsubd (doubleOperands s [rs1, rs2]) <|
    finishD s rd (arith .sub .double s (unpackD (readD s rs1)) (unpackD (readD s rs2)))

/-- FSUBq (45_floating_point.md R1185). Raises illegal_instruction on every operand: no quad-precision FPop is in hardware (R1159). -/
def execFsubq (_rd _rs1 _rs2 : RegNum) (s : State) : Outcome :=
  raise s .illegalInstruction

/-- FMULs (45_floating_point.md R1186). -/
def execFmuls (rd rs1 rs2 : RegNum) (s : State) : Outcome :=
  requireFinished s .fmuls (singleOperands s [rs1, rs2]) <|
    finishS s rd (arith .mul .single s (unpackS (readS s rs1)) (unpackS (readS s rs2)))

/-- FMULd (45_floating_point.md R1187). -/
def execFmuld (rd rs1 rs2 : RegNum) (s : State) : Outcome :=
  requireFinished s .fmuld (doubleOperands s [rs1, rs2]) <|
    finishD s rd (arith .mul .double s (unpackD (readD s rs1)) (unpackD (readD s rs2)))

/-- FMULq (45_floating_point.md R1188). Raises illegal_instruction on every operand: no quad-precision FPop is in hardware (R1159). -/
def execFmulq (_rd _rs1 _rs2 : RegNum) (s : State) : Outcome :=
  raise s .illegalInstruction

/-- FDIVs (45_floating_point.md R1191). -/
def execFdivs (rd rs1 rs2 : RegNum) (s : State) : Outcome :=
  requireFinished s .fdivs (singleOperands s [rs1, rs2]) <|
    finishS s rd (arith .div .single s (unpackS (readS s rs1)) (unpackS (readS s rs2)))

/-- FDIVd (45_floating_point.md R1192). -/
def execFdivd (rd rs1 rs2 : RegNum) (s : State) : Outcome :=
  requireFinished s .fdivd (doubleOperands s [rs1, rs2]) <|
    finishD s rd (arith .div .double s (unpackD (readD s rs1)) (unpackD (readD s rs2)))

/-- FDIVq (45_floating_point.md R1193). Raises illegal_instruction on every operand: no quad-precision FPop is in hardware (R1159). -/
def execFdivq (_rd _rs1 _rs2 : RegNum) (s : State) : Outcome :=
  raise s .illegalInstruction

/-- FsMULd (45_floating_point.md R1189). -/
def execFsmuld (rd rs1 rs2 : RegNum) (s : State) : Outcome :=
  requireFinished s .fsmuld (singleOperands s [rs1, rs2]) <|
    finishD s rd (singleProduct (unpackS (readS s rs1)) (unpackS (readS s rs2)))

/-- FdMULq (45_floating_point.md R1190). Raises illegal_instruction on every operand: no quad-precision FPop is in hardware (R1159). -/
def execFdmulq (_rd _rs1 _rs2 : RegNum) (s : State) : Outcome :=
  raise s .illegalInstruction

/-- FCMPs (45_floating_point.md R1220). -/
def execFcmps (fcc : FccNum) (rs1 rs2 : RegNum) (s : State) : Outcome :=
  requireFpu s (compare s fcc false (unpackS (readS s rs1)) (unpackS (readS s rs2)))

/-- FCMPd (45_floating_point.md R1221). -/
def execFcmpd (fcc : FccNum) (rs1 rs2 : RegNum) (s : State) : Outcome :=
  requireFpu s (compare s fcc false (unpackD (readD s rs1)) (unpackD (readD s rs2)))

/-- FCMPq (45_floating_point.md R1222). Raises illegal_instruction on every operand: no quad-precision FPop is in hardware (R1159). -/
def execFcmpq (_fcc : FccNum) (_rs1 _rs2 : RegNum) (s : State) : Outcome :=
  raise s .illegalInstruction

/-- FCMPEs (45_floating_point.md R1223). -/
def execFcmpes (fcc : FccNum) (rs1 rs2 : RegNum) (s : State) : Outcome :=
  requireFpu s (compare s fcc true (unpackS (readS s rs1)) (unpackS (readS s rs2)))

/-- FCMPEd (45_floating_point.md R1224). -/
def execFcmped (fcc : FccNum) (rs1 rs2 : RegNum) (s : State) : Outcome :=
  requireFpu s (compare s fcc true (unpackD (readD s rs1)) (unpackD (readD s rs2)))

/-- FCMPEq (45_floating_point.md R1225). Raises illegal_instruction on every operand: no quad-precision FPop is in hardware (R1159). -/
def execFcmpeq (_fcc : FccNum) (_rs1 _rs2 : RegNum) (s : State) : Outcome :=
  raise s .illegalInstruction

/-- FMOVSicc (45_floating_point.md R1231). -/
def execFmovsicc (rd : RegNum) (cond : BitVec 4) (rs2 : RegNum) (s : State) : Outcome :=
  requireFpu s (condMoveS s (iccTest cond (iccOf s)) rd rs2)

/-- FMOVSxcc (45_floating_point.md R1234). -/
def execFmovsxcc (rd : RegNum) (cond : BitVec 4) (rs2 : RegNum) (s : State) : Outcome :=
  requireFpu s (condMoveS s (iccTest cond (xccOf s)) rd rs2)

/-- FMOVSfcc (45_floating_point.md R1237). -/
def execFmovsfcc (rd : RegNum) (fcc : FccNum) (cond : BitVec 4) (rs2 : RegNum) (s : State) : Outcome :=
  requireFpu s (condMoveS s (fccTest cond (fccOf s.fsr fcc)) rd rs2)

/-- FMOVDicc (45_floating_point.md R1232). -/
def execFmovdicc (rd : RegNum) (cond : BitVec 4) (rs2 : RegNum) (s : State) : Outcome :=
  requireFpu s (condMoveD s (iccTest cond (iccOf s)) rd rs2)

/-- FMOVDxcc (45_floating_point.md R1235). -/
def execFmovdxcc (rd : RegNum) (cond : BitVec 4) (rs2 : RegNum) (s : State) : Outcome :=
  requireFpu s (condMoveD s (iccTest cond (xccOf s)) rd rs2)

/-- FMOVDfcc (45_floating_point.md R1238). -/
def execFmovdfcc (rd : RegNum) (fcc : FccNum) (cond : BitVec 4) (rs2 : RegNum) (s : State) : Outcome :=
  requireFpu s (condMoveD s (fccTest cond (fccOf s.fsr fcc)) rd rs2)

/-- FMOVQicc (45_floating_point.md R1233). Raises illegal_instruction on every operand: no quad-precision FPop is in hardware (R1159). -/
def execFmovqicc (_rd : RegNum) (_cond : BitVec 4) (_rs2 : RegNum) (s : State) : Outcome :=
  raise s .illegalInstruction

/-- FMOVQxcc (45_floating_point.md R1236). Raises illegal_instruction on every operand: no quad-precision FPop is in hardware (R1159). -/
def execFmovqxcc (_rd : RegNum) (_cond : BitVec 4) (_rs2 : RegNum) (s : State) : Outcome :=
  raise s .illegalInstruction

/-- FMOVQfcc (45_floating_point.md R1239). Raises illegal_instruction on every operand: no quad-precision FPop is in hardware (R1159). -/
def execFmovqfcc (_rd : RegNum) (_fcc : FccNum) (_cond : BitVec 4) (_rs2 : RegNum) (s : State) : Outcome :=
  raise s .illegalInstruction

/-- FMOVRsZ (45_floating_point.md R1241). -/
def execFmovrsz (rd rs1 rs2 : RegNum) (s : State) : Outcome :=
  requireFpu s (condMoveS s (rcondTest 0b001 (readReg s rs1)) rd rs2)

/-- FMOVRsLEZ (45_floating_point.md R1242). -/
def execFmovrslez (rd rs1 rs2 : RegNum) (s : State) : Outcome :=
  requireFpu s (condMoveS s (rcondTest 0b010 (readReg s rs1)) rd rs2)

/-- FMOVRsLZ (45_floating_point.md R1243). -/
def execFmovrslz (rd rs1 rs2 : RegNum) (s : State) : Outcome :=
  requireFpu s (condMoveS s (rcondTest 0b011 (readReg s rs1)) rd rs2)

/-- FMOVRsNZ (45_floating_point.md R1244). -/
def execFmovrsnz (rd rs1 rs2 : RegNum) (s : State) : Outcome :=
  requireFpu s (condMoveS s (rcondTest 0b101 (readReg s rs1)) rd rs2)

/-- FMOVRsGZ (45_floating_point.md R1245). -/
def execFmovrsgz (rd rs1 rs2 : RegNum) (s : State) : Outcome :=
  requireFpu s (condMoveS s (rcondTest 0b110 (readReg s rs1)) rd rs2)

/-- FMOVRsGEZ (45_floating_point.md R1246). -/
def execFmovrsgez (rd rs1 rs2 : RegNum) (s : State) : Outcome :=
  requireFpu s (condMoveS s (rcondTest 0b111 (readReg s rs1)) rd rs2)

/-- FMOVRdZ (45_floating_point.md R1247). -/
def execFmovrdz (rd rs1 rs2 : RegNum) (s : State) : Outcome :=
  requireFpu s (condMoveD s (rcondTest 0b001 (readReg s rs1)) rd rs2)

/-- FMOVRdLEZ (45_floating_point.md R1248). -/
def execFmovrdlez (rd rs1 rs2 : RegNum) (s : State) : Outcome :=
  requireFpu s (condMoveD s (rcondTest 0b010 (readReg s rs1)) rd rs2)

/-- FMOVRdLZ (45_floating_point.md R1249). -/
def execFmovrdlz (rd rs1 rs2 : RegNum) (s : State) : Outcome :=
  requireFpu s (condMoveD s (rcondTest 0b011 (readReg s rs1)) rd rs2)

/-- FMOVRdNZ (45_floating_point.md R1250). -/
def execFmovrdnz (rd rs1 rs2 : RegNum) (s : State) : Outcome :=
  requireFpu s (condMoveD s (rcondTest 0b101 (readReg s rs1)) rd rs2)

/-- FMOVRdGZ (45_floating_point.md R1251). -/
def execFmovrdgz (rd rs1 rs2 : RegNum) (s : State) : Outcome :=
  requireFpu s (condMoveD s (rcondTest 0b110 (readReg s rs1)) rd rs2)

/-- FMOVRdGEZ (45_floating_point.md R1252). -/
def execFmovrdgez (rd rs1 rs2 : RegNum) (s : State) : Outcome :=
  requireFpu s (condMoveD s (rcondTest 0b111 (readReg s rs1)) rd rs2)

/-- FMOVRqZ (45_floating_point.md R1253). Raises illegal_instruction on every operand: no quad-precision FPop is in hardware (R1159). -/
def execFmovrqz (_rd _rs1 _rs2 : RegNum) (s : State) : Outcome :=
  raise s .illegalInstruction

/-- FMOVRqLEZ (45_floating_point.md R1254). Raises illegal_instruction on every operand: no quad-precision FPop is in hardware (R1159). -/
def execFmovrqlez (_rd _rs1 _rs2 : RegNum) (s : State) : Outcome :=
  raise s .illegalInstruction

/-- FMOVRqLZ (45_floating_point.md R1255). Raises illegal_instruction on every operand: no quad-precision FPop is in hardware (R1159). -/
def execFmovrqlz (_rd _rs1 _rs2 : RegNum) (s : State) : Outcome :=
  raise s .illegalInstruction

/-- FMOVRqNZ (45_floating_point.md R1256). Raises illegal_instruction on every operand: no quad-precision FPop is in hardware (R1159). -/
def execFmovrqnz (_rd _rs1 _rs2 : RegNum) (s : State) : Outcome :=
  raise s .illegalInstruction

/-- FMOVRqGZ (45_floating_point.md R1257). Raises illegal_instruction on every operand: no quad-precision FPop is in hardware (R1159). -/
def execFmovrqgz (_rd _rs1 _rs2 : RegNum) (s : State) : Outcome :=
  raise s .illegalInstruction

/-- FMOVRqGEZ (45_floating_point.md R1258). Raises illegal_instruction on every operand: no quad-precision FPop is in hardware (R1159). -/
def execFmovrqgez (_rd _rs1 _rs2 : RegNum) (s : State) : Outcome :=
  raise s .illegalInstruction

/-- FMADDs (45_floating_point.md R1261). -/
def execFmadds (rd rs1 rs3 rs2 : RegNum) (s : State) : Outcome :=
  fusedS s .fmadds rd rs1 rs2 rs3 false false

/-- FMADDd (45_floating_point.md R1262). -/
def execFmaddd (rd rs1 rs3 rs2 : RegNum) (s : State) : Outcome :=
  fusedD s .fmaddd rd rs1 rs2 rs3 false false

/-- FMSUBs (45_floating_point.md R1263). -/
def execFmsubs (rd rs1 rs3 rs2 : RegNum) (s : State) : Outcome :=
  fusedS s .fmsubs rd rs1 rs2 rs3 true false

/-- FMSUBd (45_floating_point.md R1264). -/
def execFmsubd (rd rs1 rs3 rs2 : RegNum) (s : State) : Outcome :=
  fusedD s .fmsubd rd rs1 rs2 rs3 true false

/-- FNMSUBs (45_floating_point.md R1265). -/
def execFnmsubs (rd rs1 rs3 rs2 : RegNum) (s : State) : Outcome :=
  fusedS s .fnmsubs rd rs1 rs2 rs3 true true

/-- FNMSUBd (45_floating_point.md R1266). -/
def execFnmsubd (rd rs1 rs3 rs2 : RegNum) (s : State) : Outcome :=
  fusedD s .fnmsubd rd rs1 rs2 rs3 true true

/-- FNMADDs (45_floating_point.md R1267). -/
def execFnmadds (rd rs1 rs3 rs2 : RegNum) (s : State) : Outcome :=
  fusedS s .fnmadds rd rs1 rs2 rs3 false true

/-- FNMADDd (45_floating_point.md R1268). -/
def execFnmaddd (rd rs1 rs3 rs2 : RegNum) (s : State) : Outcome :=
  fusedD s .fnmaddd rd rs1 rs2 rs3 false true

end Sys2Proof.Machine
end

