-- ==== Sys2Proof/Machine/Memory.lean ====
section
/-! DEFINITION. Real memory by bytes, the byte order of wider accesses, and the I/O locations beside it (20_memory.md R201, R202, R237). -/

namespace Sys2Proof.Machine

/-- The form every memory has: addresses strictly rising. An unlisted address reads as nothing, so no entry can equal it. -/
def Memory.wf : Memory → Bool
  | [] => true
  | [_] => true
  | (a, _) :: (b, y) :: rest => a < b && Memory.wf ((b, y) :: rest)

/-- The byte at an address; the address itself where nothing has written it (70_reset_and_hazards.md R1752; log 4). -/
def Memory.readByte (m : Memory) (a : Nat) : Except Nat Byte :=
  match m with
  | [] => .error a
  | (k, v) :: rest => if k = a then .ok v else Memory.readByte rest a

/-- Stores a byte. -/
def Memory.writeByte (m : Memory) (a : Nat) (b : Byte) : Memory :=
  match m with
  | [] => [(a, b)]
  | (k, v) :: rest =>
    if a < k then (a, b) :: (k, v) :: rest
    else if a = k then (a, b) :: rest
    else (k, v) :: Memory.writeByte rest a b

/-- Stores one byte after another. -/
def Memory.writeBytes (m : Memory) (cells : List Host.Cell) : Memory :=
  match cells with
  | [] => m
  | (a, b) :: rest => Memory.writeBytes (m.writeByte a b) rest

/-- Two adjacent values as one of twice the width, the one at the lower address more significant in big-endian order (20_memory.md R237). -/
def joinReads {w : Nat} (little : Bool) (lower upper : Except Nat (BitVec w)) : Except Nat (BitVec (w + w)) :=
  match lower, upper with
  | .ok x, .ok y => .ok (if little then y ++ x else x ++ y)
  | .error e, _ => .error e
  | .ok _, .error e => .error e

/-- The halfword at an address (20_memory.md R237). -/
def Memory.readHalf (m : Memory) (little : Bool) (a : Nat) : Except Nat Half :=
  joinReads little (m.readByte a) (m.readByte (a + 1))

/-- The word at an address (20_memory.md R237). -/
def Memory.readWord (m : Memory) (little : Bool) (a : Nat) : Except Nat Word32 :=
  joinReads little (m.readHalf little a) (m.readHalf little (a + 2))

/-- The extended word at an address (20_memory.md R237). -/
def Memory.readDouble (m : Memory) (little : Bool) (a : Nat) : Except Nat Word64 :=
  joinReads little (m.readWord little a) (m.readWord little (a + 4))

/-- The cells of the `n` bytes of `v` at an address, least significant first where `little` (20_memory.md R237). -/
def placed {w : Nat} (little : Bool) (n a : Nat) (v : BitVec w) : List Host.Cell :=
  (List.range n).map fun k => (a + k, v.extractLsb' (8 * (if little then k else n - 1 - k)) 8)

/-! ### Memory and I/O locations (20_memory.md R202) -/

/-- Whether the range holds an address. -/
def IoRange.has (r : IoRange) (a : Nat) : Bool := r.base ≤ a && a < r.base + r.size

/-- Whether a real address is in `IO_REGION`; outside it every location is real memory. -/
def isIo (s : State) (a : Nat) : Bool := s.ioRegion.any (·.has a)

/-- The I/O locations among the `n` bytes at an address. -/
def ioAddresses (s : State) (a n : Nat) : List Nat := ((List.range n).map (a + ·)).filter (isIo s)

/-- What a read of the `n` bytes at an address sees: the device's answer in `IO_REGION`, memory elsewhere (20_memory.md R302). -/
def readView (s : State) (a n : Nat) : Memory :=
  s.mem.writeBytes ((ioAddresses s a n).map fun c => (c, Config.ioRead (.read a n :: s.ioLog) c))

/-- The state a read of the `n` bytes at an address leaves: where one is an I/O location, its device has seen the read. -/
def afterRead (s : State) (a n : Nat) : State :=
  if (ioAddresses s a n).isEmpty then s else { s with ioLog := .read a n :: s.ioLog }

/-- What the devices see of a store: its I/O locations, where it has any. -/
def ioWrites (s : State) (cells : List Host.Cell) : List Config.IoEvent :=
  match cells.filter fun c => isIo s c.1 with
  | [] => []
  | c :: rest => [.write (c :: rest)]

/-- Stores bytes: each goes to memory, or to the device of its I/O location. -/
def storeBytes (s : State) (cells : List Host.Cell) : State :=
  { s with mem := s.mem.writeBytes (cells.filter fun c => !isIo s c.1), ioLog := ioWrites s cells ++ s.ioLog }

end Sys2Proof.Machine
end

