-- ==== Sys2Proof/Machine/Mmu.lean ====
section
/-! DEFINITION. Address translation and the checks on a translated access (20_memory.md R212, R280 to R287, R296). -/

namespace Sys2Proof.Machine

/-- Why an access is not made: an exception, or an event of the MMU that leaves to hyperprivileged mode. -/
inductive AccessStop where
  | exception (e : Exception)
  | mmu (event : MmuEvent)
  deriving DecidableEq, Repr

/-- The attribute bits of a TTE that this machine consults (20_memory.md R284). -/
structure PageAttr where
  nfo : Bool
  ie : Bool
  e : Bool
  cp : Bool
  p : Bool
  ep : Bool
  w : Bool
  deriving DecidableEq, Repr

/-- What a translation gives: the real address and the page's attributes (20_memory.md R285). -/
structure Translation where
  ra : Nat
  attr : PageAttr
  deriving DecidableEq, Repr

/-- The attributes of the identity map (20_memory.md R285; 92_eei_decisions.md D30). -/
def PageAttr.identity : PageAttr :=
  { nfo := false, ie := false, e := false, cp := true, p := false, ep := true, w := true }

/-- The attributes of a TTE data word (20_memory.md R284). -/
def TlbEntry.attr (t : TlbEntry) : PageAttr :=
  { nfo := t.data.getLsbD 62
    ie := t.data.getLsbD 12
    e := t.data.getLsbD 11
    cp := t.data.getLsbD 10
    p := t.data.getLsbD 8
    ep := t.data.getLsbD 7
    w := t.data.getLsbD 6 }

/-- The `sz` field of a TTE (20_memory.md R284). -/
def TlbEntry.sz (t : TlbEntry) : Nat := (t.data.extractLsb' 0 4).toNat

/-- `s = 13 + 3 * sz`: the page is `2^s` bytes (20_memory.md R280). -/
def TlbEntry.shift (t : TlbEntry) : Nat := 13 + 3 * t.sz

/-- Whether the entry translates `va` in one of the contexts `ids` (20_memory.md R285), whatever its page size. -/
def TlbEntry.hits (t : TlbEntry) (ids : List (BitVec 16)) (va : Word64) : Bool :=
  t.data.getLsbD 63 && ids.contains t.contextId && t.tagVa >>> t.shift == va >>> t.shift

/-- `taddr[55:s] :: va[s-1:0]` (20_memory.md R285). -/
def TlbEntry.realAddress (t : TlbEntry) (va : Word64) : Nat :=
  (t.data.extractLsb' 0 56).toNat / 2 ^ t.shift * 2 ^ t.shift + va.toNat % 2 ^ t.shift

/-- The context IDs a context selects; the Nucleus context ID is 0 (20_memory.md R281, R282). -/
def contextIds (s : State) (ctx : AsiContext) : List (BitVec 16) :=
  match ctx with
  | .primary => [s.primaryContext0, s.primaryContext1]
  | .secondary => [s.secondaryContext0, s.secondaryContext1]
  | .nucleus => [0]

/-- A real address within `RA_BITS` (20_memory.md R206; log 6). -/
def realAddressOk (ra : Nat) : Bool := ra < 2 ^ Config.raBits

/-- A virtual address of `VA_BITS` bits: the bits above are all as the most significant of them (20_memory.md R206; log 6). -/
def virtualAddressOk (va : Word64) : Bool :=
  let top := va.toInt / 2 ^ (Config.vaBits - 1)
  top == 0 || top == -1

/-- The translation, before the real address is held against `RA_BITS` (20_memory.md R285); the one entry that matches leaves to hyperprivileged mode where its page size is reserved (93_implementation_defined.md section 4; log 13). -/
def lookup (s : State) (ctx : AsiContext) (va : Word64) : Except MmuEvent Translation :=
  match s.tlb with
  | .identity => .ok { ra := va.toNat, attr := .identity }
  | .entries list =>
    match list.filter (·.hits (contextIds s ctx) va) with
    | [] => .error .translationMiss
    | [t] =>
      if Config.pageSizeSupported t.sz then .ok { ra := t.realAddress va, attr := t.attr }
      else .error .reservedPageSize
    | _ :: _ :: _ => .error .multipleHit

/-- `translate(ctx, va)` (20_memory.md R285, R206). -/
def translate (s : State) (ctx : AsiContext) (va : Word64) : Except MmuEvent Translation :=
  if !virtualAddressOk va then .error .virtualAddressRange
  else
    match lookup s ctx va with
    | .error ev => .error ev
    | .ok t => if realAddressOk t.ra then .ok t else .error .realAddressRange

/-- `asi_privilege_check(asi)` passes (20_memory.md R212). -/
def asiAllowed (s : State) (asi : Asi) : Bool :=
  if s.priv then !(0x30 ≤ asi.toNat && asi.toNat ≤ 0x7F) else 0x80 ≤ asi.toNat

/-- `check_data` (20_memory.md R286): what stops an access to a page, in priority order. `cacheableOnly` says the instruction is one of R252's. -/
def checkData (s : State) (attr : PageAttr) (asi : Asi) (writes cacheableOnly : Bool) : Option AccessStop :=
  if attr.p && (!s.priv || (asiInfo asi).asIfUser) then some (.exception .daePrivilegeViolation)
  else if !attr.cp && cacheableOnly then some (.exception .daeNcPage)
  else if attr.nfo && !isNoFault asi then some (.exception .daeNfoPage)
  else if attr.e && isNoFault asi then some (.exception .daeSideEffectPage)
  else if !attr.w && writes then some (.mmu .writeProtection)
  else none

/-- The checks on an instruction fetch after translation (20_memory.md R287). -/
def checkFetch (s : State) (attr : PageAttr) : Option Exception :=
  if attr.p && !s.priv then some .iaePrivilegeViolation
  else if !attr.ep then some .iaeUnauthAccess
  else if attr.nfo then some .iaeNfoPage
  else none

/-- `data_watchpoint(va, nbytes, is_store)` (20_memory.md R296): the watched address is one of the `nbytes` bytes from `va`, all 16 of LDTXA and all 64 of a block transfer among them (#413, #410, #411; DESIGN CHOICE, log 16). -/
def dataWatchHit (s : State) (va : Word64) (width : Nat) (writes : Bool) : Bool :=
  match s.dataWatch with
  | none => false
  | some w =>
    (if writes then w.onStore else w.onLoad)
      && va.toNat ≤ w.address.toNat && w.address.toNat < va.toNat + width

/-- `insn_watchpoint(va)` (20_memory.md R296). -/
def insnWatchHit (s : State) (va : Word64) : Bool := s.insnWatch == some va

end Sys2Proof.Machine
end

