-- ==== Sys2Proof/Machine/Access.lean ====
section
/-! DEFINITION. The data access procedure every load, store and atomic goes through (20_memory.md R211, R215, R225 to R227, R236, R245, R246, R300). -/

namespace Sys2Proof.Machine

/-! ### What an instruction asks for -/

/-- The alignment an access needs (20_memory.md R245, R246). -/
inductive Alignment where
  /-- A multiple of `n`, else mem_address_not_aligned. -/
  | natural (n : Nat)
  /-- LDDF: 4 required, 8 to complete. -/
  | loadDouble
  /-- STDF and STPARTIALF: 4 required, 8 to complete. -/
  | storeDouble
  deriving DecidableEq, Repr

/-- The exception of a misaligned address, if it is one (20_memory.md R245, R246). -/
def Alignment.check (a : Alignment) (ea : Word64) : Option Exception :=
  match a with
  | .natural n => if ea.toNat % n = 0 then none else some .memAddressNotAligned
  | .loadDouble =>
    if ea.toNat % 4 ≠ 0 then some .memAddressNotAligned
    else if ea.toNat % 8 ≠ 0 then some .lddfMemAddressNotAligned
    else none
  | .storeDouble =>
    if ea.toNat % 4 ≠ 0 then some .memAddressNotAligned
    else if ea.toNat % 8 ≠ 0 then some .stdfMemAddressNotAligned
    else none

/-- The instruction groups of 20_memory.md R215. -/
inductive AsiUse where
  /-- LDSBA to LDUWA, LDTWA, LDFA. -/
  | load
  /-- LDXA. -/
  | loadExtended
  /-- STBA to STWA, STTWA, STFA, STDFA. -/
  | store
  /-- STXA. -/
  | storeExtended
  /-- LDSTUBA, SWAPA, CASA, CASXA. -/
  | atomic
  /-- LDDFA. -/
  | loadDouble
  /-- LDTXA. -/
  | twin
  /-- LDBLOCKF. -/
  | blockLoad
  /-- STBLOCKF. -/
  | blockStore
  /-- LDSHORTF and STSHORTF. -/
  | short
  /-- STPARTIALF. -/
  | partialStore
  deriving DecidableEq, Repr

/-- Whether the instruction may use an ASI of the class (20_memory.md R215). -/
def AsiUse.valid (u : AsiUse) (c : AsiClass) : Bool :=
  match u, c with
  | .load, .normal | .load, .io | .load, .noFault => true
  | .loadExtended, .normal | .loadExtended, .io | .loadExtended, .noFault | .loadExtended, .reg => true
  | .store, .normal | .store, .io => true
  | .storeExtended, .normal | .storeExtended, .io | .storeExtended, .reg => true
  | .atomic, .normal => true
  | .loadDouble, .normal | .loadDouble, .io | .loadDouble, .noFault => true
  | .twin, .twinx => true
  | .blockLoad, .block => true
  | .blockStore, .block | .blockStore, .commit => true
  | .short, .short => true
  | .partialStore, .pst => true
  | _, _ => false

/-- A special ASI with an instruction it is not meant for: no alignment check (20_memory.md R300 step 3); LDDFA with a COMMIT or PST ASI keeps the alignment check (R220, R221; 92_eei_decisions.md D35). -/
def AsiUse.misuses (u : AsiUse) (c : AsiClass) : Bool :=
  c.isSpecial && !u.valid c && !(u == .loadDouble && (c == .commit || c == .pst))

/-- What an instruction asks of the access procedure (20_memory.md R300). -/
structure Access where
  /-- `nbytes`. -/
  width : Nat
  align : Alignment
  /-- The kind is store or atomic. -/
  writes : Bool
  /-- The instruction is one of R252's. -/
  cacheableOnly : Bool
  use : AsiUse
  deriving DecidableEq, Repr

/-- An effective address with the ASI that goes with it. -/
structure Target where
  ea : Word64
  asi : Asi
  /-- The instruction names its ASI (20_memory.md R210). -/
  explicit : Bool
  deriving DecidableEq, Repr

/-- The implicit data ASI (20_memory.md R211). -/
def implicitAsi (s : State) : Asi :=
  if s.tl = 0 then (if s.cle then 0x88 else 0x80) else (if s.cle then 0x0C else 0x04)

/-- The target of an access through the implicit ASI. -/
def implicitTarget (s : State) (rs1 : RegNum) (op2 : RegOrImm 13) : Target :=
  { ea := effectiveAddress s rs1 op2, asi := implicitAsi s, explicit := false }

/-- The target of an alternate-space access. -/
def alternateTarget (s : State) (rs1 : RegNum) (src : AsiOperand) : Target :=
  { ea := alternateAddress s rs1 src, asi := explicitAsi s src, explicit := true }

/-- The target of an access whose ASI is in the instruction and whose address is `R[rs1] + R[rs2]`. -/
def immediateTarget (s : State) (rs1 rs2 : RegNum) (asi : Asi) : Target :=
  { ea := readReg s rs1 + readReg s rs2, asi := asi, explicit := true }

/-- The target of CASA and CASXA: the address is `R[rs1]` alone (20_memory.md R204). -/
def casTarget (s : State) (rs1 : RegNum) (src : CasAsi) : Target :=
  { ea := readReg s rs1, asi := casAsi s src, explicit := true }

/-! ### The procedure -/

/-- Where an access goes. -/
inductive Place where
  /-- The real address, memory or I/O location, in a byte order. -/
  | memory (ra : Nat) (little : Bool)
  /-- The register an address of a non-translating ASI names. -/
  | register
  deriving DecidableEq, Repr

/-- `VA` of 20_memory.md R300 step 6, R205. -/
def accessVa (s : State) (t : Target) : Word64 := amMask s t.ea

/-- Step 8 for a translating ASI: translation, the page's checks, the byte order (20_memory.md R285, R286, R236). -/
def translatedPlace (s : State) (acc : Access) (t : Target) : Except AccessStop Place :=
  match translate s (asiInfo t.asi).ctx (accessVa s t) with
  | .error ev => .error (.mmu ev)
  | .ok tr =>
    match checkData s tr.attr t.asi acc.writes acc.cacheableOnly with
    | some stop => .error stop
    | none => .ok (.memory tr.ra ((asiInfo t.asi).little ^^ tr.attr.ie))

/-- Step 8 for a real ASI (20_memory.md R217, R218, R300). -/
def realPlace (acc : Access) (t : Target) : Except AccessStop Place :=
  let attr := Config.realAttr t.ea.toNat
  if !realAddressOk t.ea.toNat then .error (.mmu .realAddressRange)
  else if acc.cacheableOnly && (!attr.cp || asiClass t.asi == .io) then .error (.exception .daeNcPage)
  else .ok (.memory t.ea.toNat ((asiInfo t.asi).little ^^ attr.ie))

/-- Steps 3 to 8 of `data_access` (20_memory.md R300): where the access goes, or what stops it. -/
def dataAccess (s : State) (acc : Access) (t : Target) : Except AccessStop Place :=
  if t.explicit && acc.use.misuses (asiClass t.asi) then
    .error (.exception (if asiAllowed s t.asi then .daeInvalidAsi else .privilegedAction))
  else
    match acc.align.check t.ea with
    | some e => .error (.exception e)
    | none =>
      if t.explicit && !asiAllowed s t.asi then .error (.exception .privilegedAction)
      else if t.explicit && !acc.use.valid (asiClass t.asi) then .error (.exception .daeInvalidAsi)
      else
        match (asiInfo t.asi).kind with
        | .translating =>
          if dataWatchHit s (accessVa s t) acc.width acc.writes then .error (.exception .vaWatchpoint)
          else translatedPlace s acc t
        | .real => realPlace acc t
        | .nontranslating => .ok .register

/-- `info.va` of an access: the virtual address the processor sends out, so masked for a translating ASI (60_exceptions.md R1610; 20_memory.md R205). -/
def faultAddress (s : State) (t : Target) : Word64 :=
  match (asiInfo t.asi).kind with
  | .translating => accessVa s t
  | .real | .nontranslating => t.ea

/-- Raises what stopped an access, with its address and ASI (60_exceptions.md R1610). -/
def stopAccess (s : State) (t : Target) (stop : AccessStop) : Outcome :=
  match stop with
  | .exception e => raiseAt s e (some { va := faultAddress s t, asi := t.asi })
  | .mmu ev => leave s (.mmu ev) (some { va := faultAddress s t, asi := t.asi })

/-- Goes on with the real address and byte order of an access; a register ASI is not one (20_memory.md R215). -/
def withData (s : State) (acc : Access) (t : Target) (k : Nat → Bool → Outcome) : Outcome :=
  match dataAccess s acc t with
  | .error stop => stopAccess s t stop
  | .ok (.memory ra little) => k ra little
  | .ok .register => stopAccess s t (.exception .daeInvalidAsi)

/-- An access that reads: goes on with the state the devices leave, what the access sees, the real address and the byte order (20_memory.md R300 step 9, R302). -/
def withLoad (s : State) (acc : Access) (t : Target) (k : State → Memory → Nat → Bool → Outcome) : Outcome :=
  withData s acc t fun ra little => k (afterRead s ra acc.width) (readView s ra acc.width) ra little

/-- Goes on with what was read; a byte nothing has written stops the machine (log 4). -/
def withRead {α : Type} (r : Except Nat α) (k : α → Outcome) : Outcome :=
  match r with
  | .error a => .fault (.unwrittenMemory a)
  | .ok v => k v

/-! ### The registers in ASIs (20_memory.md R225 to R227) -/

/-- The scratchpad register at an address of ASI 0x20 (20_memory.md R225). -/
def scratchpadIndex (ea : Word64) : Option (Fin 8) :=
  if ea.toNat % 8 = 0 ∧ ea.toNat < 0x40 ∧ (Config.scratchpad4To7 ∨ ea.toNat < 0x20) then
    some (Fin.ofNat 8 (ea.toNat / 8))
  else none

/-- The low `CONTEXT_BITS` bits of a value (20_memory.md R226). -/
def contextBitsOf (v : Word64) : BitVec 16 := BitVec.ofNat 16 (v.toNat % 2 ^ Config.contextBits)

/-- A queue register value: bits 5:0 read as zero (60_exceptions.md R1660, R1662). -/
def queueAligned (v : Word64) : Word64 := v.extractLsb' 6 58 ++ 0#6

/-- What LDXA reads at an address of a register ASI (20_memory.md R225 to R227). -/
def readAsiRegister (s : State) (asi : Asi) (ea : Word64) : Option Word64 :=
  match asi.toNat with
  | 0x20 => (scratchpadIndex ea).map (fun i => s.scratchpad[i])
  | 0x21 =>
    match ea.toNat with
    | 0x008 => some (s.primaryContext0.setWidth 64)
    | 0x010 => some (s.secondaryContext0.setWidth 64)
    | 0x108 => some (s.primaryContext1.setWidth 64)
    | 0x110 => some (s.secondaryContext1.setWidth 64)
    | _ => none
  | 0x25 =>
    match ea.toNat with
    | 0x3C0 => some s.cpuMondo.head
    | 0x3C8 => some s.cpuMondo.tail
    | 0x3D0 => some s.devMondo.head
    | 0x3D8 => some s.devMondo.tail
    | 0x3E0 => some s.resError.head
    | 0x3E8 => some s.resError.tail
    | 0x3F0 => some s.nonresError.head
    | 0x3F8 => some s.nonresError.tail
    | _ => none
  | _ => none

/-- What STXA leaves at an address of a register ASI; the queue tails are read-only (20_memory.md R225 to R227; 92_eei_decisions.md D37). -/
def writeAsiRegister (s : State) (asi : Asi) (ea v : Word64) : Option State :=
  match asi.toNat with
  | 0x20 => (scratchpadIndex ea).map (fun i => { s with scratchpad := s.scratchpad.set i.val v i.isLt })
  | 0x21 =>
    match ea.toNat with
    | 0x008 => some { s with primaryContext0 := contextBitsOf v }
    | 0x010 => some { s with secondaryContext0 := contextBitsOf v }
    | 0x108 => some { s with primaryContext1 := contextBitsOf v }
    | 0x110 => some { s with secondaryContext1 := contextBitsOf v }
    | _ => none
  | 0x25 =>
    match ea.toNat with
    | 0x3C0 => some { s with cpuMondo := { s.cpuMondo with head := queueAligned v } }
    | 0x3D0 => some { s with devMondo := { s.devMondo with head := queueAligned v } }
    | 0x3E0 => some { s with resError := { s.resError with head := queueAligned v } }
    | 0x3F0 => some { s with nonresError := { s.nonresError with head := queueAligned v } }
    | _ => none
  | _ => none

/-! ### The accesses the instructions make -/

/-- A load of `n` bytes, aligned to their number. -/
def Access.load (n : Nat) : Access :=
  { width := n, align := .natural n, writes := false, cacheableOnly := false, use := .load }

/-- A store of `n` bytes, aligned to their number. -/
def Access.store (n : Nat) : Access :=
  { width := n, align := .natural n, writes := true, cacheableOnly := false, use := .store }

/-- An atomic load-store of `n` bytes (20_memory.md R252). -/
def Access.atomic (n : Nat) : Access :=
  { width := n, align := .natural n, writes := true, cacheableOnly := true, use := .atomic }

/-- LDXA. -/
def Access.loadExtended : Access := { Access.load 8 with use := .loadExtended }
/-- STXA. -/
def Access.storeExtended : Access := { Access.store 8 with use := .storeExtended }
/-- LDTXA. -/
def Access.twin : Access :=
  { width := 16, align := .natural 16, writes := false, cacheableOnly := true, use := .twin }
/-- LDDF and LDDFA. -/
def Access.loadDouble : Access := { Access.load 8 with align := .loadDouble, use := .loadDouble }
/-- STDF and STDFA. -/
def Access.storeDouble : Access := { Access.store 8 with align := .storeDouble }
/-- LDBLOCKF. -/
def Access.blockLoad : Access :=
  { width := 64, align := .natural 64, writes := false, cacheableOnly := true, use := .blockLoad }
/-- STBLOCKF. -/
def Access.blockStore : Access :=
  { width := 64, align := .natural 64, writes := true, cacheableOnly := false, use := .blockStore }
/-- LDSHORTF of `n` bytes. -/
def Access.shortLoad (n : Nat) : Access := { Access.load n with use := .short }
/-- STSHORTF of `n` bytes. -/
def Access.shortStore (n : Nat) : Access := { Access.store n with use := .short }
/-- STPARTIALF. Its width is all 8 bytes whatever the byte mask, so a watchpoint matches even where the mask is zero, as 43_fp_load_store.md R995 words it; #249 is a parameter of `data_watchpoint` (R296, I249; DESIGN CHOICE, log 16). -/
def Access.partialStore : Access :=
  { width := 8, align := .storeDouble, writes := true, cacheableOnly := true, use := .partialStore }

end Sys2Proof.Machine
end

