-- ==== Sys2Proof/Machine/Integer.lean ====
section
/-! DEFINITION. Integer arithmetic, logical, shift, multiply, divide and move instructions (40_integer.md). -/

namespace Sys2Proof.Machine

/-! ### Shared forms -/

/-- Writes `R[rd]` and goes on (40_integer.md R400). -/
def finishReg (s : State) (rd : RegNum) (v : Word64) : Outcome := .next (advance (writeReg s rd v))

/-- Writes `R[rd]` and CCR and goes on. -/
def finishCc (s : State) (rd : RegNum) (v : Word64) (ccr : BitVec 8) : Outcome :=
  .next (advance (writeReg { s with ccr := ccr } rd v))

/-- `icc.c` as a 64-bit addend. -/
def carryIn (s : State) : Word64 := BitVec.ofNat 64 (iccC s).toNat

/-- The 64-bit product of two 32-bit values, unsigned (40_integer.md R442). -/
def umulProduct (a b : Word64) : Word64 := (a.setWidth 32).setWidth 64 * (b.setWidth 32).setWidth 64

/-- The 64-bit product of two 32-bit values, signed (40_integer.md R444). -/
def smulProduct (a b : Word64) : Word64 := (a.setWidth 32).signExtend 64 * (b.setWidth 32).signExtend 64

/-- A 32-bit multiply: the product goes to `R[rd]`, its high word to Y; CCR where `setCc` (40_integer.md R442 to R445). -/
def multiply32 (s : State) (rd : RegNum) (prod : Word64) (setCc : Bool) : Outcome :=
  finishCc { s with y := prod.extractLsb' 32 32 } rd prod (if setCc then ccLogic prod else s.ccr)

/-- The dividend of a 64-bit by 32-bit divide: `Y :: R[rs1][31:0]` (40_integer.md R446). -/
def dividend (s : State) (a : Word64) : Word64 := s.y ++ a.setWidth 32

/-- UDIV's result and whether it overflowed (40_integer.md R446). -/
def udivResult (x : Word64) (divisor : Word32) : Word64 × Bool :=
  let q := x.toNat / divisor.toNat
  if 2 ^ 32 ≤ q then (0x00000000FFFFFFFF, true) else (BitVec.ofNat 64 q, false)

/-- SDIV's result and whether it overflowed; the quotient is truncated toward zero (40_integer.md R448). -/
def sdivResult (x : Word64) (divisor : Word32) : Word64 × Bool :=
  let q := x.toInt.tdiv divisor.toInt
  if 2 ^ 31 ≤ q then (0x000000007FFFFFFF, true)
  else if q ≤ -2 ^ 31 - 1 then (0xFFFFFFFF80000000, true)
  else (BitVec.ofInt 64 q, false)

/-- A 64-bit by 32-bit divide: the result goes to `R[rd]`, Y holds a free value afterwards (log 10), CCR where `setCc` (40_integer.md R446 to R449). -/
def divide32 (s : State) (rd : RegNum) (divisor : Word32) (result : Word64 × Bool) (setCc : Bool) : Outcome :=
  if divisor = 0 then raise s .divisionByZero
  else
    finishCc { drawFree s with y := Config.freeY s.freeCount } rd result.1
      (if setCc then withIccV (ccLogic result.1) result.2 else s.ccr)

/-- How many of bits `n - 1` to 0 are 1. -/
def onesBelow (v : Word64) : Nat → Nat
  | 0 => 0
  | n + 1 => onesBelow v n + (v.getLsbD n).toNat

/-- MOVcc on `icc` or `xcc` (40_integer.md R459). -/
def movIcc (cond : BitVec 4) (rd : RegNum) (cc : IntCc) (op2 : RegOrImm 11) (s : State) : Outcome :=
  if iccTest cond (ccOf s cc) then finishReg s rd (operand2 s op2) else .next (advance s)

/-- MOVcc on an `fcc`, which needs the FPU enabled (40_integer.md R459). -/
def movFcc (cond : BitVec 4) (rd : RegNum) (fcc : FccNum) (op2 : RegOrImm 11) (s : State) : Outcome :=
  requireFpu s <|
    if fccTest cond (fccOf s.fsr fcc) then finishReg s rd (operand2 s op2) else .next (advance s)

/-- MOVr (40_integer.md R492). -/
def movReg (rcond : BitVec 3) (rd rs1 : RegNum) (op2 : RegOrImm 10) (s : State) : Outcome :=
  if rcondTest rcond (readReg s rs1) then finishReg s rd (operand2 s op2) else .next (advance s)

/-! ### The instructions -/

/-- ADD (40_integer.md R404). -/
def execAdd (rd rs1 : RegNum) (op2 : RegOrImm 13) (s : State) : Outcome :=
  finishReg s rd (readReg s rs1 + operand2 s op2)

/-- AND (40_integer.md R408). -/
def execAnd (rd rs1 : RegNum) (op2 : RegOrImm 13) (s : State) : Outcome :=
  finishReg s rd (readReg s rs1 &&& operand2 s op2)

/-- OR (40_integer.md R412). -/
def execOr (rd rs1 : RegNum) (op2 : RegOrImm 13) (s : State) : Outcome :=
  finishReg s rd (readReg s rs1 ||| operand2 s op2)

/-- XOR (40_integer.md R416). -/
def execXor (rd rs1 : RegNum) (op2 : RegOrImm 13) (s : State) : Outcome :=
  finishReg s rd (readReg s rs1 ^^^ operand2 s op2)

/-- SUB (40_integer.md R420). -/
def execSub (rd rs1 : RegNum) (op2 : RegOrImm 13) (s : State) : Outcome :=
  finishReg s rd (readReg s rs1 - operand2 s op2)

/-- ANDN (40_integer.md R410). -/
def execAndn (rd rs1 : RegNum) (op2 : RegOrImm 13) (s : State) : Outcome :=
  finishReg s rd (readReg s rs1 &&& ~~~operand2 s op2)

/-- ORN (40_integer.md R414). -/
def execOrn (rd rs1 : RegNum) (op2 : RegOrImm 13) (s : State) : Outcome :=
  finishReg s rd (readReg s rs1 ||| ~~~operand2 s op2)

/-- XNOR (40_integer.md R418). -/
def execXnor (rd rs1 : RegNum) (op2 : RegOrImm 13) (s : State) : Outcome :=
  finishReg s rd (~~~(readReg s rs1 ^^^ operand2 s op2))

/-- ADDC (40_integer.md R406). -/
def execAddc (rd rs1 : RegNum) (op2 : RegOrImm 13) (s : State) : Outcome :=
  finishReg s rd (readReg s rs1 + operand2 s op2 + carryIn s)

/-- MULX (40_integer.md R439). -/
def execMulx (rd rs1 : RegNum) (op2 : RegOrImm 13) (s : State) : Outcome :=
  finishReg s rd (readReg s rs1 * operand2 s op2)

/-- UMUL (40_integer.md R442). -/
def execUmul (rd rs1 : RegNum) (op2 : RegOrImm 13) (s : State) : Outcome :=
  multiply32 s rd (umulProduct (readReg s rs1) (operand2 s op2)) false

/-- SMUL (40_integer.md R444). -/
def execSmul (rd rs1 : RegNum) (op2 : RegOrImm 13) (s : State) : Outcome :=
  multiply32 s rd (smulProduct (readReg s rs1) (operand2 s op2)) false

/-- SUBC (40_integer.md R430). -/
def execSubc (rd rs1 : RegNum) (op2 : RegOrImm 13) (s : State) : Outcome :=
  finishReg s rd (readReg s rs1 - operand2 s op2 - carryIn s)

/-- UDIVX (40_integer.md R441). -/
def execUdivx (rd rs1 : RegNum) (op2 : RegOrImm 13) (s : State) : Outcome :=
  if operand2 s op2 = 0 then raise s .divisionByZero
  else finishReg s rd (readReg s rs1 / operand2 s op2)

/-- UDIV (40_integer.md R446). -/
def execUdiv (rd rs1 : RegNum) (op2 : RegOrImm 13) (s : State) : Outcome :=
  let divisor := (operand2 s op2).setWidth 32
  divide32 s rd divisor (udivResult (dividend s (readReg s rs1)) divisor) false

/-- SDIV (40_integer.md R448). -/
def execSdiv (rd rs1 : RegNum) (op2 : RegOrImm 13) (s : State) : Outcome :=
  let divisor := (operand2 s op2).setWidth 32
  divide32 s rd divisor (sdivResult (dividend s (readReg s rs1)) divisor) false

/-- ADDcc (40_integer.md R405). -/
def execAddcc (rd rs1 : RegNum) (op2 : RegOrImm 13) (s : State) : Outcome :=
  finishCc s rd (readReg s rs1 + operand2 s op2) (ccAdd (readReg s rs1) (operand2 s op2) false)

/-- ANDcc (40_integer.md R409). -/
def execAndcc (rd rs1 : RegNum) (op2 : RegOrImm 13) (s : State) : Outcome :=
  finishCc s rd (readReg s rs1 &&& operand2 s op2) (ccLogic (readReg s rs1 &&& operand2 s op2))

/-- ORcc (40_integer.md R413). -/
def execOrcc (rd rs1 : RegNum) (op2 : RegOrImm 13) (s : State) : Outcome :=
  finishCc s rd (readReg s rs1 ||| operand2 s op2) (ccLogic (readReg s rs1 ||| operand2 s op2))

/-- XORcc (40_integer.md R417). -/
def execXorcc (rd rs1 : RegNum) (op2 : RegOrImm 13) (s : State) : Outcome :=
  finishCc s rd (readReg s rs1 ^^^ operand2 s op2) (ccLogic (readReg s rs1 ^^^ operand2 s op2))

/-- SUBcc (40_integer.md R421). -/
def execSubcc (rd rs1 : RegNum) (op2 : RegOrImm 13) (s : State) : Outcome :=
  finishCc s rd (readReg s rs1 - operand2 s op2) (ccSub (readReg s rs1) (operand2 s op2) false)

/-- ANDNcc (40_integer.md R411). -/
def execAndncc (rd rs1 : RegNum) (op2 : RegOrImm 13) (s : State) : Outcome :=
  finishCc s rd (readReg s rs1 &&& ~~~operand2 s op2) (ccLogic (readReg s rs1 &&& ~~~operand2 s op2))

/-- ORNcc (40_integer.md R415). -/
def execOrncc (rd rs1 : RegNum) (op2 : RegOrImm 13) (s : State) : Outcome :=
  finishCc s rd (readReg s rs1 ||| ~~~operand2 s op2) (ccLogic (readReg s rs1 ||| ~~~operand2 s op2))

/-- XNORcc (40_integer.md R419). -/
def execXnorcc (rd rs1 : RegNum) (op2 : RegOrImm 13) (s : State) : Outcome :=
  finishCc s rd (~~~(readReg s rs1 ^^^ operand2 s op2)) (ccLogic (~~~(readReg s rs1 ^^^ operand2 s op2)))

/-- ADDCcc (40_integer.md R407). -/
def execAddccc (rd rs1 : RegNum) (op2 : RegOrImm 13) (s : State) : Outcome :=
  finishCc s rd (readReg s rs1 + operand2 s op2 + carryIn s) (ccAdd (readReg s rs1) (operand2 s op2) (iccC s))

/-- UMULcc (40_integer.md R443). -/
def execUmulcc (rd rs1 : RegNum) (op2 : RegOrImm 13) (s : State) : Outcome :=
  multiply32 s rd (umulProduct (readReg s rs1) (operand2 s op2)) true

/-- SMULcc (40_integer.md R445). -/
def execSmulcc (rd rs1 : RegNum) (op2 : RegOrImm 13) (s : State) : Outcome :=
  multiply32 s rd (smulProduct (readReg s rs1) (operand2 s op2)) true

/-- SUBCcc (40_integer.md R431). -/
def execSubccc (rd rs1 : RegNum) (op2 : RegOrImm 13) (s : State) : Outcome :=
  finishCc s rd (readReg s rs1 - operand2 s op2 - carryIn s) (ccSub (readReg s rs1) (operand2 s op2) (iccC s))

/-- UDIVcc (40_integer.md R447). -/
def execUdivcc (rd rs1 : RegNum) (op2 : RegOrImm 13) (s : State) : Outcome :=
  let divisor := (operand2 s op2).setWidth 32
  divide32 s rd divisor (udivResult (dividend s (readReg s rs1)) divisor) true

/-- SDIVcc (40_integer.md R449). -/
def execSdivcc (rd rs1 : RegNum) (op2 : RegOrImm 13) (s : State) : Outcome :=
  let divisor := (operand2 s op2).setWidth 32
  divide32 s rd divisor (sdivResult (dividend s (readReg s rs1)) divisor) true

/-- TADDcc (40_integer.md R452). -/
def execTaddcc (rd rs1 : RegNum) (op2 : RegOrImm 13) (s : State) : Outcome :=
  finishCc s rd (readReg s rs1 + operand2 s op2)
    (withIccV (ccAdd (readReg s rs1) (operand2 s op2) false) (tagOverflowAdd (readReg s rs1) (operand2 s op2)))

/-- TSUBcc (40_integer.md R453). -/
def execTsubcc (rd rs1 : RegNum) (op2 : RegOrImm 13) (s : State) : Outcome :=
  finishCc s rd (readReg s rs1 - operand2 s op2)
    (withIccV (ccSub (readReg s rs1) (operand2 s op2) false) (tagOverflowSub (readReg s rs1) (operand2 s op2)))

/-- TADDccTV (40_integer.md R454). -/
def execTaddcctv (rd rs1 : RegNum) (op2 : RegOrImm 13) (s : State) : Outcome :=
  if tagOverflowAdd (readReg s rs1) (operand2 s op2) then raise s .tagOverflow
  else finishCc s rd (readReg s rs1 + operand2 s op2) (withIccV (ccAdd (readReg s rs1) (operand2 s op2) false) false)

/-- TSUBccTV (40_integer.md R455). -/
def execTsubcctv (rd rs1 : RegNum) (op2 : RegOrImm 13) (s : State) : Outcome :=
  if tagOverflowSub (readReg s rs1) (operand2 s op2) then raise s .tagOverflow
  else finishCc s rd (readReg s rs1 - operand2 s op2) (withIccV (ccSub (readReg s rs1) (operand2 s op2) false) false)

/-- MULScc (40_integer.md R450). -/
def execMulscc (rd rs1 : RegNum) (op2 : RegOrImm 13) (s : State) : Outcome :=
  let a := (readReg s rs1).setWidth 32
  let sh : Word32 := bit (s.ccr.getLsbD 3 ^^ s.ccr.getLsbD 1) ++ a.extractLsb' 1 31
  let addend : Word32 := if s.y.getLsbD 0 then (operand2 s op2).setWidth 32 else 0
  let icc := addCodes sh addend false
  let res : Word64 := 0#31 ++ icc.extractLsb' 0 1 ++ (sh + addend)
  finishCc { s with y := a.extractLsb' 0 1 ++ s.y.extractLsb' 1 31 } rd res
    (mkCcr (nzvc false (res == 0) false false) icc)

/-- SDIVX (40_integer.md R440). -/
def execSdivx (rd rs1 : RegNum) (op2 : RegOrImm 13) (s : State) : Outcome :=
  if operand2 s op2 = 0 then raise s .divisionByZero
  else finishReg s rd ((readReg s rs1).sdiv (operand2 s op2))

/-- SLL (40_integer.md R433). -/
def execSll (rd rs1 : RegNum) (count : RegOrImm 5) (s : State) : Outcome :=
  finishReg s rd (readReg s rs1 <<< (shiftCount32 s count).toNat)

/-- SRL (40_integer.md R434). -/
def execSrl (rd rs1 : RegNum) (count : RegOrImm 5) (s : State) : Outcome :=
  finishReg s rd (((readReg s rs1).setWidth 32 >>> (shiftCount32 s count).toNat).setWidth 64)

/-- SRA (40_integer.md R435). -/
def execSra (rd rs1 : RegNum) (count : RegOrImm 5) (s : State) : Outcome :=
  finishReg s rd ((((readReg s rs1).setWidth 32).sshiftRight (shiftCount32 s count).toNat).signExtend 64)

/-- SLLX (40_integer.md R436). -/
def execSllx (rd rs1 : RegNum) (count : RegOrImm 6) (s : State) : Outcome :=
  finishReg s rd (readReg s rs1 <<< (shiftCount64 s count).toNat)

/-- SRLX (40_integer.md R437). -/
def execSrlx (rd rs1 : RegNum) (count : RegOrImm 6) (s : State) : Outcome :=
  finishReg s rd (readReg s rs1 >>> (shiftCount64 s count).toNat)

/-- SRAX (40_integer.md R438). -/
def execSrax (rd rs1 : RegNum) (count : RegOrImm 6) (s : State) : Outcome :=
  finishReg s rd ((readReg s rs1).sshiftRight (shiftCount64 s count).toNat)

/-- SETHI (40_integer.md R456). -/
def execSethi (rd : RegNum) (imm22 : BitVec 22) (s : State) : Outcome :=
  finishReg s rd (0#32 ++ imm22 ++ 0#10)

/-- NOP (40_integer.md R457). -/
def execNop (s : State) : Outcome :=
  .next (advance s)

/-- POPC (40_integer.md R458). -/
def execPopc (rd : RegNum) (op2 : RegOrImm 13) (s : State) : Outcome :=
  finishReg s rd (BitVec.ofNat 64 (onesBelow (operand2 s op2) 64))

/-- MOVA (40_integer.md R460). -/
def execMova (rd : RegNum) (cc : IntCc) (op2 : RegOrImm 11) (s : State) : Outcome :=
  movIcc 0b1000 rd cc op2 s

/-- MOVN (40_integer.md R461). -/
def execMovn (rd : RegNum) (cc : IntCc) (op2 : RegOrImm 11) (s : State) : Outcome :=
  movIcc 0b0000 rd cc op2 s

/-- MOVNE (40_integer.md R462). -/
def execMovne (rd : RegNum) (cc : IntCc) (op2 : RegOrImm 11) (s : State) : Outcome :=
  movIcc 0b1001 rd cc op2 s

/-- MOVE (40_integer.md R463). -/
def execMove (rd : RegNum) (cc : IntCc) (op2 : RegOrImm 11) (s : State) : Outcome :=
  movIcc 0b0001 rd cc op2 s

/-- MOVG (40_integer.md R464). -/
def execMovg (rd : RegNum) (cc : IntCc) (op2 : RegOrImm 11) (s : State) : Outcome :=
  movIcc 0b1010 rd cc op2 s

/-- MOVLE (40_integer.md R465). -/
def execMovle (rd : RegNum) (cc : IntCc) (op2 : RegOrImm 11) (s : State) : Outcome :=
  movIcc 0b0010 rd cc op2 s

/-- MOVGE (40_integer.md R466). -/
def execMovge (rd : RegNum) (cc : IntCc) (op2 : RegOrImm 11) (s : State) : Outcome :=
  movIcc 0b1011 rd cc op2 s

/-- MOVL (40_integer.md R467). -/
def execMovl (rd : RegNum) (cc : IntCc) (op2 : RegOrImm 11) (s : State) : Outcome :=
  movIcc 0b0011 rd cc op2 s

/-- MOVGU (40_integer.md R468). -/
def execMovgu (rd : RegNum) (cc : IntCc) (op2 : RegOrImm 11) (s : State) : Outcome :=
  movIcc 0b1100 rd cc op2 s

/-- MOVLEU (40_integer.md R469). -/
def execMovleu (rd : RegNum) (cc : IntCc) (op2 : RegOrImm 11) (s : State) : Outcome :=
  movIcc 0b0100 rd cc op2 s

/-- MOVCC (40_integer.md R470). -/
def execMovcc (rd : RegNum) (cc : IntCc) (op2 : RegOrImm 11) (s : State) : Outcome :=
  movIcc 0b1101 rd cc op2 s

/-- MOVCS (40_integer.md R471). -/
def execMovcs (rd : RegNum) (cc : IntCc) (op2 : RegOrImm 11) (s : State) : Outcome :=
  movIcc 0b0101 rd cc op2 s

/-- MOVPOS (40_integer.md R472). -/
def execMovpos (rd : RegNum) (cc : IntCc) (op2 : RegOrImm 11) (s : State) : Outcome :=
  movIcc 0b1110 rd cc op2 s

/-- MOVNEG (40_integer.md R473). -/
def execMovneg (rd : RegNum) (cc : IntCc) (op2 : RegOrImm 11) (s : State) : Outcome :=
  movIcc 0b0110 rd cc op2 s

/-- MOVVC (40_integer.md R474). -/
def execMovvc (rd : RegNum) (cc : IntCc) (op2 : RegOrImm 11) (s : State) : Outcome :=
  movIcc 0b1111 rd cc op2 s

/-- MOVVS (40_integer.md R475). -/
def execMovvs (rd : RegNum) (cc : IntCc) (op2 : RegOrImm 11) (s : State) : Outcome :=
  movIcc 0b0111 rd cc op2 s

/-- MOVFA (40_integer.md R476). -/
def execMovfa (rd : RegNum) (fcc : FccNum) (op2 : RegOrImm 11) (s : State) : Outcome :=
  movFcc 0b1000 rd fcc op2 s

/-- MOVFN (40_integer.md R477). -/
def execMovfn (rd : RegNum) (fcc : FccNum) (op2 : RegOrImm 11) (s : State) : Outcome :=
  movFcc 0b0000 rd fcc op2 s

/-- MOVFU (40_integer.md R478). -/
def execMovfu (rd : RegNum) (fcc : FccNum) (op2 : RegOrImm 11) (s : State) : Outcome :=
  movFcc 0b0111 rd fcc op2 s

/-- MOVFG (40_integer.md R479). -/
def execMovfg (rd : RegNum) (fcc : FccNum) (op2 : RegOrImm 11) (s : State) : Outcome :=
  movFcc 0b0110 rd fcc op2 s

/-- MOVFUG (40_integer.md R480). -/
def execMovfug (rd : RegNum) (fcc : FccNum) (op2 : RegOrImm 11) (s : State) : Outcome :=
  movFcc 0b0101 rd fcc op2 s

/-- MOVFL (40_integer.md R481). -/
def execMovfl (rd : RegNum) (fcc : FccNum) (op2 : RegOrImm 11) (s : State) : Outcome :=
  movFcc 0b0100 rd fcc op2 s

/-- MOVFUL (40_integer.md R482). -/
def execMovful (rd : RegNum) (fcc : FccNum) (op2 : RegOrImm 11) (s : State) : Outcome :=
  movFcc 0b0011 rd fcc op2 s

/-- MOVFLG (40_integer.md R483). -/
def execMovflg (rd : RegNum) (fcc : FccNum) (op2 : RegOrImm 11) (s : State) : Outcome :=
  movFcc 0b0010 rd fcc op2 s

/-- MOVFNE (40_integer.md R484). -/
def execMovfne (rd : RegNum) (fcc : FccNum) (op2 : RegOrImm 11) (s : State) : Outcome :=
  movFcc 0b0001 rd fcc op2 s

/-- MOVFE (40_integer.md R485). -/
def execMovfe (rd : RegNum) (fcc : FccNum) (op2 : RegOrImm 11) (s : State) : Outcome :=
  movFcc 0b1001 rd fcc op2 s

/-- MOVFUE (40_integer.md R486). -/
def execMovfue (rd : RegNum) (fcc : FccNum) (op2 : RegOrImm 11) (s : State) : Outcome :=
  movFcc 0b1010 rd fcc op2 s

/-- MOVFGE (40_integer.md R487). -/
def execMovfge (rd : RegNum) (fcc : FccNum) (op2 : RegOrImm 11) (s : State) : Outcome :=
  movFcc 0b1011 rd fcc op2 s

/-- MOVFUGE (40_integer.md R488). -/
def execMovfuge (rd : RegNum) (fcc : FccNum) (op2 : RegOrImm 11) (s : State) : Outcome :=
  movFcc 0b1100 rd fcc op2 s

/-- MOVFLE (40_integer.md R489). -/
def execMovfle (rd : RegNum) (fcc : FccNum) (op2 : RegOrImm 11) (s : State) : Outcome :=
  movFcc 0b1101 rd fcc op2 s

/-- MOVFULE (40_integer.md R490). -/
def execMovfule (rd : RegNum) (fcc : FccNum) (op2 : RegOrImm 11) (s : State) : Outcome :=
  movFcc 0b1110 rd fcc op2 s

/-- MOVFO (40_integer.md R491). -/
def execMovfo (rd : RegNum) (fcc : FccNum) (op2 : RegOrImm 11) (s : State) : Outcome :=
  movFcc 0b1111 rd fcc op2 s

/-- MOVRZ (40_integer.md R493). -/
def execMovrz (rd rs1 : RegNum) (op2 : RegOrImm 10) (s : State) : Outcome :=
  movReg 0b001 rd rs1 op2 s

/-- MOVRLEZ (40_integer.md R494). -/
def execMovrlez (rd rs1 : RegNum) (op2 : RegOrImm 10) (s : State) : Outcome :=
  movReg 0b010 rd rs1 op2 s

/-- MOVRLZ (40_integer.md R495). -/
def execMovrlz (rd rs1 : RegNum) (op2 : RegOrImm 10) (s : State) : Outcome :=
  movReg 0b011 rd rs1 op2 s

/-- MOVRNZ (40_integer.md R496). -/
def execMovrnz (rd rs1 : RegNum) (op2 : RegOrImm 10) (s : State) : Outcome :=
  movReg 0b101 rd rs1 op2 s

/-- MOVRGZ (40_integer.md R497). -/
def execMovrgz (rd rs1 : RegNum) (op2 : RegOrImm 10) (s : State) : Outcome :=
  movReg 0b110 rd rs1 op2 s

/-- MOVRGEZ (40_integer.md R498). -/
def execMovrgez (rd rs1 : RegNum) (op2 : RegOrImm 10) (s : State) : Outcome :=
  movReg 0b111 rd rs1 op2 s

end Sys2Proof.Machine
end

