-- ==== Sys2Proof/Machine/LoadStore.lean ====
section
/-! DEFINITION. Integer loads, stores, atomic load-stores, PREFETCH, MEMBAR and FLUSH (42_load_store.md). -/

namespace Sys2Proof.Machine

/-! ### Shared forms -/

/-- A load of a byte (42_load_store.md R810, R813). -/
def loadByte (s : State) (rd : RegNum) (t : Target) (extend : Byte → Word64) : Outcome :=
  withLoad s (Access.load 1) t fun s m ra _ =>
    withRead (m.readByte ra) fun v => finishReg s rd (extend v)

/-- A load of a halfword (42_load_store.md R811, R814). -/
def loadHalf (s : State) (rd : RegNum) (t : Target) (extend : Half → Word64) : Outcome :=
  withLoad s (Access.load 2) t fun s m ra little =>
    withRead (m.readHalf little ra) fun v => finishReg s rd (extend v)

/-- A load of a word (42_load_store.md R812, R815). -/
def loadWord (s : State) (rd : RegNum) (t : Target) (extend : Word32 → Word64) : Outcome :=
  withLoad s (Access.load 4) t fun s m ra little =>
    withRead (m.readWord little ra) fun v => finishReg s rd (extend v)

/-- A load of an extended word (42_load_store.md R816). -/
def loadDoubleword (s : State) (rd : RegNum) (acc : Access) (t : Target) : Outcome :=
  withLoad s acc t fun s m ra little =>
    withRead (m.readDouble little ra) fun v => finishReg s rd v

/-- Writes a pair of registers, the even one first (42_load_store.md R830, R832). -/
def finishTwin (s : State) (rd : RegNum) (v0 v1 : Word64) : Outcome :=
  .next (advance (writeReg (writeReg s rd v0) (oddOf rd) v1))

/-- A load of a twin word: two words, each in the byte order of the access (42_load_store.md R830; 20_memory.md R238). -/
def loadTwinWord (s : State) (rd : RegNum) (t : Target) : Outcome :=
  withLoad s (Access.load 8) t fun s m ra little =>
    withRead (m.readWord little ra) fun w0 =>
      withRead (m.readWord little (ra + 4)) fun w1 =>
        finishTwin s rd (w0.setWidth 64) (w1.setWidth 64)

/-- The end of a store: its bytes, in memory or to the device of an I/O location. -/
def finishStore (s : State) (cells : List Host.Cell) : Outcome := .next (advance (storeBytes s cells))

/-- A store of the low bytes of `v`, as many as the access is wide (42_load_store.md R840 to R843; 20_memory.md R237). -/
def storeValue {w : Nat} (s : State) (acc : Access) (t : Target) (v : BitVec w) : Outcome :=
  withData s acc t fun ra little => finishStore s (placed little acc.width ra v)

/-- A store of a twin word (42_load_store.md R856; 20_memory.md R238). -/
def storeTwinWord (s : State) (rd : RegNum) (t : Target) : Outcome :=
  withData s (Access.store 8) t fun ra little =>
    finishStore s (placed little 4 ra (readReg s rd) ++ placed little 4 (ra + 4) (readReg s (oddOf rd)))

/-- The end of an atomic load-store: its bytes, then the destination register (42_load_store.md R859). -/
def finishAtomic (s : State) (cells : List Host.Cell) (rd : RegNum) (old : Word64) : Outcome :=
  .next (advance (writeReg (storeBytes s cells) rd old))

/-- LDSTUB and LDSTUBA: the byte becomes all ones (42_load_store.md R860). -/
def loadStoreByte (s : State) (rd : RegNum) (t : Target) : Outcome :=
  withLoad s (Access.atomic 1) t fun s m ra _ =>
    withRead (m.readByte ra) fun old => finishAtomic s [(ra, 0xFF)] rd (old.setWidth 64)

/-- SWAP and SWAPA (42_load_store.md R862). -/
def swapWord (s : State) (rd : RegNum) (t : Target) : Outcome :=
  withLoad s (Access.atomic 4) t fun s m ra little =>
    withRead (m.readWord little ra) fun old =>
      finishAtomic s (placed little 4 ra (readReg s rd)) rd (old.setWidth 64)

/-! ### The instructions -/

/-- LDUW (42_load_store.md R815). -/
def execLduw (rd rs1 : RegNum) (op2 : RegOrImm 13) (s : State) : Outcome :=
  loadWord s rd (implicitTarget s rs1 op2) (·.setWidth 64)

/-- LDUB (42_load_store.md R813). -/
def execLdub (rd rs1 : RegNum) (op2 : RegOrImm 13) (s : State) : Outcome :=
  loadByte s rd (implicitTarget s rs1 op2) (·.setWidth 64)

/-- LDUH (42_load_store.md R814). -/
def execLduh (rd rs1 : RegNum) (op2 : RegOrImm 13) (s : State) : Outcome :=
  loadHalf s rd (implicitTarget s rs1 op2) (·.setWidth 64)

/-- LDTW (42_load_store.md R830). The decoder gives no odd `rd`. -/
def execLdtw (rd rs1 : RegNum) (op2 : RegOrImm 13) (s : State) : Outcome :=
  if rd.getLsbD 0 then raise s .illegalInstruction else loadTwinWord s rd (implicitTarget s rs1 op2)

/-- STW (42_load_store.md R842). -/
def execStw (rd rs1 : RegNum) (op2 : RegOrImm 13) (s : State) : Outcome :=
  storeValue s (Access.store 4) (implicitTarget s rs1 op2) (readReg s rd)

/-- STB (42_load_store.md R840). -/
def execStb (rd rs1 : RegNum) (op2 : RegOrImm 13) (s : State) : Outcome :=
  storeValue s (Access.store 1) (implicitTarget s rs1 op2) (readReg s rd)

/-- STH (42_load_store.md R841). -/
def execSth (rd rs1 : RegNum) (op2 : RegOrImm 13) (s : State) : Outcome :=
  storeValue s (Access.store 2) (implicitTarget s rs1 op2) (readReg s rd)

/-- STTW (42_load_store.md R856). -/
def execSttw (rd rs1 : RegNum) (op2 : RegOrImm 13) (s : State) : Outcome :=
  if rd.getLsbD 0 then raise s .illegalInstruction else storeTwinWord s rd (implicitTarget s rs1 op2)

/-- LDSW (42_load_store.md R812). -/
def execLdsw (rd rs1 : RegNum) (op2 : RegOrImm 13) (s : State) : Outcome :=
  loadWord s rd (implicitTarget s rs1 op2) (·.signExtend 64)

/-- LDSB (42_load_store.md R810). -/
def execLdsb (rd rs1 : RegNum) (op2 : RegOrImm 13) (s : State) : Outcome :=
  loadByte s rd (implicitTarget s rs1 op2) (·.signExtend 64)

/-- LDSH (42_load_store.md R811). -/
def execLdsh (rd rs1 : RegNum) (op2 : RegOrImm 13) (s : State) : Outcome :=
  loadHalf s rd (implicitTarget s rs1 op2) (·.signExtend 64)

/-- LDX (42_load_store.md R816). -/
def execLdx (rd rs1 : RegNum) (op2 : RegOrImm 13) (s : State) : Outcome :=
  loadDoubleword s rd (Access.load 8) (implicitTarget s rs1 op2)

/-- LDSTUB (42_load_store.md R860). -/
def execLdstub (rd rs1 : RegNum) (op2 : RegOrImm 13) (s : State) : Outcome :=
  loadStoreByte s rd (implicitTarget s rs1 op2)

/-- STX (42_load_store.md R843). -/
def execStx (rd rs1 : RegNum) (op2 : RegOrImm 13) (s : State) : Outcome :=
  storeValue s (Access.store 8) (implicitTarget s rs1 op2) (readReg s rd)

/-- SWAP (42_load_store.md R862). -/
def execSwap (rd rs1 : RegNum) (op2 : RegOrImm 13) (s : State) : Outcome :=
  swapWord s rd (implicitTarget s rs1 op2)

/-- LDUWA (42_load_store.md R825). -/
def execLduwa (rd rs1 : RegNum) (src : AsiOperand) (s : State) : Outcome :=
  loadWord s rd (alternateTarget s rs1 src) (·.setWidth 64)

/-- LDUBA (42_load_store.md R823). -/
def execLduba (rd rs1 : RegNum) (src : AsiOperand) (s : State) : Outcome :=
  loadByte s rd (alternateTarget s rs1 src) (·.setWidth 64)

/-- LDUHA (42_load_store.md R824). -/
def execLduha (rd rs1 : RegNum) (src : AsiOperand) (s : State) : Outcome :=
  loadHalf s rd (alternateTarget s rs1 src) (·.setWidth 64)

/-- LDTWA (42_load_store.md R831). A TWINX ASI with `i = 1` raises DAE_invalid_asi (20_memory.md R215). -/
def execLdtwa (rd rs1 : RegNum) (src : AsiOperand) (s : State) : Outcome :=
  if rd.getLsbD 0 then raise s .illegalInstruction else loadTwinWord s rd (alternateTarget s rs1 src)

/-- STWA (42_load_store.md R852). -/
def execStwa (rd rs1 : RegNum) (src : AsiOperand) (s : State) : Outcome :=
  storeValue s (Access.store 4) (alternateTarget s rs1 src) (readReg s rd)

/-- STBA (42_load_store.md R850). -/
def execStba (rd rs1 : RegNum) (src : AsiOperand) (s : State) : Outcome :=
  storeValue s (Access.store 1) (alternateTarget s rs1 src) (readReg s rd)

/-- STHA (42_load_store.md R851). -/
def execStha (rd rs1 : RegNum) (src : AsiOperand) (s : State) : Outcome :=
  storeValue s (Access.store 2) (alternateTarget s rs1 src) (readReg s rd)

/-- STTWA (42_load_store.md R857). -/
def execSttwa (rd rs1 : RegNum) (src : AsiOperand) (s : State) : Outcome :=
  if rd.getLsbD 0 then raise s .illegalInstruction else storeTwinWord s rd (alternateTarget s rs1 src)

/-- LDSWA (42_load_store.md R822). -/
def execLdswa (rd rs1 : RegNum) (src : AsiOperand) (s : State) : Outcome :=
  loadWord s rd (alternateTarget s rs1 src) (·.signExtend 64)

/-- LDSBA (42_load_store.md R820). -/
def execLdsba (rd rs1 : RegNum) (src : AsiOperand) (s : State) : Outcome :=
  loadByte s rd (alternateTarget s rs1 src) (·.signExtend 64)

/-- LDSHA (42_load_store.md R821). -/
def execLdsha (rd rs1 : RegNum) (src : AsiOperand) (s : State) : Outcome :=
  loadHalf s rd (alternateTarget s rs1 src) (·.signExtend 64)

/-- LDXA (42_load_store.md R826). A register ASI gives its register (20_memory.md R225 to R227). -/
def execLdxa (rd rs1 : RegNum) (src : AsiOperand) (s : State) : Outcome :=
  let t := alternateTarget s rs1 src
  match dataAccess s .loadExtended t with
  | .ok (.memory _ _) | .error _ => loadDoubleword s rd .loadExtended t
  | .ok .register =>
    match readAsiRegister s t.asi t.ea with
    | none => stopAccess s t (.exception .daeInvalidAsi)
    | some v => finishReg s rd v

/-- LDSTUBA (42_load_store.md R861). -/
def execLdstuba (rd rs1 : RegNum) (src : AsiOperand) (s : State) : Outcome :=
  loadStoreByte s rd (alternateTarget s rs1 src)

/-- STXA (42_load_store.md R853). A register ASI takes the value (20_memory.md R225 to R227). -/
def execStxa (rd rs1 : RegNum) (src : AsiOperand) (s : State) : Outcome :=
  let t := alternateTarget s rs1 src
  match dataAccess s .storeExtended t with
  | .ok (.memory _ _) | .error _ => storeValue s .storeExtended t (readReg s rd)
  | .ok .register =>
    match writeAsiRegister s t.asi t.ea (readReg s rd) with
    | none => stopAccess s t (.exception .daeInvalidAsi)
    | some s' => .next (advance s')

/-- SWAPA (42_load_store.md R863). -/
def execSwapa (rd rs1 : RegNum) (src : AsiOperand) (s : State) : Outcome :=
  swapWord s rd (alternateTarget s rs1 src)

/-- LDTXA (42_load_store.md R832). -/
def execLdtxa (rd rs1 rs2 : RegNum) (immAsi : Asi) (s : State) : Outcome :=
  if rd.getLsbD 0 then raise s .illegalInstruction
  else
    withLoad s .twin (immediateTarget s rs1 rs2 immAsi) fun s m ra little =>
      withRead (m.readDouble little ra) fun v0 =>
        withRead (m.readDouble little (ra + 8)) fun v1 => finishTwin s rd v0 v1

/-- CASA (42_load_store.md R864). -/
def execCasa (rd rs1 rs2 : RegNum) (src : CasAsi) (s : State) : Outcome :=
  withLoad s (Access.atomic 4) (casTarget s rs1 src) fun s m ra little =>
    withRead (m.readWord little ra) fun old =>
      finishAtomic s (if old = (readReg s rs2).setWidth 32 then placed little 4 ra (readReg s rd) else []) rd
        (old.setWidth 64)

/-- CASXA (42_load_store.md R865). -/
def execCasxa (rd rs1 rs2 : RegNum) (src : CasAsi) (s : State) : Outcome :=
  withLoad s (Access.atomic 8) (casTarget s rs1 src) fun s m ra little =>
    withRead (m.readDouble little ra) fun old =>
      finishAtomic s (if old = readReg s rs2 then placed little 8 ra (readReg s rd) else []) rd old

/-- PREFETCH (42_load_store.md R870). "PREFETCH[A] has the same observable effect as a NOP". -/
def execPrefetch (fcn : BitVec 5) (_rs1 : RegNum) (_op2 : RegOrImm 13) (s : State) : Outcome :=
  if prefetchFcnDefined fcn then .next (advance s) else raise s .illegalInstruction

/-- PREFETCHA (42_load_store.md R871). A NOP whatever its ASI. -/
def execPrefetcha (fcn : BitVec 5) (_rs1 : RegNum) (_src : AsiOperand) (s : State) : Outcome :=
  if prefetchFcnDefined fcn then .next (advance s) else raise s .illegalInstruction

/-- MEMBAR (42_load_store.md R880). Every access takes effect in its own step, devices' accesses in program order, so every MEMBAR is a NOP (log 12). -/
def execMembar (_cmask : BitVec 3) (_mmask : BitVec 4) (s : State) : Outcome :=
  .next (advance s)

/-- FLUSH (42_load_store.md R885). Fetch reads current memory and the address is not translated (92_eei_decisions.md D40; log 12). -/
def execFlush (_rs1 : RegNum) (_op2 : RegOrImm 13) (s : State) : Outcome :=
  .next (advance s)

end Sys2Proof.Machine
end

