-- ==== Sys2Proof/Machine/FpLoadStore.lean ====
section
/-! DEFINITION. Floating-point loads and stores, loads and stores of FSR, block, short and partial accesses (43_fp_load_store.md). -/

namespace Sys2Proof.Machine

/-! ### Shared forms -/

/-- LDF and LDFA (43_fp_load_store.md R955). -/
def loadFpSingle (s : State) (rd : RegNum) (t : Target) : Outcome :=
  requireFpu s <|
    withLoad s (Access.load 4) t fun s m ra little =>
      withRead (m.readWord little ra) fun v => .next (advance (writeS s rd v))

/-- LDDF and LDDFA, the FPU enabled (43_fp_load_store.md R956). -/
def loadFpDouble (s : State) (rd : RegNum) (t : Target) : Outcome :=
  withLoad s .loadDouble t fun s m ra little =>
    withRead (m.readDouble little ra) fun v => .next (advance (writeD s rd v))

/-- STF and STFA (43_fp_load_store.md R970). -/
def storeFpSingle (s : State) (rd : RegNum) (t : Target) : Outcome :=
  requireFpu s (storeValue s (Access.store 4) t (readS s rd))

/-- STDF and STDFA, the FPU enabled (43_fp_load_store.md R971). -/
def storeFpDouble (s : State) (rd : RegNum) (t : Target) : Outcome :=
  storeValue s .storeDouble t (readD s rd)

/-- FSR with the fields under `mask` taken from `v` (43_fp_load_store.md R965, R966). -/
def loadFsrFields (mask fsr v : Word64) : Word64 := (fsr &&& ~~~mask) ||| (v &&& mask)

/-- The fields a load of FSR changes, `ns`, bit 22, among them where `NS_IMPLEMENTED` is set (10_state.md R84, R91). -/
def fsrLoadMask (mask : Word64) : Word64 := if Config.nsImplemented then mask ||| 0x400000 else mask

/-- FSR with `ftt`, bits 16:14, zero (43_fp_load_store.md R980). -/
def clearFtt (fsr : Word64) : Word64 := fsr &&& ~~~0x1C000#64

/-- The first of eight double registers is F register 0, 16, 32 or 48 (43_fp_load_store.md R985). -/
def blockAligned (rd : RegNum) : Bool := (doubleNumber rd).toNat % 16 == 0

/-- The `n` doublewords at an address, each in the byte order of the access (20_memory.md R239). -/
def readDoubles (m : Memory) (little : Bool) (ra : Nat) : Nat → Except Nat (List Word64)
  | 0 => .ok []
  | n + 1 =>
    match m.readDouble little ra, readDoubles m little (ra + 8) n with
    | .ok v, .ok rest => .ok (v :: rest)
    | .error e, _ => .error e
    | .ok _, .error e => .error e

/-- The cells of doublewords at successive addresses, each in the byte order of the access (20_memory.md R239). -/
def placedDoubles (little : Bool) (ra : Nat) : List Word64 → List Host.Cell
  | [] => []
  | v :: rest => placed little 8 ra v ++ placedDoubles little (ra + 8) rest

/-- The `n` double registers from F register `d` on. -/
def readFds (s : State) (d : BitVec 6) : Nat → List Word64
  | 0 => []
  | n + 1 => readFd s d :: readFds s (d + 2) n

/-- Writes successive double registers from F register `d` on. -/
def writeFds (s : State) (d : BitVec 6) : List Word64 → State
  | [] => s
  | v :: rest => writeFds (writeFd s d v) (d + 2) rest

/-- LDBLOCKF (43_fp_load_store.md R985). -/
def blockLoad (s : State) (rd : RegNum) (t : Target) : Outcome :=
  if blockAligned rd then
    requireFpu s <|
      withLoad s .blockLoad t fun s m ra little =>
        withRead (readDoubles m little ra 8) fun vs =>
          .next (advance (writeFds s (doubleNumber rd) vs))
  else raise s .illegalInstruction

/-- STBLOCKF (43_fp_load_store.md R986; 92_eei_decisions.md D44). -/
def blockStore (s : State) (rd : RegNum) (t : Target) : Outcome :=
  if blockAligned rd then
    requireFpu s <|
      withData s .blockStore t fun ra little =>
        finishStore s (placedDoubles little ra (readFds s (doubleNumber rd) 8))
  else raise s .illegalInstruction

/-- Whether a short floating-point ASI moves 16 bits: 0xD2, 0xD3, 0xDA, 0xDB (43_fp_load_store.md R990). -/
def shortIsHalf (asi : Asi) : Bool := asi.getLsbD 1

/-- LDSHORTF: zero-extended to 64 bits (43_fp_load_store.md R990; 92_eei_decisions.md D45). -/
def shortLoad (s : State) (rd : RegNum) (t : Target) : Outcome :=
  requireFpu s <|
    if shortIsHalf t.asi then
      withLoad s (.shortLoad 2) t fun s m ra little =>
        withRead (m.readHalf little ra) fun v => .next (advance (writeD s rd (v.setWidth 64)))
    else
      withLoad s (.shortLoad 1) t fun s m ra _ =>
        withRead (m.readByte ra) fun v => .next (advance (writeD s rd (v.setWidth 64)))

/-- STSHORTF (43_fp_load_store.md R991). -/
def shortStore (s : State) (rd : RegNum) (t : Target) : Outcome :=
  requireFpu s (storeValue s (.shortStore (if shortIsHalf t.asi then 2 else 1)) t (readD s rd))

/-- The element size in bytes of a partial-store ASI (43_fp_load_store.md R995). -/
def partialBytes (asi : Asi) : Nat :=
  match (asi.extractLsb' 1 2).toNat with
  | 0 => 1
  | 1 => 2
  | _ => 4

/-- Of the 8 bytes of `v` at an address, those in elements of `size` bytes whose mask bit is 1; element 0 is the least significant (43_fp_load_store.md R995). -/
def placedMasked (little : Bool) (ra : Nat) (v : Word64) (size : Nat) (mask : Word64) : List Host.Cell :=
  (placed little 8 ra v).filter fun c =>
    mask.getLsbD ((if little then c.1 - ra else 7 - (c.1 - ra)) / size)

/-! ### The instructions -/

/-- LDF (43_fp_load_store.md R955). -/
def execLdf (rd rs1 : RegNum) (op2 : RegOrImm 13) (s : State) : Outcome :=
  loadFpSingle s rd (implicitTarget s rs1 op2)

/-- LDQF (43_fp_load_store.md R957). Raises illegal_instruction on every operand: no quad-precision instruction is in hardware. -/
def execLdqf (_rd _rs1 : RegNum) (_op2 : RegOrImm 13) (s : State) : Outcome :=
  raise s .illegalInstruction

/-- LDDF (43_fp_load_store.md R956). -/
def execLddf (rd rs1 : RegNum) (op2 : RegOrImm 13) (s : State) : Outcome :=
  requireFpu s (loadFpDouble s rd (implicitTarget s rs1 op2))

/-- STF (43_fp_load_store.md R970). -/
def execStf (rd rs1 : RegNum) (op2 : RegOrImm 13) (s : State) : Outcome :=
  storeFpSingle s rd (implicitTarget s rs1 op2)

/-- STQF (43_fp_load_store.md R972). Raises illegal_instruction on every operand: no quad-precision instruction is in hardware. -/
def execStqf (_rd _rs1 : RegNum) (_op2 : RegOrImm 13) (s : State) : Outcome :=
  raise s .illegalInstruction

/-- STDF (43_fp_load_store.md R971). -/
def execStdf (rd rs1 : RegNum) (op2 : RegOrImm 13) (s : State) : Outcome :=
  requireFpu s (storeFpDouble s rd (implicitTarget s rs1 op2))

/-- LDFSR (43_fp_load_store.md R965). The rd, tem, fcc0, aexc and cexc fields change; the rest keeps its value. -/
def execLdfsr (rs1 : RegNum) (op2 : RegOrImm 13) (s : State) : Outcome :=
  requireFpu s <|
    withLoad s (Access.load 4) (implicitTarget s rs1 op2) fun s m ra little =>
      withRead (m.readWord little ra) fun v =>
        .next (advance { s with fsr := loadFsrFields (fsrLoadMask 0xCF800FFF) s.fsr (v.setWidth 64) })

/-- LDXFSR (43_fp_load_store.md R966). The fcc3, fcc2, fcc1, rd, tem, fcc0, aexc and cexc fields change; the rest keeps its value. -/
def execLdxfsr (rs1 : RegNum) (op2 : RegOrImm 13) (s : State) : Outcome :=
  requireFpu s <|
    withLoad s (Access.load 8) (implicitTarget s rs1 op2) fun s m ra little =>
      withRead (m.readDouble little ra) fun v =>
        .next (advance { s with fsr := loadFsrFields (fsrLoadMask 0x3FCF800FFF) s.fsr v })

/-- STFSR (43_fp_load_store.md R980). -/
def execStfsr (rs1 : RegNum) (op2 : RegOrImm 13) (s : State) : Outcome :=
  requireFpu s <|
    withData s (Access.store 4) (implicitTarget s rs1 op2) fun ra little =>
      finishStore { s with fsr := clearFtt s.fsr } (placed little 4 ra s.fsr)

/-- STXFSR (43_fp_load_store.md R981). -/
def execStxfsr (rs1 : RegNum) (op2 : RegOrImm 13) (s : State) : Outcome :=
  requireFpu s <|
    withData s (Access.store 8) (implicitTarget s rs1 op2) fun ra little =>
      finishStore { s with fsr := clearFtt s.fsr } (placed little 8 ra s.fsr)

/-- LDFA (43_fp_load_store.md R960). -/
def execLdfa (rd rs1 : RegNum) (src : AsiOperand) (s : State) : Outcome :=
  loadFpSingle s rd (alternateTarget s rs1 src)

/-- LDQFA (43_fp_load_store.md R962). Raises illegal_instruction on every operand: no quad-precision instruction is in hardware. -/
def execLdqfa (_rd _rs1 : RegNum) (_src : AsiOperand) (s : State) : Outcome :=
  raise s .illegalInstruction

/-- LDDFA (43_fp_load_store.md R961). The ASI selects LDBLOCKF or LDSHORTF at run time (R951); a COMMIT ASI has its own check of `rd` (20_memory.md R220). -/
def execLddfa (rd rs1 : RegNum) (src : AsiOperand) (s : State) : Outcome :=
  let t := alternateTarget s rs1 src
  match asiClass t.asi with
  | .block => blockLoad s rd t
  | .short => shortLoad s rd t
  | .commit =>
    if blockAligned rd then requireFpu s (loadFpDouble s rd t) else raise s .illegalInstruction
  | _ => requireFpu s (loadFpDouble s rd t)

/-- STFA (43_fp_load_store.md R975). -/
def execStfa (rd rs1 : RegNum) (src : AsiOperand) (s : State) : Outcome :=
  storeFpSingle s rd (alternateTarget s rs1 src)

/-- STQFA (43_fp_load_store.md R977). Raises illegal_instruction on every operand: no quad-precision instruction is in hardware. -/
def execStqfa (_rd _rs1 : RegNum) (_src : AsiOperand) (s : State) : Outcome :=
  raise s .illegalInstruction

/-- STDFA (43_fp_load_store.md R976). The ASI selects STBLOCKF or STSHORTF at run time (R951); a partial-store ASI from the ASI register raises illegal_instruction (20_memory.md R221). -/
def execStdfa (rd rs1 : RegNum) (src : AsiOperand) (s : State) : Outcome :=
  let t := alternateTarget s rs1 src
  match asiClass t.asi with
  | .block => blockStore s rd t
  | .commit => blockStore s rd t
  | .short => shortStore s rd t
  | .pst => raise s .illegalInstruction
  | _ => requireFpu s (storeFpDouble s rd t)

/-- LDBLOCKF (43_fp_load_store.md R985). -/
def execLdblockf (rd rs1 rs2 : RegNum) (immAsi : Asi) (s : State) : Outcome :=
  blockLoad s rd (immediateTarget s rs1 rs2 immAsi)

/-- LDSHORTF (43_fp_load_store.md R990). -/
def execLdshortf (rd rs1 rs2 : RegNum) (immAsi : Asi) (s : State) : Outcome :=
  shortLoad s rd (immediateTarget s rs1 rs2 immAsi)

/-- STBLOCKF (43_fp_load_store.md R986). -/
def execStblockf (rd rs1 rs2 : RegNum) (immAsi : Asi) (s : State) : Outcome :=
  blockStore s rd (immediateTarget s rs1 rs2 immAsi)

/-- STSHORTF (43_fp_load_store.md R991). -/
def execStshortf (rd rs1 rs2 : RegNum) (immAsi : Asi) (s : State) : Outcome :=
  shortStore s rd (immediateTarget s rs1 rs2 immAsi)

/-- STPARTIALF (43_fp_load_store.md R995). `rs2` holds the mask and is no part of the address. -/
def execStpartialf (rd rs1 rs2 : RegNum) (immAsi : Asi) (s : State) : Outcome :=
  requireFpu s <|
    withData s .partialStore { ea := readReg s rs1, asi := immAsi, explicit := true } fun ra little =>
      finishStore s (placedMasked little ra (readD s rd) (partialBytes immAsi) (readReg s rs2))

end Sys2Proof.Machine
end

