-- ==== Sys2Proof/Machine/Vis.lean ====
section
/-! DEFINITION. The VIS instructions (46_vis.md). None reads or writes FSR (R1400). -/

namespace Sys2Proof.Machine

/-! ### Elements: number 0 is the most significant (46_vis.md R1401) -/

/-- A byte of a 32-bit value. -/
def byteOf (v : Word32) (k : Nat) : Byte := v.extractLsb' (8 * (3 - k)) 8

/-- A byte of a 64-bit value. -/
def byteOf64 (v : Word64) (k : Nat) : Byte := v.extractLsb' (8 * (7 - k)) 8

/-- A 16-bit element of a 64-bit value. -/
def halfOf (v : Word64) (k : Nat) : Half := v.extractLsb' (16 * (3 - k)) 16

/-- A 16-bit element of a 32-bit value. -/
def halfOf32 (v : Word32) (k : Nat) : Half := v.extractLsb' (16 * (1 - k)) 16

/-- A 32-bit element of a 64-bit value. -/
def wordOf (v : Word64) (k : Nat) : Word32 := v.extractLsb' (32 * (1 - k)) 32

/-- The upper byte of a 16-bit element. -/
def upperByte (h : Half) : Byte := h.extractLsb' 8 8

/-- The lower byte of a 16-bit element. -/
def lowerByte (h : Half) : Byte := h.extractLsb' 0 8

/-- Four 16-bit elements as one value. -/
def joinHalves (f : Nat → Half) : Word64 := f 0 ++ f 1 ++ f 2 ++ f 3

/-- Two 32-bit elements as one value. -/
def joinWords (f : Nat → Word32) : Word64 := f 0 ++ f 1

/-- Four bytes as one value. -/
def joinBytes (f : Nat → Byte) : Word32 := f 0 ++ f 1 ++ f 2 ++ f 3

/-! ### Shared forms -/

/-- Writes a double register, the FPU enabled (46_vis.md R1400). -/
def writeVisD (s : State) (rd : RegNum) (v : Word64) : Outcome :=
  requireFpu s (.next (advance (writeD s rd v)))

/-- Writes a single register, the FPU enabled (46_vis.md R1400). -/
def writeVisS (s : State) (rd : RegNum) (v : Word32) : Outcome :=
  requireFpu s (.next (advance (writeS s rd v)))

/-- GSR with `align`, bits 2:0, replaced (10_state.md R103). -/
def withGsrAlign (gsr : Word64) (a : BitVec 3) : Word64 := gsr.extractLsb' 3 61 ++ a

/-- GSR with `mask`, bits 63:32, replaced (10_state.md R103). -/
def withGsrMask (gsr : Word64) (m : Word32) : Word64 := m ++ gsr.extractLsb' 0 32

/-- GSR with `im` and `irnd`, bits 27:25, replaced (10_state.md R103). -/
def withGsrRounding (gsr : Word64) (mode : BitVec 3) : Word64 :=
  gsr.extractLsb' 28 36 ++ mode ++ gsr.extractLsb' 0 25

/-- ALIGNADDRESS and its little-endian form (46_vis.md R1402, R1403). -/
def alignAddress (s : State) (rd : RegNum) (sum : Word64) (align : BitVec 3) : Outcome :=
  requireFpu s (finishReg { s with gsr := withGsrAlign s.gsr align } rd (sum.extractLsb' 3 61 ++ 0#3))

/-- Bytes `a` to `a + 7` of two doublewords (46_vis.md R1404). -/
def alignData (x y : Word64) (a : BitVec 3) : Word64 := (x ++ y).extractLsb' (64 - 8 * a.toNat) 64

/-- Destination byte `k` of BSHUFFLE, as the byte of the source that its mask nibble names (46_vis.md R1406). -/
def shuffledByte (x y : Word64) (mask : Word32) (k : Nat) : Byte :=
  (x ++ y).extractLsb' (8 * (15 - (mask.extractLsb' (28 - 4 * k) 4).toNat)) 8

/-- BSHUFFLE (46_vis.md R1406). -/
def shuffle (x y : Word64) (mask : Word32) : Word64 :=
  shuffledByte x y mask 0 ++ shuffledByte x y mask 1 ++ shuffledByte x y mask 2 ++ shuffledByte x y mask 3
    ++ shuffledByte x y mask 4 ++ shuffledByte x y mask 5 ++ shuffledByte x y mask 6 ++ shuffledByte x y mask 7

/-- `a8` of ARRAY for a size `n` of 0 to 5 (46_vis.md R1410). -/
def blockedAddress (coords : Word64) (n : Nat) : Word64 :=
  let x := coords.extractLsb' 11 11
  let y := coords.extractLsb' 33 11
  let z := coords.extractLsb' 55 9
  let field (v : Nat) (lo width at_ : Nat) : Nat := v / 2 ^ lo % 2 ^ width * 2 ^ at_
  BitVec.ofNat 64 <|
    field x.toNat 0 2 0 + field y.toNat 0 2 2 + field z.toNat 0 1 4
      + field x.toNat 2 4 5 + field y.toNat 2 4 9 + field z.toNat 1 4 13
      + field x.toNat 6 n 17 + field y.toNat 6 n (17 + n) + field z.toNat 5 4 (17 + 2 * n)

/-- ARRAY8, ARRAY16, ARRAY32; for a size above 5 the result is a free value (46_vis.md R1410; 93_implementation_defined.md U20; log 11). -/
def arrayAddress (s : State) (rd : RegNum) (coords size : Word64) (shift : Nat) : Outcome :=
  if size.toNat ≤ 5 then finishReg s rd (blockedAddress coords size.toNat <<< shift)
  else finishReg (drawFree s) rd (Config.freeArray s.freeCount)

/-- The element size of an EDGE instruction (46_vis.md R1420). -/
inductive EdgeSize where
  | e8
  | e16
  | e32
  deriving DecidableEq, Repr

/-- How many mask bits an EDGE instruction has. -/
def EdgeSize.width : EdgeSize → Nat
  | .e8 => 8
  | .e16 => 4
  | .e32 => 2

/-- The element the three low address bits select. -/
def EdgeSize.element (z : EdgeSize) (a : BitVec 3) : Nat :=
  match z with
  | .e8 => a.toNat
  | .e16 => a.toNat / 2
  | .e32 => a.toNat / 4

/-- All the mask bits. -/
def EdgeSize.full (z : EdgeSize) : Word64 := BitVec.ofNat 64 (2 ^ z.width - 1)

/-- `left_mask` (46_vis.md R1420, Table 7-6). -/
def leftMask (z : EdgeSize) (little : Bool) (a : BitVec 3) : Word64 :=
  if little then (z.full <<< z.element a) &&& z.full else z.full >>> z.element a

/-- `right_mask` (46_vis.md R1420, Table 7-6). -/
def rightMask (z : EdgeSize) (little : Bool) (a : BitVec 3) : Word64 :=
  if little then z.full >>> (z.width - 1 - z.element a)
  else (z.full <<< (z.width - 1 - z.element a)) &&& z.full

/-- Whether two addresses lie in one 8-byte block (46_vis.md R1420). -/
def sameBlock (s : State) (a b : Word64) : Bool :=
  if s.am then a.extractLsb' 3 29 == b.extractLsb' 3 29 else a.extractLsb' 3 61 == b.extractLsb' 3 61

/-- The mask of an EDGE instruction (46_vis.md R1420). -/
def edgeMask (s : State) (z : EdgeSize) (little : Bool) (a b : Word64) : Word64 :=
  if sameBlock s a b then leftMask z little (a.setWidth 3) &&& rightMask z little (b.setWidth 3)
  else leftMask z little (a.setWidth 3)

/-- The four results of a 16-bit partitioned compare, the least significant element in bit 0 (46_vis.md R1440). -/
def compareHalves (op : Half → Half → Bool) (x y : Word64) : Word64 :=
  0#60 ++ bit (op (halfOf x 0) (halfOf y 0)) ++ bit (op (halfOf x 1) (halfOf y 1))
    ++ bit (op (halfOf x 2) (halfOf y 2)) ++ bit (op (halfOf x 3) (halfOf y 3))

/-- The two results of a 32-bit partitioned compare (46_vis.md R1440). -/
def compareWords (op : Word32 → Word32 → Bool) (x y : Word64) : Word64 :=
  0#62 ++ bit (op (wordOf x 0) (wordOf y 0)) ++ bit (op (wordOf x 1) (wordOf y 1))

/-- `round8`: the upper 16 of the 24 bits of a product, a half rounded up (46_vis.md R1451; 92_eei_decisions.md D29). -/
def round8 (p : Int) : Half := BitVec.ofInt 16 ((p + 0x80) / 2 ^ 8)

/-- `round16` (46_vis.md R1451). -/
def round16 (p : Int) : Half := BitVec.ofInt 16 ((p + 0x8000) / 2 ^ 16)

/-- A 16-bit element scaled by `GSR.scale[3:0]` (46_vis.md R1461). -/
def scaled16 (s : State) (h : Half) : Int := h.toInt * 2 ^ (s.gsr.extractLsb' 3 4).toNat

/-- A 32-bit element scaled by `GSR.scale` (46_vis.md R1462, R1463). -/
def scaled32 (s : State) (w : Word32) : Int := w.toInt * 2 ^ (s.gsr.extractLsb' 3 5).toNat

/-- Clipping to an unsigned byte (46_vis.md R1461). -/
def clipByte (t : Int) : Byte := if t < 0 then 0 else if 255 < t then 255 else BitVec.ofInt 8 t

/-- Clipping to a signed halfword (46_vis.md R1463). -/
def clipHalf (t : Int) : Half :=
  if t < -32768 then 0x8000 else if 32767 < t then 0x7FFF else BitVec.ofInt 16 t

/-- The sum of the absolute differences of the first `n` bytes (46_vis.md R1520). -/
def pixelDistance (x y : Word64) : Nat → Nat
  | 0 => 0
  | n + 1 =>
    pixelDistance x y n + (((byteOf64 x n).toNat : Int) - ((byteOf64 y n).toNat : Int)).natAbs

/-! ### The instructions -/

/-- EDGE8cc (46_vis.md R1421). -/
def execEdge8cc (rd rs1 rs2 : RegNum) (s : State) : Outcome :=
  finishCc s rd (edgeMask s .e8 false (readReg s rs1) (readReg s rs2)) (ccSub (readReg s rs1) (readReg s rs2) false)

/-- EDGE8N (46_vis.md R1422). -/
def execEdge8n (rd rs1 rs2 : RegNum) (s : State) : Outcome :=
  finishReg s rd (edgeMask s .e8 false (readReg s rs1) (readReg s rs2))

/-- EDGE8Lcc (46_vis.md R1423). -/
def execEdge8lcc (rd rs1 rs2 : RegNum) (s : State) : Outcome :=
  finishCc s rd (edgeMask s .e8 true (readReg s rs1) (readReg s rs2)) (ccSub (readReg s rs1) (readReg s rs2) false)

/-- EDGE8LN (46_vis.md R1424). -/
def execEdge8ln (rd rs1 rs2 : RegNum) (s : State) : Outcome :=
  finishReg s rd (edgeMask s .e8 true (readReg s rs1) (readReg s rs2))

/-- EDGE16cc (46_vis.md R1425). -/
def execEdge16cc (rd rs1 rs2 : RegNum) (s : State) : Outcome :=
  finishCc s rd (edgeMask s .e16 false (readReg s rs1) (readReg s rs2)) (ccSub (readReg s rs1) (readReg s rs2) false)

/-- EDGE16N (46_vis.md R1426). -/
def execEdge16n (rd rs1 rs2 : RegNum) (s : State) : Outcome :=
  finishReg s rd (edgeMask s .e16 false (readReg s rs1) (readReg s rs2))

/-- EDGE16Lcc (46_vis.md R1427). -/
def execEdge16lcc (rd rs1 rs2 : RegNum) (s : State) : Outcome :=
  finishCc s rd (edgeMask s .e16 true (readReg s rs1) (readReg s rs2)) (ccSub (readReg s rs1) (readReg s rs2) false)

/-- EDGE16LN (46_vis.md R1428). -/
def execEdge16ln (rd rs1 rs2 : RegNum) (s : State) : Outcome :=
  finishReg s rd (edgeMask s .e16 true (readReg s rs1) (readReg s rs2))

/-- EDGE32cc (46_vis.md R1429). -/
def execEdge32cc (rd rs1 rs2 : RegNum) (s : State) : Outcome :=
  finishCc s rd (edgeMask s .e32 false (readReg s rs1) (readReg s rs2)) (ccSub (readReg s rs1) (readReg s rs2) false)

/-- EDGE32N (46_vis.md R1430). -/
def execEdge32n (rd rs1 rs2 : RegNum) (s : State) : Outcome :=
  finishReg s rd (edgeMask s .e32 false (readReg s rs1) (readReg s rs2))

/-- EDGE32Lcc (46_vis.md R1431). -/
def execEdge32lcc (rd rs1 rs2 : RegNum) (s : State) : Outcome :=
  finishCc s rd (edgeMask s .e32 true (readReg s rs1) (readReg s rs2)) (ccSub (readReg s rs1) (readReg s rs2) false)

/-- EDGE32LN (46_vis.md R1432). -/
def execEdge32ln (rd rs1 rs2 : RegNum) (s : State) : Outcome :=
  finishReg s rd (edgeMask s .e32 true (readReg s rs1) (readReg s rs2))

/-- ARRAY8 (46_vis.md R1411). -/
def execArray8 (rd rs1 rs2 : RegNum) (s : State) : Outcome :=
  arrayAddress s rd (readReg s rs1) (readReg s rs2) 0

/-- ARRAY16 (46_vis.md R1412). -/
def execArray16 (rd rs1 rs2 : RegNum) (s : State) : Outcome :=
  arrayAddress s rd (readReg s rs1) (readReg s rs2) 1

/-- ARRAY32 (46_vis.md R1413). -/
def execArray32 (rd rs1 rs2 : RegNum) (s : State) : Outcome :=
  arrayAddress s rd (readReg s rs1) (readReg s rs2) 2

/-- ALIGNADDRESS (46_vis.md R1402). -/
def execAlignaddress (rd rs1 rs2 : RegNum) (s : State) : Outcome :=
  alignAddress s rd (readReg s rs1 + readReg s rs2) ((readReg s rs1 + readReg s rs2).setWidth 3)

/-- BMASK (46_vis.md R1405). -/
def execBmask (rd rs1 rs2 : RegNum) (s : State) : Outcome :=
  requireFpu s <|
    finishReg { s with gsr := withGsrMask s.gsr ((readReg s rs1 + readReg s rs2).setWidth 32) } rd
      (readReg s rs1 + readReg s rs2)

/-- ALIGNADDRESS_LITTLE (46_vis.md R1403). -/
def execAlignaddressLittle (rd rs1 rs2 : RegNum) (s : State) : Outcome :=
  alignAddress s rd (readReg s rs1 + readReg s rs2) (-(readReg s rs1 + readReg s rs2).setWidth 3)

/-- FCMPLE16 (46_vis.md R1441). -/
def execFcmple16 (rd rs1 rs2 : RegNum) (s : State) : Outcome :=
  requireFpu s (finishReg s rd (compareHalves (fun a b => a.sle b) (readD s rs1) (readD s rs2)))

/-- FCMPNE16 (46_vis.md R1442). -/
def execFcmpne16 (rd rs1 rs2 : RegNum) (s : State) : Outcome :=
  requireFpu s (finishReg s rd (compareHalves (fun a b => a != b) (readD s rs1) (readD s rs2)))

/-- FCMPLE32 (46_vis.md R1443). -/
def execFcmple32 (rd rs1 rs2 : RegNum) (s : State) : Outcome :=
  requireFpu s (finishReg s rd (compareWords (fun a b => a.sle b) (readD s rs1) (readD s rs2)))

/-- FCMPNE32 (46_vis.md R1444). -/
def execFcmpne32 (rd rs1 rs2 : RegNum) (s : State) : Outcome :=
  requireFpu s (finishReg s rd (compareWords (fun a b => a != b) (readD s rs1) (readD s rs2)))

/-- FCMPGT16 (46_vis.md R1445). -/
def execFcmpgt16 (rd rs1 rs2 : RegNum) (s : State) : Outcome :=
  requireFpu s (finishReg s rd (compareHalves (fun a b => b.slt a) (readD s rs1) (readD s rs2)))

/-- FCMPEQ16 (46_vis.md R1446). -/
def execFcmpeq16 (rd rs1 rs2 : RegNum) (s : State) : Outcome :=
  requireFpu s (finishReg s rd (compareHalves (fun a b => a == b) (readD s rs1) (readD s rs2)))

/-- FCMPGT32 (46_vis.md R1447). -/
def execFcmpgt32 (rd rs1 rs2 : RegNum) (s : State) : Outcome :=
  requireFpu s (finishReg s rd (compareWords (fun a b => b.slt a) (readD s rs1) (readD s rs2)))

/-- FCMPEQ32 (46_vis.md R1448). -/
def execFcmpeq32 (rd rs1 rs2 : RegNum) (s : State) : Outcome :=
  requireFpu s (finishReg s rd (compareWords (fun a b => a == b) (readD s rs1) (readD s rs2)))

/-- FMUL8x16 (46_vis.md R1452). -/
def execFmul8x16 (rd rs1 rs2 : RegNum) (s : State) : Outcome :=
  writeVisD s rd (joinHalves fun k => round8 ((byteOf (readS s rs1) k).toNat * (halfOf (readD s rs2) k).toInt))

/-- FMUL8x16AU (46_vis.md R1453). -/
def execFmul8x16au (rd rs1 rs2 : RegNum) (s : State) : Outcome :=
  writeVisD s rd (joinHalves fun k => round8 ((byteOf (readS s rs1) k).toNat * (halfOf32 (readS s rs2) 0).toInt))

/-- FMUL8x16AL (46_vis.md R1454). -/
def execFmul8x16al (rd rs1 rs2 : RegNum) (s : State) : Outcome :=
  writeVisD s rd (joinHalves fun k => round8 ((byteOf (readS s rs1) k).toNat * (halfOf32 (readS s rs2) 1).toInt))

/-- FMUL8SUx16 (46_vis.md R1455). -/
def execFmul8sux16 (rd rs1 rs2 : RegNum) (s : State) : Outcome :=
  writeVisD s rd (joinHalves fun k => round8 ((upperByte (halfOf (readD s rs1) k)).toInt * (halfOf (readD s rs2) k).toInt))

/-- FMUL8ULx16 (46_vis.md R1456). -/
def execFmul8ulx16 (rd rs1 rs2 : RegNum) (s : State) : Outcome :=
  writeVisD s rd (joinHalves fun k => round16 ((lowerByte (halfOf (readD s rs1) k)).toNat * (halfOf (readD s rs2) k).toInt))

/-- FMULD8SUx16 (46_vis.md R1457). -/
def execFmuld8sux16 (rd rs1 rs2 : RegNum) (s : State) : Outcome :=
  writeVisD s rd (joinWords fun k => BitVec.ofInt 32 ((upperByte (halfOf32 (readS s rs1) k)).toInt * (halfOf32 (readS s rs2) k).toInt * 256))

/-- FMULD8ULx16 (46_vis.md R1458). -/
def execFmuld8ulx16 (rd rs1 rs2 : RegNum) (s : State) : Outcome :=
  writeVisD s rd (joinWords fun k => BitVec.ofInt 32 ((lowerByte (halfOf32 (readS s rs1) k)).toNat * (halfOf32 (readS s rs2) k).toInt))

/-- FPACK32 (46_vis.md R1462). -/
def execFpack32 (rd rs1 rs2 : RegNum) (s : State) : Outcome :=
  writeVisD s rd (joinWords fun k => (wordOf (readD s rs1) k <<< 8) ||| (clipByte (scaled32 s (wordOf (readD s rs2) k) / 2 ^ 23)).setWidth 32)

/-- FPACK16 (46_vis.md R1461). -/
def execFpack16 (rd rs2 : RegNum) (s : State) : Outcome :=
  writeVisS s rd (joinBytes fun k => clipByte (scaled16 s (halfOf (readD s rs2) k) / 2 ^ 7))

/-- FPACKFIX (46_vis.md R1463). -/
def execFpackfix (rd rs2 : RegNum) (s : State) : Outcome :=
  writeVisS s rd (clipHalf (scaled32 s (wordOf (readD s rs2) 0) / 2 ^ 16) ++ clipHalf (scaled32 s (wordOf (readD s rs2) 1) / 2 ^ 16))

/-- PDIST (46_vis.md R1520). -/
def execPdist (rd rs1 rs2 : RegNum) (s : State) : Outcome :=
  writeVisD s rd (readD s rd + BitVec.ofNat 64 (pixelDistance (readD s rs1) (readD s rs2) 8))

/-- FALIGNDATA (46_vis.md R1404). -/
def execFaligndata (rd rs1 rs2 : RegNum) (s : State) : Outcome :=
  writeVisD s rd (alignData (readD s rs1) (readD s rs2) (s.gsr.extractLsb' 0 3))

/-- FPMERGE (46_vis.md R1465). -/
def execFpmerge (rd rs1 rs2 : RegNum) (s : State) : Outcome :=
  writeVisD s rd (joinHalves fun k => byteOf (readS s rs1) k ++ byteOf (readS s rs2) k)

/-- BSHUFFLE (46_vis.md R1406). -/
def execBshuffle (rd rs1 rs2 : RegNum) (s : State) : Outcome :=
  writeVisD s rd (shuffle (readD s rs1) (readD s rs2) (s.gsr.extractLsb' 32 32))

/-- FEXPAND (46_vis.md R1450). -/
def execFexpand (rd rs2 : RegNum) (s : State) : Outcome :=
  writeVisD s rd (joinHalves fun k => (byteOf (readS s rs2) k).setWidth 16 <<< 4)

/-- FPADD16 (46_vis.md R1471). -/
def execFpadd16 (rd rs1 rs2 : RegNum) (s : State) : Outcome :=
  writeVisD s rd (joinHalves fun k => halfOf (readD s rs1) k + halfOf (readD s rs2) k)

/-- FPADD16S (46_vis.md R1472). -/
def execFpadd16s (rd rs1 rs2 : RegNum) (s : State) : Outcome :=
  writeVisS s rd ((halfOf32 (readS s rs1) 0 + halfOf32 (readS s rs2) 0) ++ (halfOf32 (readS s rs1) 1 + halfOf32 (readS s rs2) 1))

/-- FPADD32 (46_vis.md R1473). -/
def execFpadd32 (rd rs1 rs2 : RegNum) (s : State) : Outcome :=
  writeVisD s rd (joinWords fun k => wordOf (readD s rs1) k + wordOf (readD s rs2) k)

/-- FPADD32S (46_vis.md R1474). -/
def execFpadd32s (rd rs1 rs2 : RegNum) (s : State) : Outcome :=
  writeVisS s rd (readS s rs1 + readS s rs2)

/-- FPSUB16 (46_vis.md R1475). -/
def execFpsub16 (rd rs1 rs2 : RegNum) (s : State) : Outcome :=
  writeVisD s rd (joinHalves fun k => halfOf (readD s rs1) k - halfOf (readD s rs2) k)

/-- FPSUB16S (46_vis.md R1476). -/
def execFpsub16s (rd rs1 rs2 : RegNum) (s : State) : Outcome :=
  writeVisS s rd ((halfOf32 (readS s rs1) 0 - halfOf32 (readS s rs2) 0) ++ (halfOf32 (readS s rs1) 1 - halfOf32 (readS s rs2) 1))

/-- FPSUB32 (46_vis.md R1477). -/
def execFpsub32 (rd rs1 rs2 : RegNum) (s : State) : Outcome :=
  writeVisD s rd (joinWords fun k => wordOf (readD s rs1) k - wordOf (readD s rs2) k)

/-- FPSUB32S (46_vis.md R1478). -/
def execFpsub32s (rd rs1 rs2 : RegNum) (s : State) : Outcome :=
  writeVisS s rd (readS s rs1 - readS s rs2)

/-- FZEROd (46_vis.md R1481). -/
def execFzerod (rd : RegNum) (s : State) : Outcome :=
  writeVisD s rd 0

/-- FZEROs (46_vis.md R1482). -/
def execFzeros (rd : RegNum) (s : State) : Outcome :=
  writeVisS s rd 0

/-- FNORd (46_vis.md R1495). -/
def execFnord (rd rs1 rs2 : RegNum) (s : State) : Outcome :=
  writeVisD s rd (~~~(readD s rs1 ||| readD s rs2))

/-- FNORs (46_vis.md R1496). -/
def execFnors (rd rs1 rs2 : RegNum) (s : State) : Outcome :=
  writeVisS s rd (~~~(readS s rs1 ||| readS s rs2))

/-- FANDNOT2d (46_vis.md R1511). -/
def execFandnot2d (rd rs1 rs2 : RegNum) (s : State) : Outcome :=
  writeVisD s rd (readD s rs1 &&& ~~~readD s rs2)

/-- FANDNOT2s (46_vis.md R1512). -/
def execFandnot2s (rd rs1 rs2 : RegNum) (s : State) : Outcome :=
  writeVisS s rd (readS s rs1 &&& ~~~readS s rs2)

/-- FNOT2d (46_vis.md R1491). -/
def execFnot2d (rd rs2 : RegNum) (s : State) : Outcome :=
  writeVisD s rd (~~~readD s rs2)

/-- FNOT2s (46_vis.md R1492). -/
def execFnot2s (rd rs2 : RegNum) (s : State) : Outcome :=
  writeVisS s rd (~~~readS s rs2)

/-- FANDNOT1d (46_vis.md R1509). -/
def execFandnot1d (rd rs1 rs2 : RegNum) (s : State) : Outcome :=
  writeVisD s rd (~~~readD s rs1 &&& readD s rs2)

/-- FANDNOT1s (46_vis.md R1510). -/
def execFandnot1s (rd rs1 rs2 : RegNum) (s : State) : Outcome :=
  writeVisS s rd (~~~readS s rs1 &&& readS s rs2)

/-- FNOT1d (46_vis.md R1489). -/
def execFnot1d (rd rs1 : RegNum) (s : State) : Outcome :=
  writeVisD s rd (~~~readD s rs1)

/-- FNOT1s (46_vis.md R1490). -/
def execFnot1s (rd rs1 : RegNum) (s : State) : Outcome :=
  writeVisS s rd (~~~readS s rs1)

/-- FXORd (46_vis.md R1501). -/
def execFxord (rd rs1 rs2 : RegNum) (s : State) : Outcome :=
  writeVisD s rd (readD s rs1 ^^^ readD s rs2)

/-- FXORs (46_vis.md R1502). -/
def execFxors (rd rs1 rs2 : RegNum) (s : State) : Outcome :=
  writeVisS s rd (readS s rs1 ^^^ readS s rs2)

/-- FNANDd (46_vis.md R1499). -/
def execFnandd (rd rs1 rs2 : RegNum) (s : State) : Outcome :=
  writeVisD s rd (~~~(readD s rs1 &&& readD s rs2))

/-- FNANDs (46_vis.md R1500). -/
def execFnands (rd rs1 rs2 : RegNum) (s : State) : Outcome :=
  writeVisS s rd (~~~(readS s rs1 &&& readS s rs2))

/-- FANDd (46_vis.md R1497). -/
def execFandd (rd rs1 rs2 : RegNum) (s : State) : Outcome :=
  writeVisD s rd (readD s rs1 &&& readD s rs2)

/-- FANDs (46_vis.md R1498). -/
def execFands (rd rs1 rs2 : RegNum) (s : State) : Outcome :=
  writeVisS s rd (readS s rs1 &&& readS s rs2)

/-- FXNORd (46_vis.md R1503). -/
def execFxnord (rd rs1 rs2 : RegNum) (s : State) : Outcome :=
  writeVisD s rd (~~~(readD s rs1 ^^^ readD s rs2))

/-- FXNORs (46_vis.md R1504). -/
def execFxnors (rd rs1 rs2 : RegNum) (s : State) : Outcome :=
  writeVisS s rd (~~~(readS s rs1 ^^^ readS s rs2))

/-- FSRC1d (46_vis.md R1485). -/
def execFsrc1d (rd rs1 : RegNum) (s : State) : Outcome :=
  writeVisD s rd (readD s rs1)

/-- FSRC1s (46_vis.md R1486). -/
def execFsrc1s (rd rs1 : RegNum) (s : State) : Outcome :=
  writeVisS s rd (readS s rs1)

/-- FORNOT2d (46_vis.md R1507). -/
def execFornot2d (rd rs1 rs2 : RegNum) (s : State) : Outcome :=
  writeVisD s rd (readD s rs1 ||| ~~~readD s rs2)

/-- FORNOT2s (46_vis.md R1508). -/
def execFornot2s (rd rs1 rs2 : RegNum) (s : State) : Outcome :=
  writeVisS s rd (readS s rs1 ||| ~~~readS s rs2)

/-- FSRC2d (46_vis.md R1487). -/
def execFsrc2d (rd rs2 : RegNum) (s : State) : Outcome :=
  writeVisD s rd (readD s rs2)

/-- FSRC2s (46_vis.md R1488). -/
def execFsrc2s (rd rs2 : RegNum) (s : State) : Outcome :=
  writeVisS s rd (readS s rs2)

/-- FORNOT1d (46_vis.md R1505). -/
def execFornot1d (rd rs1 rs2 : RegNum) (s : State) : Outcome :=
  writeVisD s rd (~~~readD s rs1 ||| readD s rs2)

/-- FORNOT1s (46_vis.md R1506). -/
def execFornot1s (rd rs1 rs2 : RegNum) (s : State) : Outcome :=
  writeVisS s rd (~~~readS s rs1 ||| readS s rs2)

/-- FORd (46_vis.md R1493). -/
def execFord (rd rs1 rs2 : RegNum) (s : State) : Outcome :=
  writeVisD s rd (readD s rs1 ||| readD s rs2)

/-- FORs (46_vis.md R1494). -/
def execFors (rd rs1 rs2 : RegNum) (s : State) : Outcome :=
  writeVisS s rd (readS s rs1 ||| readS s rs2)

/-- FONEd (46_vis.md R1483). -/
def execFoned (rd : RegNum) (s : State) : Outcome :=
  writeVisD s rd (BitVec.allOnes 64)

/-- FONEs (46_vis.md R1484). -/
def execFones (rd : RegNum) (s : State) : Outcome :=
  writeVisS s rd (BitVec.allOnes 32)

/-- SIAM (46_vis.md R1521). -/
def execSiam (mode : BitVec 3) (s : State) : Outcome :=
  requireFpu s (.next (advance { s with gsr := withGsrRounding s.gsr mode }))

end Sys2Proof.Machine
end

