-- ==== Sys2Proof/Machine/Windows.lean ====
section
/-! DEFINITION. Register-window instructions, and reads and writes of state registers and privileged registers (44_window_and_state.md). -/

namespace Sys2Proof.Machine

/-! ### Shared forms -/

/-- The window registers after a SAVE: CWP + 1, CANSAVE - 1, CANRESTORE + 1 (44_window_and_state.md R1051). -/
def saveWindow (s : State) : State :=
  { s with cwp := s.cwp + 1, cansave := s.cansave - 1, canrestore := s.canrestore + 1 }

/-- The value WRasr and WRPR write: the operation is exclusive-or (44_window_and_state.md R1075, R1110). -/
def writeValue (s : State) (rs1 : RegNum) (op2 : RegOrImm 13) : Word64 := readReg s rs1 ^^^ operand2 s op2

/-- A read of a register of privileged software (44_window_and_state.md R1060, R1090). -/
def readPriv (s : State) (rd : RegNum) (v : Word64) : Outcome := requirePriv s (finishReg s rd v)

/-- Whether nonprivileged software may not read TICK or STICK: `npt`, bit 63, is set, or the parameter `disabled` bars it (44_window_and_state.md R1060; 00_scope.md R11; 92_eei_decisions.md D23). -/
def counterDenied (disabled : Bool) (s : State) (counter : Word64) : Bool := !s.priv && (counter.msb || disabled)

/-- Whether the current mode may not read STICK: where `disabled`, privileged software may not either (44_window_and_state.md R1060). -/
def stickDenied (disabled : Bool) (s : State) : Bool := counterDenied disabled s s.stick || (s.priv && disabled)

/-- A read of TICK or STICK, bit 63 of which is `npt` (44_window_and_state.md R1060). -/
def readCounter (s : State) (rd : RegNum) (counter : Word64) (denied : Bool) : Outcome :=
  if denied then raise s .privilegedAction else finishReg s rd counter

/-- A change of state by privileged software (44_window_and_state.md R1075, R1110). -/
def writePriv (s t : State) : Outcome := requirePriv s (.next (advance t))

/-- A read of a register of the current trap level; at TL = 0 illegal_instruction (44_window_and_state.md R1090). -/
def readTrapLevel (s : State) (rd : RegNum) (f : TrapFrame → Word64) : Outcome :=
  requirePriv s (if s.tl = 0 then raise s .illegalInstruction else finishReg s rd (f (currentFrame s)))

/-- A write of a register of the current trap level; at TL = 0 illegal_instruction (44_window_and_state.md R1110). -/
def writeTrapLevel (s : State) (f : TrapFrame → TrapFrame) : Outcome :=
  requirePriv s <|
    if s.tl = 0 then raise s .illegalInstruction
    else .next (advance (setCurrentFrame s (f (currentFrame s))))

/-- The bits of GSR that are storage: 63:32, 27:25, 7:0 (10_state.md R103). -/
def gsrMask : Word64 := 0xFFFFFFFF0E0000FF

/-- The bits of TSTATE that are storage: gl 42:40, ccr 39:32, asi 31:24, the implemented bits of pstate 20:8, cwp 2:0 (10_state.md R146). -/
def tstateMask : Word64 := 0x7FFFF000007 ||| pstateMask.setWidth 64 <<< 8

/-- TL and GL saturate at 2 (44_window_and_state.md R1117, R1125; 92_eei_decisions.md D5). -/
def saturateLevel (v : BitVec 3) : Fin 3 :=
  match v.toNat with
  | 0 => 0
  | 1 => 1
  | _ => 2

/-! ### The instructions -/

/-- SAVE (44_window_and_state.md R1051). The sources are read in the old window, the destination is written in the new one. -/
def execSave (rd rs1 : RegNum) (op2 : RegOrImm 13) (s : State) : Outcome :=
  if s.cansave = 0 then raise s (spillException s)
  else if s.cleanwin - s.canrestore = 0 then raise s .cleanWindow
  else finishReg (saveWindow s) rd (readReg s rs1 + operand2 s op2)

/-- RESTORE (44_window_and_state.md R1052). The sources are read in the old window, the destination is written in the new one. -/
def execRestore (rd rs1 : RegNum) (op2 : RegOrImm 13) (s : State) : Outcome :=
  if s.canrestore = 0 then raise s (fillException s)
  else finishReg (restoreWindow s) rd (readReg s rs1 + operand2 s op2)

/-- SAVED (44_window_and_state.md R1053). -/
def execSaved (s : State) : Outcome :=
  requirePriv s <|
    if Config.nRegWindows - 2 ≤ s.cansave.toNat ∨ s.canrestore = 0 then .refused .savedWindowsInconsistent
    else if s.otherwin = 0 then
      .next (advance { s with cansave := s.cansave + 1, canrestore := s.canrestore - 1 })
    else .next (advance { s with cansave := s.cansave + 1, otherwin := s.otherwin - 1 })

/-- RESTORED (44_window_and_state.md R1054). -/
def execRestored (s : State) : Outcome :=
  requirePriv s <|
    let cleanwin := if s.cleanwin.toNat < Config.nRegWindows - 1 then s.cleanwin + 1 else s.cleanwin
    if Config.nRegWindows - 2 ≤ s.canrestore.toNat ∨ s.cansave = 0 then .refused .restoredWindowsInconsistent
    else if s.otherwin = 0 then
      .next (advance { s with canrestore := s.canrestore + 1, cleanwin := cleanwin, cansave := s.cansave - 1 })
    else .next (advance { s with canrestore := s.canrestore + 1, cleanwin := cleanwin, otherwin := s.otherwin - 1 })

/-- ALLCLEAN (44_window_and_state.md R1056). -/
def execAllclean (s : State) : Outcome :=
  writePriv s { s with cleanwin := BitVec.ofNat 3 (Config.nRegWindows - 1) }

/-- OTHERW (44_window_and_state.md R1059). -/
def execOtherw (s : State) : Outcome :=
  writePriv s { s with otherwin := s.canrestore, canrestore := 0 }

/-- NORMALW (44_window_and_state.md R1058). -/
def execNormalw (s : State) : Outcome :=
  writePriv s { s with canrestore := s.otherwin, otherwin := 0 }

/-- INVALW (44_window_and_state.md R1057). -/
def execInvalw (s : State) : Outcome :=
  writePriv s { s with cansave := BitVec.ofNat 3 (Config.nRegWindows - 2), canrestore := 0, otherwin := 0 }

/-- FLUSHW (44_window_and_state.md R1055). Bit 13 is ignored. -/
def execFlushw (_i : Bool) (s : State) : Outcome :=
  if s.cansave.toNat ≠ Config.nRegWindows - 2 then raise s (spillException s) else .next (advance s)

/-- RDY (44_window_and_state.md R1061). -/
def execRdy (rd : RegNum) (s : State) : Outcome :=
  finishReg s rd (s.y.setWidth 64)

/-- RDCCR (44_window_and_state.md R1062). -/
def execRdccr (rd : RegNum) (s : State) : Outcome :=
  finishReg s rd (s.ccr.setWidth 64)

/-- RDASI (44_window_and_state.md R1063). -/
def execRdasi (rd : RegNum) (s : State) : Outcome :=
  finishReg s rd (s.asi.setWidth 64)

/-- RDTICK (44_window_and_state.md R1064). Privileged software can always read TICK (10_state.md R99). -/
def execRdtick (rd : RegNum) (s : State) : Outcome :=
  readCounter s rd s.tick (counterDenied Config.stickPrivAccessDisabled s s.tick)

/-- RDPC (44_window_and_state.md R1065). -/
def execRdpc (rd : RegNum) (s : State) : Outcome :=
  finishReg s rd (amMask s s.pc)

/-- RDFPRS (44_window_and_state.md R1066). -/
def execRdfprs (rd : RegNum) (s : State) : Outcome :=
  finishReg s rd (s.fprs.setWidth 64)

/-- RDGSR (44_window_and_state.md R1067). -/
def execRdgsr (rd : RegNum) (s : State) : Outcome :=
  requireFpu s (finishReg s rd s.gsr)

/-- RDSOFTINT (44_window_and_state.md R1068). -/
def execRdsoftint (rd : RegNum) (s : State) : Outcome :=
  readPriv s rd (s.softint.setWidth 64)

/-- RDTICK_CMPR (44_window_and_state.md R1069). -/
def execRdtickCmpr (rd : RegNum) (s : State) : Outcome :=
  readPriv s rd s.tickCmpr

/-- RDSTICK (44_window_and_state.md R1070). -/
def execRdstick (rd : RegNum) (s : State) : Outcome :=
  readCounter s rd s.stick (stickDenied Config.stickPrivAccessDisabled s)

/-- RDSTICK_CMPR (44_window_and_state.md R1071). -/
def execRdstickCmpr (rd : RegNum) (s : State) : Outcome :=
  readPriv s rd s.stickCmpr

/-- WRY (44_window_and_state.md R1076). -/
def execWry (rs1 : RegNum) (op2 : RegOrImm 13) (s : State) : Outcome :=
  .next (advance { s with y := (writeValue s rs1 op2).setWidth 32 })

/-- WRCCR (44_window_and_state.md R1077). -/
def execWrccr (rs1 : RegNum) (op2 : RegOrImm 13) (s : State) : Outcome :=
  .next (advance { s with ccr := (writeValue s rs1 op2).setWidth 8 })

/-- WRASI (44_window_and_state.md R1078). -/
def execWrasi (rs1 : RegNum) (op2 : RegOrImm 13) (s : State) : Outcome :=
  .next (advance { s with asi := (writeValue s rs1 op2).setWidth 8 })

/-- WRFPRS (44_window_and_state.md R1079). -/
def execWrfprs (rs1 : RegNum) (op2 : RegOrImm 13) (s : State) : Outcome :=
  .next (advance { s with fprs := (writeValue s rs1 op2).setWidth 3 })

/-- WRGSR (44_window_and_state.md R1080). -/
def execWrgsr (rs1 : RegNum) (op2 : RegOrImm 13) (s : State) : Outcome :=
  requireFpu s (.next (advance { s with gsr := (writeValue s rs1 op2) &&& gsrMask }))

/-- WRSOFTINT_SET (44_window_and_state.md R1081). -/
def execWrsoftintSet (rs1 : RegNum) (op2 : RegOrImm 13) (s : State) : Outcome :=
  writePriv s { s with softint := s.softint ||| (writeValue s rs1 op2).setWidth 17 }

/-- WRSOFTINT_CLR (44_window_and_state.md R1082). -/
def execWrsoftintClr (rs1 : RegNum) (op2 : RegOrImm 13) (s : State) : Outcome :=
  writePriv s { s with softint := s.softint &&& ~~~((writeValue s rs1 op2).setWidth 17) }

/-- WRSOFTINT (44_window_and_state.md R1083). -/
def execWrsoftint (rs1 : RegNum) (op2 : RegOrImm 13) (s : State) : Outcome :=
  writePriv s { s with softint := (writeValue s rs1 op2).setWidth 17 }

/-- WRTICK_CMPR (44_window_and_state.md R1084). -/
def execWrtickCmpr (rs1 : RegNum) (op2 : RegOrImm 13) (s : State) : Outcome :=
  writePriv s { s with tickCmpr := (writeValue s rs1 op2) }

/-- WRSTICK_CMPR (44_window_and_state.md R1085). -/
def execWrstickCmpr (rs1 : RegNum) (op2 : RegOrImm 13) (s : State) : Outcome :=
  writePriv s { s with stickCmpr := (writeValue s rs1 op2) }

/-- RDPR_TPC (44_window_and_state.md R1091). -/
def execRdprTpc (rd : RegNum) (s : State) : Outcome :=
  readTrapLevel s rd (fun f => f.tpc ++ 0#2)

/-- RDPR_TNPC (44_window_and_state.md R1092). -/
def execRdprTnpc (rd : RegNum) (s : State) : Outcome :=
  readTrapLevel s rd (fun f => f.tnpc ++ 0#2)

/-- RDPR_TSTATE (44_window_and_state.md R1093). -/
def execRdprTstate (rd : RegNum) (s : State) : Outcome :=
  readTrapLevel s rd (·.tstate)

/-- RDPR_TT (44_window_and_state.md R1094). -/
def execRdprTt (rd : RegNum) (s : State) : Outcome :=
  readTrapLevel s rd (·.tt.setWidth 64)

/-- RDPR_TICK (44_window_and_state.md R1095). -/
def execRdprTick (rd : RegNum) (s : State) : Outcome :=
  readPriv s rd s.tick

/-- RDPR_TBA (44_window_and_state.md R1096). -/
def execRdprTba (rd : RegNum) (s : State) : Outcome :=
  readPriv s rd (s.tba ++ 0#15)

/-- RDPR_PSTATE (44_window_and_state.md R1097). -/
def execRdprPstate (rd : RegNum) (s : State) : Outcome :=
  readPriv s rd (s.pstate.setWidth 64)

/-- RDPR_TL (44_window_and_state.md R1098). -/
def execRdprTl (rd : RegNum) (s : State) : Outcome :=
  readPriv s rd (BitVec.ofNat 64 s.tl.val)

/-- RDPR_PIL (44_window_and_state.md R1099). -/
def execRdprPil (rd : RegNum) (s : State) : Outcome :=
  readPriv s rd (s.pil.setWidth 64)

/-- RDPR_CWP (44_window_and_state.md R1100). -/
def execRdprCwp (rd : RegNum) (s : State) : Outcome :=
  readPriv s rd (s.cwp.setWidth 64)

/-- RDPR_CANSAVE (44_window_and_state.md R1101). -/
def execRdprCansave (rd : RegNum) (s : State) : Outcome :=
  readPriv s rd (s.cansave.setWidth 64)

/-- RDPR_CANRESTORE (44_window_and_state.md R1102). -/
def execRdprCanrestore (rd : RegNum) (s : State) : Outcome :=
  readPriv s rd (s.canrestore.setWidth 64)

/-- RDPR_CLEANWIN (44_window_and_state.md R1103). -/
def execRdprCleanwin (rd : RegNum) (s : State) : Outcome :=
  readPriv s rd (s.cleanwin.setWidth 64)

/-- RDPR_OTHERWIN (44_window_and_state.md R1104). -/
def execRdprOtherwin (rd : RegNum) (s : State) : Outcome :=
  readPriv s rd (s.otherwin.setWidth 64)

/-- RDPR_WSTATE (44_window_and_state.md R1105). -/
def execRdprWstate (rd : RegNum) (s : State) : Outcome :=
  readPriv s rd (s.wstate.setWidth 64)

/-- RDPR_GL (44_window_and_state.md R1106). -/
def execRdprGl (rd : RegNum) (s : State) : Outcome :=
  readPriv s rd (BitVec.ofNat 64 s.gl.val)

/-- WRPR_TPC (44_window_and_state.md R1111). -/
def execWrprTpc (rs1 : RegNum) (op2 : RegOrImm 13) (s : State) : Outcome :=
  writeTrapLevel s (fun f => { f with tpc := (writeValue s rs1 op2).extractLsb' 2 62 })

/-- WRPR_TNPC (44_window_and_state.md R1112). -/
def execWrprTnpc (rs1 : RegNum) (op2 : RegOrImm 13) (s : State) : Outcome :=
  writeTrapLevel s (fun f => { f with tnpc := (writeValue s rs1 op2).extractLsb' 2 62 })

/-- WRPR_TSTATE (44_window_and_state.md R1113). -/
def execWrprTstate (rs1 : RegNum) (op2 : RegOrImm 13) (s : State) : Outcome :=
  writeTrapLevel s (fun f => { f with tstate := (writeValue s rs1 op2) &&& tstateMask })

/-- WRPR_TT (44_window_and_state.md R1114). -/
def execWrprTt (rs1 : RegNum) (op2 : RegOrImm 13) (s : State) : Outcome :=
  writeTrapLevel s (fun f => { f with tt := (writeValue s rs1 op2).setWidth 9 })

/-- WRPR_TBA (44_window_and_state.md R1115). -/
def execWrprTba (rs1 : RegNum) (op2 : RegOrImm 13) (s : State) : Outcome :=
  writePriv s { s with tba := (writeValue s rs1 op2).extractLsb' 15 49 }

/-- WRPR_PSTATE (44_window_and_state.md R1116). -/
def execWrprPstate (rs1 : RegNum) (op2 : RegOrImm 13) (s : State) : Outcome :=
  writePriv s { s with pstate := (writeValue s rs1 op2).setWidth 13 &&& pstateMask }

/-- WRPR_TL (44_window_and_state.md R1117). -/
def execWrprTl (rs1 : RegNum) (op2 : RegOrImm 13) (s : State) : Outcome :=
  writePriv s { s with tl := saturateLevel ((writeValue s rs1 op2).setWidth 3) }

/-- WRPR_PIL (44_window_and_state.md R1118). -/
def execWrprPil (rs1 : RegNum) (op2 : RegOrImm 13) (s : State) : Outcome :=
  writePriv s { s with pil := (writeValue s rs1 op2).setWidth 4 }

/-- WRPR_CWP (44_window_and_state.md R1119). -/
def execWrprCwp (rs1 : RegNum) (op2 : RegOrImm 13) (s : State) : Outcome :=
  writePriv s { s with cwp := (writeValue s rs1 op2).setWidth 3 }

/-- WRPR_CANSAVE (44_window_and_state.md R1120). -/
def execWrprCansave (rs1 : RegNum) (op2 : RegOrImm 13) (s : State) : Outcome :=
  writePriv s { s with cansave := (writeValue s rs1 op2).setWidth 3 }

/-- WRPR_CANRESTORE (44_window_and_state.md R1121). -/
def execWrprCanrestore (rs1 : RegNum) (op2 : RegOrImm 13) (s : State) : Outcome :=
  writePriv s { s with canrestore := (writeValue s rs1 op2).setWidth 3 }

/-- WRPR_CLEANWIN (44_window_and_state.md R1122). -/
def execWrprCleanwin (rs1 : RegNum) (op2 : RegOrImm 13) (s : State) : Outcome :=
  writePriv s { s with cleanwin := (writeValue s rs1 op2).setWidth 3 }

/-- WRPR_OTHERWIN (44_window_and_state.md R1123). -/
def execWrprOtherwin (rs1 : RegNum) (op2 : RegOrImm 13) (s : State) : Outcome :=
  writePriv s { s with otherwin := (writeValue s rs1 op2).setWidth 3 }

/-- WRPR_WSTATE (44_window_and_state.md R1124). -/
def execWrprWstate (rs1 : RegNum) (op2 : RegOrImm 13) (s : State) : Outcome :=
  writePriv s { s with wstate := (writeValue s rs1 op2).setWidth 6 }

/-- WRPR_GL (44_window_and_state.md R1125). -/
def execWrprGl (rs1 : RegNum) (op2 : RegOrImm 13) (s : State) : Outcome :=
  writePriv s { s with gl := saturateLevel ((writeValue s rs1 op2).setWidth 3) }

end Sys2Proof.Machine
end

