-- ==== Sys2Proof/Machine/Dispatch.lean ====
section
/-! DEFINITION. The meaning of every instruction. -/

namespace Sys2Proof.Machine

/-- What an instruction does in a state. -/
def exec (i : Instr) (s : State) : Host.Outcome State Fault Refusal :=
  match i with
  | .add rd rs1 op2 => Sys2Proof.Machine.execAdd rd rs1 op2 s
  | .and rd rs1 op2 => Sys2Proof.Machine.execAnd rd rs1 op2 s
  | .or rd rs1 op2 => Sys2Proof.Machine.execOr rd rs1 op2 s
  | .xor rd rs1 op2 => Sys2Proof.Machine.execXor rd rs1 op2 s
  | .sub rd rs1 op2 => Sys2Proof.Machine.execSub rd rs1 op2 s
  | .andn rd rs1 op2 => Sys2Proof.Machine.execAndn rd rs1 op2 s
  | .orn rd rs1 op2 => Sys2Proof.Machine.execOrn rd rs1 op2 s
  | .xnor rd rs1 op2 => Sys2Proof.Machine.execXnor rd rs1 op2 s
  | .addc rd rs1 op2 => Sys2Proof.Machine.execAddc rd rs1 op2 s
  | .mulx rd rs1 op2 => Sys2Proof.Machine.execMulx rd rs1 op2 s
  | .umul rd rs1 op2 => Sys2Proof.Machine.execUmul rd rs1 op2 s
  | .smul rd rs1 op2 => Sys2Proof.Machine.execSmul rd rs1 op2 s
  | .subc rd rs1 op2 => Sys2Proof.Machine.execSubc rd rs1 op2 s
  | .udivx rd rs1 op2 => Sys2Proof.Machine.execUdivx rd rs1 op2 s
  | .udiv rd rs1 op2 => Sys2Proof.Machine.execUdiv rd rs1 op2 s
  | .sdiv rd rs1 op2 => Sys2Proof.Machine.execSdiv rd rs1 op2 s
  | .addcc rd rs1 op2 => Sys2Proof.Machine.execAddcc rd rs1 op2 s
  | .andcc rd rs1 op2 => Sys2Proof.Machine.execAndcc rd rs1 op2 s
  | .orcc rd rs1 op2 => Sys2Proof.Machine.execOrcc rd rs1 op2 s
  | .xorcc rd rs1 op2 => Sys2Proof.Machine.execXorcc rd rs1 op2 s
  | .subcc rd rs1 op2 => Sys2Proof.Machine.execSubcc rd rs1 op2 s
  | .andncc rd rs1 op2 => Sys2Proof.Machine.execAndncc rd rs1 op2 s
  | .orncc rd rs1 op2 => Sys2Proof.Machine.execOrncc rd rs1 op2 s
  | .xnorcc rd rs1 op2 => Sys2Proof.Machine.execXnorcc rd rs1 op2 s
  | .addccc rd rs1 op2 => Sys2Proof.Machine.execAddccc rd rs1 op2 s
  | .umulcc rd rs1 op2 => Sys2Proof.Machine.execUmulcc rd rs1 op2 s
  | .smulcc rd rs1 op2 => Sys2Proof.Machine.execSmulcc rd rs1 op2 s
  | .subccc rd rs1 op2 => Sys2Proof.Machine.execSubccc rd rs1 op2 s
  | .udivcc rd rs1 op2 => Sys2Proof.Machine.execUdivcc rd rs1 op2 s
  | .sdivcc rd rs1 op2 => Sys2Proof.Machine.execSdivcc rd rs1 op2 s
  | .taddcc rd rs1 op2 => Sys2Proof.Machine.execTaddcc rd rs1 op2 s
  | .tsubcc rd rs1 op2 => Sys2Proof.Machine.execTsubcc rd rs1 op2 s
  | .taddcctv rd rs1 op2 => Sys2Proof.Machine.execTaddcctv rd rs1 op2 s
  | .tsubcctv rd rs1 op2 => Sys2Proof.Machine.execTsubcctv rd rs1 op2 s
  | .mulscc rd rs1 op2 => Sys2Proof.Machine.execMulscc rd rs1 op2 s
  | .sdivx rd rs1 op2 => Sys2Proof.Machine.execSdivx rd rs1 op2 s
  | .sll rd rs1 count => Sys2Proof.Machine.execSll rd rs1 count s
  | .srl rd rs1 count => Sys2Proof.Machine.execSrl rd rs1 count s
  | .sra rd rs1 count => Sys2Proof.Machine.execSra rd rs1 count s
  | .sllx rd rs1 count => Sys2Proof.Machine.execSllx rd rs1 count s
  | .srlx rd rs1 count => Sys2Proof.Machine.execSrlx rd rs1 count s
  | .srax rd rs1 count => Sys2Proof.Machine.execSrax rd rs1 count s
  | .sethi rd imm22 => Sys2Proof.Machine.execSethi rd imm22 s
  | .nop => Sys2Proof.Machine.execNop s
  | .popc rd op2 => Sys2Proof.Machine.execPopc rd op2 s
  | .mova rd cc op2 => Sys2Proof.Machine.execMova rd cc op2 s
  | .movn rd cc op2 => Sys2Proof.Machine.execMovn rd cc op2 s
  | .movne rd cc op2 => Sys2Proof.Machine.execMovne rd cc op2 s
  | .move rd cc op2 => Sys2Proof.Machine.execMove rd cc op2 s
  | .movg rd cc op2 => Sys2Proof.Machine.execMovg rd cc op2 s
  | .movle rd cc op2 => Sys2Proof.Machine.execMovle rd cc op2 s
  | .movge rd cc op2 => Sys2Proof.Machine.execMovge rd cc op2 s
  | .movl rd cc op2 => Sys2Proof.Machine.execMovl rd cc op2 s
  | .movgu rd cc op2 => Sys2Proof.Machine.execMovgu rd cc op2 s
  | .movleu rd cc op2 => Sys2Proof.Machine.execMovleu rd cc op2 s
  | .movcc rd cc op2 => Sys2Proof.Machine.execMovcc rd cc op2 s
  | .movcs rd cc op2 => Sys2Proof.Machine.execMovcs rd cc op2 s
  | .movpos rd cc op2 => Sys2Proof.Machine.execMovpos rd cc op2 s
  | .movneg rd cc op2 => Sys2Proof.Machine.execMovneg rd cc op2 s
  | .movvc rd cc op2 => Sys2Proof.Machine.execMovvc rd cc op2 s
  | .movvs rd cc op2 => Sys2Proof.Machine.execMovvs rd cc op2 s
  | .movfa rd fcc op2 => Sys2Proof.Machine.execMovfa rd fcc op2 s
  | .movfn rd fcc op2 => Sys2Proof.Machine.execMovfn rd fcc op2 s
  | .movfu rd fcc op2 => Sys2Proof.Machine.execMovfu rd fcc op2 s
  | .movfg rd fcc op2 => Sys2Proof.Machine.execMovfg rd fcc op2 s
  | .movfug rd fcc op2 => Sys2Proof.Machine.execMovfug rd fcc op2 s
  | .movfl rd fcc op2 => Sys2Proof.Machine.execMovfl rd fcc op2 s
  | .movful rd fcc op2 => Sys2Proof.Machine.execMovful rd fcc op2 s
  | .movflg rd fcc op2 => Sys2Proof.Machine.execMovflg rd fcc op2 s
  | .movfne rd fcc op2 => Sys2Proof.Machine.execMovfne rd fcc op2 s
  | .movfe rd fcc op2 => Sys2Proof.Machine.execMovfe rd fcc op2 s
  | .movfue rd fcc op2 => Sys2Proof.Machine.execMovfue rd fcc op2 s
  | .movfge rd fcc op2 => Sys2Proof.Machine.execMovfge rd fcc op2 s
  | .movfuge rd fcc op2 => Sys2Proof.Machine.execMovfuge rd fcc op2 s
  | .movfle rd fcc op2 => Sys2Proof.Machine.execMovfle rd fcc op2 s
  | .movfule rd fcc op2 => Sys2Proof.Machine.execMovfule rd fcc op2 s
  | .movfo rd fcc op2 => Sys2Proof.Machine.execMovfo rd fcc op2 s
  | .movrz rd rs1 op2 => Sys2Proof.Machine.execMovrz rd rs1 op2 s
  | .movrlez rd rs1 op2 => Sys2Proof.Machine.execMovrlez rd rs1 op2 s
  | .movrlz rd rs1 op2 => Sys2Proof.Machine.execMovrlz rd rs1 op2 s
  | .movrnz rd rs1 op2 => Sys2Proof.Machine.execMovrnz rd rs1 op2 s
  | .movrgz rd rs1 op2 => Sys2Proof.Machine.execMovrgz rd rs1 op2 s
  | .movrgez rd rs1 op2 => Sys2Proof.Machine.execMovrgez rd rs1 op2 s
  | .ba a disp22 => Sys2Proof.Machine.execBa a disp22 s
  | .bn a disp22 => Sys2Proof.Machine.execBn a disp22 s
  | .bne a disp22 => Sys2Proof.Machine.execBne a disp22 s
  | .be a disp22 => Sys2Proof.Machine.execBe a disp22 s
  | .bg a disp22 => Sys2Proof.Machine.execBg a disp22 s
  | .ble a disp22 => Sys2Proof.Machine.execBle a disp22 s
  | .bge a disp22 => Sys2Proof.Machine.execBge a disp22 s
  | .bl a disp22 => Sys2Proof.Machine.execBl a disp22 s
  | .bgu a disp22 => Sys2Proof.Machine.execBgu a disp22 s
  | .bleu a disp22 => Sys2Proof.Machine.execBleu a disp22 s
  | .bcc a disp22 => Sys2Proof.Machine.execBcc a disp22 s
  | .bcs a disp22 => Sys2Proof.Machine.execBcs a disp22 s
  | .bpos a disp22 => Sys2Proof.Machine.execBpos a disp22 s
  | .bneg a disp22 => Sys2Proof.Machine.execBneg a disp22 s
  | .bvc a disp22 => Sys2Proof.Machine.execBvc a disp22 s
  | .bvs a disp22 => Sys2Proof.Machine.execBvs a disp22 s
  | .bpa a cc p disp19 => Sys2Proof.Machine.execBpa a cc p disp19 s
  | .bpn a cc p disp19 => Sys2Proof.Machine.execBpn a cc p disp19 s
  | .bpne a cc p disp19 => Sys2Proof.Machine.execBpne a cc p disp19 s
  | .bpe a cc p disp19 => Sys2Proof.Machine.execBpe a cc p disp19 s
  | .bpg a cc p disp19 => Sys2Proof.Machine.execBpg a cc p disp19 s
  | .bple a cc p disp19 => Sys2Proof.Machine.execBple a cc p disp19 s
  | .bpge a cc p disp19 => Sys2Proof.Machine.execBpge a cc p disp19 s
  | .bpl a cc p disp19 => Sys2Proof.Machine.execBpl a cc p disp19 s
  | .bpgu a cc p disp19 => Sys2Proof.Machine.execBpgu a cc p disp19 s
  | .bpleu a cc p disp19 => Sys2Proof.Machine.execBpleu a cc p disp19 s
  | .bpcc a cc p disp19 => Sys2Proof.Machine.execBpcc a cc p disp19 s
  | .bpcs a cc p disp19 => Sys2Proof.Machine.execBpcs a cc p disp19 s
  | .bppos a cc p disp19 => Sys2Proof.Machine.execBppos a cc p disp19 s
  | .bpneg a cc p disp19 => Sys2Proof.Machine.execBpneg a cc p disp19 s
  | .bpvc a cc p disp19 => Sys2Proof.Machine.execBpvc a cc p disp19 s
  | .bpvs a cc p disp19 => Sys2Proof.Machine.execBpvs a cc p disp19 s
  | .brz a d16 p rs1 => Sys2Proof.Machine.execBrz a d16 p rs1 s
  | .brlez a d16 p rs1 => Sys2Proof.Machine.execBrlez a d16 p rs1 s
  | .brlz a d16 p rs1 => Sys2Proof.Machine.execBrlz a d16 p rs1 s
  | .brnz a d16 p rs1 => Sys2Proof.Machine.execBrnz a d16 p rs1 s
  | .brgz a d16 p rs1 => Sys2Proof.Machine.execBrgz a d16 p rs1 s
  | .brgez a d16 p rs1 => Sys2Proof.Machine.execBrgez a d16 p rs1 s
  | .fba a disp22 => Sys2Proof.Machine.execFba a disp22 s
  | .fbn a disp22 => Sys2Proof.Machine.execFbn a disp22 s
  | .fbu a disp22 => Sys2Proof.Machine.execFbu a disp22 s
  | .fbg a disp22 => Sys2Proof.Machine.execFbg a disp22 s
  | .fbug a disp22 => Sys2Proof.Machine.execFbug a disp22 s
  | .fbl a disp22 => Sys2Proof.Machine.execFbl a disp22 s
  | .fbul a disp22 => Sys2Proof.Machine.execFbul a disp22 s
  | .fblg a disp22 => Sys2Proof.Machine.execFblg a disp22 s
  | .fbne a disp22 => Sys2Proof.Machine.execFbne a disp22 s
  | .fbe a disp22 => Sys2Proof.Machine.execFbe a disp22 s
  | .fbue a disp22 => Sys2Proof.Machine.execFbue a disp22 s
  | .fbge a disp22 => Sys2Proof.Machine.execFbge a disp22 s
  | .fbuge a disp22 => Sys2Proof.Machine.execFbuge a disp22 s
  | .fble a disp22 => Sys2Proof.Machine.execFble a disp22 s
  | .fbule a disp22 => Sys2Proof.Machine.execFbule a disp22 s
  | .fbo a disp22 => Sys2Proof.Machine.execFbo a disp22 s
  | .fbpa a fcc p disp19 => Sys2Proof.Machine.execFbpa a fcc p disp19 s
  | .fbpn a fcc p disp19 => Sys2Proof.Machine.execFbpn a fcc p disp19 s
  | .fbpu a fcc p disp19 => Sys2Proof.Machine.execFbpu a fcc p disp19 s
  | .fbpg a fcc p disp19 => Sys2Proof.Machine.execFbpg a fcc p disp19 s
  | .fbpug a fcc p disp19 => Sys2Proof.Machine.execFbpug a fcc p disp19 s
  | .fbpl a fcc p disp19 => Sys2Proof.Machine.execFbpl a fcc p disp19 s
  | .fbpul a fcc p disp19 => Sys2Proof.Machine.execFbpul a fcc p disp19 s
  | .fbplg a fcc p disp19 => Sys2Proof.Machine.execFbplg a fcc p disp19 s
  | .fbpne a fcc p disp19 => Sys2Proof.Machine.execFbpne a fcc p disp19 s
  | .fbpe a fcc p disp19 => Sys2Proof.Machine.execFbpe a fcc p disp19 s
  | .fbpue a fcc p disp19 => Sys2Proof.Machine.execFbpue a fcc p disp19 s
  | .fbpge a fcc p disp19 => Sys2Proof.Machine.execFbpge a fcc p disp19 s
  | .fbpuge a fcc p disp19 => Sys2Proof.Machine.execFbpuge a fcc p disp19 s
  | .fbple a fcc p disp19 => Sys2Proof.Machine.execFbple a fcc p disp19 s
  | .fbpule a fcc p disp19 => Sys2Proof.Machine.execFbpule a fcc p disp19 s
  | .fbpo a fcc p disp19 => Sys2Proof.Machine.execFbpo a fcc p disp19 s
  | .call disp30 => Sys2Proof.Machine.execCall disp30 s
  | .jmpl rd rs1 op2 => Sys2Proof.Machine.execJmpl rd rs1 op2 s
  | .return_ rs1 op2 => Sys2Proof.Machine.execReturn rs1 op2 s
  | .ta rs1 cc num => Sys2Proof.Machine.execTa rs1 cc num s
  | .tn rs1 cc num => Sys2Proof.Machine.execTn rs1 cc num s
  | .tne rs1 cc num => Sys2Proof.Machine.execTne rs1 cc num s
  | .te rs1 cc num => Sys2Proof.Machine.execTe rs1 cc num s
  | .tg rs1 cc num => Sys2Proof.Machine.execTg rs1 cc num s
  | .tle rs1 cc num => Sys2Proof.Machine.execTle rs1 cc num s
  | .tge rs1 cc num => Sys2Proof.Machine.execTge rs1 cc num s
  | .tl rs1 cc num => Sys2Proof.Machine.execTl rs1 cc num s
  | .tgu rs1 cc num => Sys2Proof.Machine.execTgu rs1 cc num s
  | .tleu rs1 cc num => Sys2Proof.Machine.execTleu rs1 cc num s
  | .tcc rs1 cc num => Sys2Proof.Machine.execTcc rs1 cc num s
  | .tcs rs1 cc num => Sys2Proof.Machine.execTcs rs1 cc num s
  | .tpos rs1 cc num => Sys2Proof.Machine.execTpos rs1 cc num s
  | .tneg rs1 cc num => Sys2Proof.Machine.execTneg rs1 cc num s
  | .tvc rs1 cc num => Sys2Proof.Machine.execTvc rs1 cc num s
  | .tvs rs1 cc num => Sys2Proof.Machine.execTvs rs1 cc num s
  | .done => Sys2Proof.Machine.execDone s
  | .retry => Sys2Proof.Machine.execRetry s
  | .illtrap ignored const22 => Sys2Proof.Machine.execIlltrap ignored const22 s
  | .lduw rd rs1 op2 => Sys2Proof.Machine.execLduw rd rs1 op2 s
  | .ldub rd rs1 op2 => Sys2Proof.Machine.execLdub rd rs1 op2 s
  | .lduh rd rs1 op2 => Sys2Proof.Machine.execLduh rd rs1 op2 s
  | .ldtw rd rs1 op2 => Sys2Proof.Machine.execLdtw rd rs1 op2 s
  | .stw rd rs1 op2 => Sys2Proof.Machine.execStw rd rs1 op2 s
  | .stb rd rs1 op2 => Sys2Proof.Machine.execStb rd rs1 op2 s
  | .sth rd rs1 op2 => Sys2Proof.Machine.execSth rd rs1 op2 s
  | .sttw rd rs1 op2 => Sys2Proof.Machine.execSttw rd rs1 op2 s
  | .ldsw rd rs1 op2 => Sys2Proof.Machine.execLdsw rd rs1 op2 s
  | .ldsb rd rs1 op2 => Sys2Proof.Machine.execLdsb rd rs1 op2 s
  | .ldsh rd rs1 op2 => Sys2Proof.Machine.execLdsh rd rs1 op2 s
  | .ldx rd rs1 op2 => Sys2Proof.Machine.execLdx rd rs1 op2 s
  | .ldstub rd rs1 op2 => Sys2Proof.Machine.execLdstub rd rs1 op2 s
  | .stx rd rs1 op2 => Sys2Proof.Machine.execStx rd rs1 op2 s
  | .swap rd rs1 op2 => Sys2Proof.Machine.execSwap rd rs1 op2 s
  | .lduwa rd rs1 src => Sys2Proof.Machine.execLduwa rd rs1 src s
  | .lduba rd rs1 src => Sys2Proof.Machine.execLduba rd rs1 src s
  | .lduha rd rs1 src => Sys2Proof.Machine.execLduha rd rs1 src s
  | .ldtwa rd rs1 src => Sys2Proof.Machine.execLdtwa rd rs1 src s
  | .stwa rd rs1 src => Sys2Proof.Machine.execStwa rd rs1 src s
  | .stba rd rs1 src => Sys2Proof.Machine.execStba rd rs1 src s
  | .stha rd rs1 src => Sys2Proof.Machine.execStha rd rs1 src s
  | .sttwa rd rs1 src => Sys2Proof.Machine.execSttwa rd rs1 src s
  | .ldswa rd rs1 src => Sys2Proof.Machine.execLdswa rd rs1 src s
  | .ldsba rd rs1 src => Sys2Proof.Machine.execLdsba rd rs1 src s
  | .ldsha rd rs1 src => Sys2Proof.Machine.execLdsha rd rs1 src s
  | .ldxa rd rs1 src => Sys2Proof.Machine.execLdxa rd rs1 src s
  | .ldstuba rd rs1 src => Sys2Proof.Machine.execLdstuba rd rs1 src s
  | .stxa rd rs1 src => Sys2Proof.Machine.execStxa rd rs1 src s
  | .swapa rd rs1 src => Sys2Proof.Machine.execSwapa rd rs1 src s
  | .ldtxa rd rs1 rs2 immAsi => Sys2Proof.Machine.execLdtxa rd rs1 rs2 immAsi s
  | .casa rd rs1 rs2 src => Sys2Proof.Machine.execCasa rd rs1 rs2 src s
  | .casxa rd rs1 rs2 src => Sys2Proof.Machine.execCasxa rd rs1 rs2 src s
  | .prefetch fcn rs1 op2 => Sys2Proof.Machine.execPrefetch fcn rs1 op2 s
  | .prefetcha fcn rs1 src => Sys2Proof.Machine.execPrefetcha fcn rs1 src s
  | .membar cmask mmask => Sys2Proof.Machine.execMembar cmask mmask s
  | .flush rs1 op2 => Sys2Proof.Machine.execFlush rs1 op2 s
  | .ldf rd rs1 op2 => Sys2Proof.Machine.execLdf rd rs1 op2 s
  | .ldqf rd rs1 op2 => Sys2Proof.Machine.execLdqf rd rs1 op2 s
  | .lddf rd rs1 op2 => Sys2Proof.Machine.execLddf rd rs1 op2 s
  | .stf rd rs1 op2 => Sys2Proof.Machine.execStf rd rs1 op2 s
  | .stqf rd rs1 op2 => Sys2Proof.Machine.execStqf rd rs1 op2 s
  | .stdf rd rs1 op2 => Sys2Proof.Machine.execStdf rd rs1 op2 s
  | .ldfsr rs1 op2 => Sys2Proof.Machine.execLdfsr rs1 op2 s
  | .ldxfsr rs1 op2 => Sys2Proof.Machine.execLdxfsr rs1 op2 s
  | .stfsr rs1 op2 => Sys2Proof.Machine.execStfsr rs1 op2 s
  | .stxfsr rs1 op2 => Sys2Proof.Machine.execStxfsr rs1 op2 s
  | .ldfa rd rs1 src => Sys2Proof.Machine.execLdfa rd rs1 src s
  | .ldqfa rd rs1 src => Sys2Proof.Machine.execLdqfa rd rs1 src s
  | .lddfa rd rs1 src => Sys2Proof.Machine.execLddfa rd rs1 src s
  | .stfa rd rs1 src => Sys2Proof.Machine.execStfa rd rs1 src s
  | .stqfa rd rs1 src => Sys2Proof.Machine.execStqfa rd rs1 src s
  | .stdfa rd rs1 src => Sys2Proof.Machine.execStdfa rd rs1 src s
  | .ldblockf rd rs1 rs2 immAsi => Sys2Proof.Machine.execLdblockf rd rs1 rs2 immAsi s
  | .ldshortf rd rs1 rs2 immAsi => Sys2Proof.Machine.execLdshortf rd rs1 rs2 immAsi s
  | .stblockf rd rs1 rs2 immAsi => Sys2Proof.Machine.execStblockf rd rs1 rs2 immAsi s
  | .stshortf rd rs1 rs2 immAsi => Sys2Proof.Machine.execStshortf rd rs1 rs2 immAsi s
  | .stpartialf rd rs1 rs2 immAsi => Sys2Proof.Machine.execStpartialf rd rs1 rs2 immAsi s
  | .save rd rs1 op2 => Sys2Proof.Machine.execSave rd rs1 op2 s
  | .restore rd rs1 op2 => Sys2Proof.Machine.execRestore rd rs1 op2 s
  | .saved => Sys2Proof.Machine.execSaved s
  | .restored => Sys2Proof.Machine.execRestored s
  | .allclean => Sys2Proof.Machine.execAllclean s
  | .otherw => Sys2Proof.Machine.execOtherw s
  | .normalw => Sys2Proof.Machine.execNormalw s
  | .invalw => Sys2Proof.Machine.execInvalw s
  | .flushw ibit => Sys2Proof.Machine.execFlushw ibit s
  | .rdy rd => Sys2Proof.Machine.execRdy rd s
  | .rdccr rd => Sys2Proof.Machine.execRdccr rd s
  | .rdasi rd => Sys2Proof.Machine.execRdasi rd s
  | .rdtick rd => Sys2Proof.Machine.execRdtick rd s
  | .rdpc rd => Sys2Proof.Machine.execRdpc rd s
  | .rdfprs rd => Sys2Proof.Machine.execRdfprs rd s
  | .rdgsr rd => Sys2Proof.Machine.execRdgsr rd s
  | .rdsoftint rd => Sys2Proof.Machine.execRdsoftint rd s
  | .rdtickCmpr rd => Sys2Proof.Machine.execRdtickCmpr rd s
  | .rdstick rd => Sys2Proof.Machine.execRdstick rd s
  | .rdstickCmpr rd => Sys2Proof.Machine.execRdstickCmpr rd s
  | .wry rs1 op2 => Sys2Proof.Machine.execWry rs1 op2 s
  | .wrccr rs1 op2 => Sys2Proof.Machine.execWrccr rs1 op2 s
  | .wrasi rs1 op2 => Sys2Proof.Machine.execWrasi rs1 op2 s
  | .wrfprs rs1 op2 => Sys2Proof.Machine.execWrfprs rs1 op2 s
  | .wrgsr rs1 op2 => Sys2Proof.Machine.execWrgsr rs1 op2 s
  | .wrsoftintSet rs1 op2 => Sys2Proof.Machine.execWrsoftintSet rs1 op2 s
  | .wrsoftintClr rs1 op2 => Sys2Proof.Machine.execWrsoftintClr rs1 op2 s
  | .wrsoftint rs1 op2 => Sys2Proof.Machine.execWrsoftint rs1 op2 s
  | .wrtickCmpr rs1 op2 => Sys2Proof.Machine.execWrtickCmpr rs1 op2 s
  | .wrstickCmpr rs1 op2 => Sys2Proof.Machine.execWrstickCmpr rs1 op2 s
  | .rdprTpc rd => Sys2Proof.Machine.execRdprTpc rd s
  | .rdprTnpc rd => Sys2Proof.Machine.execRdprTnpc rd s
  | .rdprTstate rd => Sys2Proof.Machine.execRdprTstate rd s
  | .rdprTt rd => Sys2Proof.Machine.execRdprTt rd s
  | .rdprTick rd => Sys2Proof.Machine.execRdprTick rd s
  | .rdprTba rd => Sys2Proof.Machine.execRdprTba rd s
  | .rdprPstate rd => Sys2Proof.Machine.execRdprPstate rd s
  | .rdprTl rd => Sys2Proof.Machine.execRdprTl rd s
  | .rdprPil rd => Sys2Proof.Machine.execRdprPil rd s
  | .rdprCwp rd => Sys2Proof.Machine.execRdprCwp rd s
  | .rdprCansave rd => Sys2Proof.Machine.execRdprCansave rd s
  | .rdprCanrestore rd => Sys2Proof.Machine.execRdprCanrestore rd s
  | .rdprCleanwin rd => Sys2Proof.Machine.execRdprCleanwin rd s
  | .rdprOtherwin rd => Sys2Proof.Machine.execRdprOtherwin rd s
  | .rdprWstate rd => Sys2Proof.Machine.execRdprWstate rd s
  | .rdprGl rd => Sys2Proof.Machine.execRdprGl rd s
  | .wrprTpc rs1 op2 => Sys2Proof.Machine.execWrprTpc rs1 op2 s
  | .wrprTnpc rs1 op2 => Sys2Proof.Machine.execWrprTnpc rs1 op2 s
  | .wrprTstate rs1 op2 => Sys2Proof.Machine.execWrprTstate rs1 op2 s
  | .wrprTt rs1 op2 => Sys2Proof.Machine.execWrprTt rs1 op2 s
  | .wrprTba rs1 op2 => Sys2Proof.Machine.execWrprTba rs1 op2 s
  | .wrprPstate rs1 op2 => Sys2Proof.Machine.execWrprPstate rs1 op2 s
  | .wrprTl rs1 op2 => Sys2Proof.Machine.execWrprTl rs1 op2 s
  | .wrprPil rs1 op2 => Sys2Proof.Machine.execWrprPil rs1 op2 s
  | .wrprCwp rs1 op2 => Sys2Proof.Machine.execWrprCwp rs1 op2 s
  | .wrprCansave rs1 op2 => Sys2Proof.Machine.execWrprCansave rs1 op2 s
  | .wrprCanrestore rs1 op2 => Sys2Proof.Machine.execWrprCanrestore rs1 op2 s
  | .wrprCleanwin rs1 op2 => Sys2Proof.Machine.execWrprCleanwin rs1 op2 s
  | .wrprOtherwin rs1 op2 => Sys2Proof.Machine.execWrprOtherwin rs1 op2 s
  | .wrprWstate rs1 op2 => Sys2Proof.Machine.execWrprWstate rs1 op2 s
  | .wrprGl rs1 op2 => Sys2Proof.Machine.execWrprGl rs1 op2 s
  | .fmovs rd rs2 => Sys2Proof.Machine.execFmovs rd rs2 s
  | .fmovd rd rs2 => Sys2Proof.Machine.execFmovd rd rs2 s
  | .fmovq rd rs2 => Sys2Proof.Machine.execFmovq rd rs2 s
  | .fnegs rd rs2 => Sys2Proof.Machine.execFnegs rd rs2 s
  | .fnegd rd rs2 => Sys2Proof.Machine.execFnegd rd rs2 s
  | .fnegq rd rs2 => Sys2Proof.Machine.execFnegq rd rs2 s
  | .fabss rd rs2 => Sys2Proof.Machine.execFabss rd rs2 s
  | .fabsd rd rs2 => Sys2Proof.Machine.execFabsd rd rs2 s
  | .fabsq rd rs2 => Sys2Proof.Machine.execFabsq rd rs2 s
  | .fsqrts rd rs2 => Sys2Proof.Machine.execFsqrts rd rs2 s
  | .fsqrtd rd rs2 => Sys2Proof.Machine.execFsqrtd rd rs2 s
  | .fsqrtq rd rs2 => Sys2Proof.Machine.execFsqrtq rd rs2 s
  | .fstox rd rs2 => Sys2Proof.Machine.execFstox rd rs2 s
  | .fdtox rd rs2 => Sys2Proof.Machine.execFdtox rd rs2 s
  | .fqtox rd rs2 => Sys2Proof.Machine.execFqtox rd rs2 s
  | .fxtos rd rs2 => Sys2Proof.Machine.execFxtos rd rs2 s
  | .fxtod rd rs2 => Sys2Proof.Machine.execFxtod rd rs2 s
  | .fxtoq rd rs2 => Sys2Proof.Machine.execFxtoq rd rs2 s
  | .fitos rd rs2 => Sys2Proof.Machine.execFitos rd rs2 s
  | .fdtos rd rs2 => Sys2Proof.Machine.execFdtos rd rs2 s
  | .fqtos rd rs2 => Sys2Proof.Machine.execFqtos rd rs2 s
  | .fitod rd rs2 => Sys2Proof.Machine.execFitod rd rs2 s
  | .fstod rd rs2 => Sys2Proof.Machine.execFstod rd rs2 s
  | .fqtod rd rs2 => Sys2Proof.Machine.execFqtod rd rs2 s
  | .fitoq rd rs2 => Sys2Proof.Machine.execFitoq rd rs2 s
  | .fstoq rd rs2 => Sys2Proof.Machine.execFstoq rd rs2 s
  | .fdtoq rd rs2 => Sys2Proof.Machine.execFdtoq rd rs2 s
  | .fstoi rd rs2 => Sys2Proof.Machine.execFstoi rd rs2 s
  | .fdtoi rd rs2 => Sys2Proof.Machine.execFdtoi rd rs2 s
  | .fqtoi rd rs2 => Sys2Proof.Machine.execFqtoi rd rs2 s
  | .fadds rd rs1 rs2 => Sys2Proof.Machine.execFadds rd rs1 rs2 s
  | .faddd rd rs1 rs2 => Sys2Proof.Machine.execFaddd rd rs1 rs2 s
  | .faddq rd rs1 rs2 => Sys2Proof.Machine.execFaddq rd rs1 rs2 s
  | .fsubs rd rs1 rs2 => Sys2Proof.Machine.execFsubs rd rs1 rs2 s
  | .fsubd rd rs1 rs2 => Sys2Proof.Machine.execFsubd rd rs1 rs2 s
  | .fsubq rd rs1 rs2 => Sys2Proof.Machine.execFsubq rd rs1 rs2 s
  | .fmuls rd rs1 rs2 => Sys2Proof.Machine.execFmuls rd rs1 rs2 s
  | .fmuld rd rs1 rs2 => Sys2Proof.Machine.execFmuld rd rs1 rs2 s
  | .fmulq rd rs1 rs2 => Sys2Proof.Machine.execFmulq rd rs1 rs2 s
  | .fdivs rd rs1 rs2 => Sys2Proof.Machine.execFdivs rd rs1 rs2 s
  | .fdivd rd rs1 rs2 => Sys2Proof.Machine.execFdivd rd rs1 rs2 s
  | .fdivq rd rs1 rs2 => Sys2Proof.Machine.execFdivq rd rs1 rs2 s
  | .fsmuld rd rs1 rs2 => Sys2Proof.Machine.execFsmuld rd rs1 rs2 s
  | .fdmulq rd rs1 rs2 => Sys2Proof.Machine.execFdmulq rd rs1 rs2 s
  | .fcmps fcc rs1 rs2 => Sys2Proof.Machine.execFcmps fcc rs1 rs2 s
  | .fcmpd fcc rs1 rs2 => Sys2Proof.Machine.execFcmpd fcc rs1 rs2 s
  | .fcmpq fcc rs1 rs2 => Sys2Proof.Machine.execFcmpq fcc rs1 rs2 s
  | .fcmpes fcc rs1 rs2 => Sys2Proof.Machine.execFcmpes fcc rs1 rs2 s
  | .fcmped fcc rs1 rs2 => Sys2Proof.Machine.execFcmped fcc rs1 rs2 s
  | .fcmpeq fcc rs1 rs2 => Sys2Proof.Machine.execFcmpeq fcc rs1 rs2 s
  | .fmovsicc rd cond rs2 => Sys2Proof.Machine.execFmovsicc rd cond rs2 s
  | .fmovsxcc rd cond rs2 => Sys2Proof.Machine.execFmovsxcc rd cond rs2 s
  | .fmovsfcc rd fcc cond rs2 => Sys2Proof.Machine.execFmovsfcc rd fcc cond rs2 s
  | .fmovdicc rd cond rs2 => Sys2Proof.Machine.execFmovdicc rd cond rs2 s
  | .fmovdxcc rd cond rs2 => Sys2Proof.Machine.execFmovdxcc rd cond rs2 s
  | .fmovdfcc rd fcc cond rs2 => Sys2Proof.Machine.execFmovdfcc rd fcc cond rs2 s
  | .fmovqicc rd cond rs2 => Sys2Proof.Machine.execFmovqicc rd cond rs2 s
  | .fmovqxcc rd cond rs2 => Sys2Proof.Machine.execFmovqxcc rd cond rs2 s
  | .fmovqfcc rd fcc cond rs2 => Sys2Proof.Machine.execFmovqfcc rd fcc cond rs2 s
  | .fmovrsz rd rs1 rs2 => Sys2Proof.Machine.execFmovrsz rd rs1 rs2 s
  | .fmovrslez rd rs1 rs2 => Sys2Proof.Machine.execFmovrslez rd rs1 rs2 s
  | .fmovrslz rd rs1 rs2 => Sys2Proof.Machine.execFmovrslz rd rs1 rs2 s
  | .fmovrsnz rd rs1 rs2 => Sys2Proof.Machine.execFmovrsnz rd rs1 rs2 s
  | .fmovrsgz rd rs1 rs2 => Sys2Proof.Machine.execFmovrsgz rd rs1 rs2 s
  | .fmovrsgez rd rs1 rs2 => Sys2Proof.Machine.execFmovrsgez rd rs1 rs2 s
  | .fmovrdz rd rs1 rs2 => Sys2Proof.Machine.execFmovrdz rd rs1 rs2 s
  | .fmovrdlez rd rs1 rs2 => Sys2Proof.Machine.execFmovrdlez rd rs1 rs2 s
  | .fmovrdlz rd rs1 rs2 => Sys2Proof.Machine.execFmovrdlz rd rs1 rs2 s
  | .fmovrdnz rd rs1 rs2 => Sys2Proof.Machine.execFmovrdnz rd rs1 rs2 s
  | .fmovrdgz rd rs1 rs2 => Sys2Proof.Machine.execFmovrdgz rd rs1 rs2 s
  | .fmovrdgez rd rs1 rs2 => Sys2Proof.Machine.execFmovrdgez rd rs1 rs2 s
  | .fmovrqz rd rs1 rs2 => Sys2Proof.Machine.execFmovrqz rd rs1 rs2 s
  | .fmovrqlez rd rs1 rs2 => Sys2Proof.Machine.execFmovrqlez rd rs1 rs2 s
  | .fmovrqlz rd rs1 rs2 => Sys2Proof.Machine.execFmovrqlz rd rs1 rs2 s
  | .fmovrqnz rd rs1 rs2 => Sys2Proof.Machine.execFmovrqnz rd rs1 rs2 s
  | .fmovrqgz rd rs1 rs2 => Sys2Proof.Machine.execFmovrqgz rd rs1 rs2 s
  | .fmovrqgez rd rs1 rs2 => Sys2Proof.Machine.execFmovrqgez rd rs1 rs2 s
  | .fmadds rd rs1 rs3 rs2 => Sys2Proof.Machine.execFmadds rd rs1 rs3 rs2 s
  | .fmaddd rd rs1 rs3 rs2 => Sys2Proof.Machine.execFmaddd rd rs1 rs3 rs2 s
  | .fmsubs rd rs1 rs3 rs2 => Sys2Proof.Machine.execFmsubs rd rs1 rs3 rs2 s
  | .fmsubd rd rs1 rs3 rs2 => Sys2Proof.Machine.execFmsubd rd rs1 rs3 rs2 s
  | .fnmsubs rd rs1 rs3 rs2 => Sys2Proof.Machine.execFnmsubs rd rs1 rs3 rs2 s
  | .fnmsubd rd rs1 rs3 rs2 => Sys2Proof.Machine.execFnmsubd rd rs1 rs3 rs2 s
  | .fnmadds rd rs1 rs3 rs2 => Sys2Proof.Machine.execFnmadds rd rs1 rs3 rs2 s
  | .fnmaddd rd rs1 rs3 rs2 => Sys2Proof.Machine.execFnmaddd rd rs1 rs3 rs2 s
  | .edge8cc rd rs1 rs2 => Sys2Proof.Machine.execEdge8cc rd rs1 rs2 s
  | .edge8n rd rs1 rs2 => Sys2Proof.Machine.execEdge8n rd rs1 rs2 s
  | .edge8lcc rd rs1 rs2 => Sys2Proof.Machine.execEdge8lcc rd rs1 rs2 s
  | .edge8ln rd rs1 rs2 => Sys2Proof.Machine.execEdge8ln rd rs1 rs2 s
  | .edge16cc rd rs1 rs2 => Sys2Proof.Machine.execEdge16cc rd rs1 rs2 s
  | .edge16n rd rs1 rs2 => Sys2Proof.Machine.execEdge16n rd rs1 rs2 s
  | .edge16lcc rd rs1 rs2 => Sys2Proof.Machine.execEdge16lcc rd rs1 rs2 s
  | .edge16ln rd rs1 rs2 => Sys2Proof.Machine.execEdge16ln rd rs1 rs2 s
  | .edge32cc rd rs1 rs2 => Sys2Proof.Machine.execEdge32cc rd rs1 rs2 s
  | .edge32n rd rs1 rs2 => Sys2Proof.Machine.execEdge32n rd rs1 rs2 s
  | .edge32lcc rd rs1 rs2 => Sys2Proof.Machine.execEdge32lcc rd rs1 rs2 s
  | .edge32ln rd rs1 rs2 => Sys2Proof.Machine.execEdge32ln rd rs1 rs2 s
  | .array8 rd rs1 rs2 => Sys2Proof.Machine.execArray8 rd rs1 rs2 s
  | .array16 rd rs1 rs2 => Sys2Proof.Machine.execArray16 rd rs1 rs2 s
  | .array32 rd rs1 rs2 => Sys2Proof.Machine.execArray32 rd rs1 rs2 s
  | .alignaddress rd rs1 rs2 => Sys2Proof.Machine.execAlignaddress rd rs1 rs2 s
  | .bmask rd rs1 rs2 => Sys2Proof.Machine.execBmask rd rs1 rs2 s
  | .alignaddressLittle rd rs1 rs2 => Sys2Proof.Machine.execAlignaddressLittle rd rs1 rs2 s
  | .fcmple16 rd rs1 rs2 => Sys2Proof.Machine.execFcmple16 rd rs1 rs2 s
  | .fcmpne16 rd rs1 rs2 => Sys2Proof.Machine.execFcmpne16 rd rs1 rs2 s
  | .fcmple32 rd rs1 rs2 => Sys2Proof.Machine.execFcmple32 rd rs1 rs2 s
  | .fcmpne32 rd rs1 rs2 => Sys2Proof.Machine.execFcmpne32 rd rs1 rs2 s
  | .fcmpgt16 rd rs1 rs2 => Sys2Proof.Machine.execFcmpgt16 rd rs1 rs2 s
  | .fcmpeq16 rd rs1 rs2 => Sys2Proof.Machine.execFcmpeq16 rd rs1 rs2 s
  | .fcmpgt32 rd rs1 rs2 => Sys2Proof.Machine.execFcmpgt32 rd rs1 rs2 s
  | .fcmpeq32 rd rs1 rs2 => Sys2Proof.Machine.execFcmpeq32 rd rs1 rs2 s
  | .fmul8x16 rd rs1 rs2 => Sys2Proof.Machine.execFmul8x16 rd rs1 rs2 s
  | .fmul8x16au rd rs1 rs2 => Sys2Proof.Machine.execFmul8x16au rd rs1 rs2 s
  | .fmul8x16al rd rs1 rs2 => Sys2Proof.Machine.execFmul8x16al rd rs1 rs2 s
  | .fmul8sux16 rd rs1 rs2 => Sys2Proof.Machine.execFmul8sux16 rd rs1 rs2 s
  | .fmul8ulx16 rd rs1 rs2 => Sys2Proof.Machine.execFmul8ulx16 rd rs1 rs2 s
  | .fmuld8sux16 rd rs1 rs2 => Sys2Proof.Machine.execFmuld8sux16 rd rs1 rs2 s
  | .fmuld8ulx16 rd rs1 rs2 => Sys2Proof.Machine.execFmuld8ulx16 rd rs1 rs2 s
  | .fpack32 rd rs1 rs2 => Sys2Proof.Machine.execFpack32 rd rs1 rs2 s
  | .fpack16 rd rs2 => Sys2Proof.Machine.execFpack16 rd rs2 s
  | .fpackfix rd rs2 => Sys2Proof.Machine.execFpackfix rd rs2 s
  | .pdist rd rs1 rs2 => Sys2Proof.Machine.execPdist rd rs1 rs2 s
  | .faligndata rd rs1 rs2 => Sys2Proof.Machine.execFaligndata rd rs1 rs2 s
  | .fpmerge rd rs1 rs2 => Sys2Proof.Machine.execFpmerge rd rs1 rs2 s
  | .bshuffle rd rs1 rs2 => Sys2Proof.Machine.execBshuffle rd rs1 rs2 s
  | .fexpand rd rs2 => Sys2Proof.Machine.execFexpand rd rs2 s
  | .fpadd16 rd rs1 rs2 => Sys2Proof.Machine.execFpadd16 rd rs1 rs2 s
  | .fpadd16s rd rs1 rs2 => Sys2Proof.Machine.execFpadd16s rd rs1 rs2 s
  | .fpadd32 rd rs1 rs2 => Sys2Proof.Machine.execFpadd32 rd rs1 rs2 s
  | .fpadd32s rd rs1 rs2 => Sys2Proof.Machine.execFpadd32s rd rs1 rs2 s
  | .fpsub16 rd rs1 rs2 => Sys2Proof.Machine.execFpsub16 rd rs1 rs2 s
  | .fpsub16s rd rs1 rs2 => Sys2Proof.Machine.execFpsub16s rd rs1 rs2 s
  | .fpsub32 rd rs1 rs2 => Sys2Proof.Machine.execFpsub32 rd rs1 rs2 s
  | .fpsub32s rd rs1 rs2 => Sys2Proof.Machine.execFpsub32s rd rs1 rs2 s
  | .fzerod rd => Sys2Proof.Machine.execFzerod rd s
  | .fzeros rd => Sys2Proof.Machine.execFzeros rd s
  | .fnord rd rs1 rs2 => Sys2Proof.Machine.execFnord rd rs1 rs2 s
  | .fnors rd rs1 rs2 => Sys2Proof.Machine.execFnors rd rs1 rs2 s
  | .fandnot2d rd rs1 rs2 => Sys2Proof.Machine.execFandnot2d rd rs1 rs2 s
  | .fandnot2s rd rs1 rs2 => Sys2Proof.Machine.execFandnot2s rd rs1 rs2 s
  | .fnot2d rd rs2 => Sys2Proof.Machine.execFnot2d rd rs2 s
  | .fnot2s rd rs2 => Sys2Proof.Machine.execFnot2s rd rs2 s
  | .fandnot1d rd rs1 rs2 => Sys2Proof.Machine.execFandnot1d rd rs1 rs2 s
  | .fandnot1s rd rs1 rs2 => Sys2Proof.Machine.execFandnot1s rd rs1 rs2 s
  | .fnot1d rd rs1 => Sys2Proof.Machine.execFnot1d rd rs1 s
  | .fnot1s rd rs1 => Sys2Proof.Machine.execFnot1s rd rs1 s
  | .fxord rd rs1 rs2 => Sys2Proof.Machine.execFxord rd rs1 rs2 s
  | .fxors rd rs1 rs2 => Sys2Proof.Machine.execFxors rd rs1 rs2 s
  | .fnandd rd rs1 rs2 => Sys2Proof.Machine.execFnandd rd rs1 rs2 s
  | .fnands rd rs1 rs2 => Sys2Proof.Machine.execFnands rd rs1 rs2 s
  | .fandd rd rs1 rs2 => Sys2Proof.Machine.execFandd rd rs1 rs2 s
  | .fands rd rs1 rs2 => Sys2Proof.Machine.execFands rd rs1 rs2 s
  | .fxnord rd rs1 rs2 => Sys2Proof.Machine.execFxnord rd rs1 rs2 s
  | .fxnors rd rs1 rs2 => Sys2Proof.Machine.execFxnors rd rs1 rs2 s
  | .fsrc1d rd rs1 => Sys2Proof.Machine.execFsrc1d rd rs1 s
  | .fsrc1s rd rs1 => Sys2Proof.Machine.execFsrc1s rd rs1 s
  | .fornot2d rd rs1 rs2 => Sys2Proof.Machine.execFornot2d rd rs1 rs2 s
  | .fornot2s rd rs1 rs2 => Sys2Proof.Machine.execFornot2s rd rs1 rs2 s
  | .fsrc2d rd rs2 => Sys2Proof.Machine.execFsrc2d rd rs2 s
  | .fsrc2s rd rs2 => Sys2Proof.Machine.execFsrc2s rd rs2 s
  | .fornot1d rd rs1 rs2 => Sys2Proof.Machine.execFornot1d rd rs1 rs2 s
  | .fornot1s rd rs1 rs2 => Sys2Proof.Machine.execFornot1s rd rs1 rs2 s
  | .ford rd rs1 rs2 => Sys2Proof.Machine.execFord rd rs1 rs2 s
  | .fors rd rs1 rs2 => Sys2Proof.Machine.execFors rd rs1 rs2 s
  | .foned rd => Sys2Proof.Machine.execFoned rd s
  | .fones rd => Sys2Proof.Machine.execFones rd s
  | .siam mode => Sys2Proof.Machine.execSiam mode s

end Sys2Proof.Machine
end

