-- ==== Sys2Proof/Machine/Environment.lean ====
section
/-! DEFINITION. What happens around an instruction in a step: the environment's moves, the disrupting traps, the choice between them and the instruction's result (60_exceptions.md R1585, R1586, R1660 to R1668). -/

namespace Sys2Proof.Machine

/-- The state `stop(InvalidState)` refuses (60_exceptions.md R1585 step 0; 93_implementation_defined.md U30). -/
def invalidState (s : State) : Bool := !s.priv && s.tl != 0

/-- A TICK or STICK register whose 63-bit counter has moved; `npt` stays (10_state.md R99, R107). -/
def advanceCounter (reg : Word64) (amount : Nat) : Word64 :=
  reg.extractLsb' 63 1 ++ (reg.extractLsb' 0 63 + BitVec.ofNat 63 amount)

/-- Whether a compare register with `int_dis` 0 lies in the interval the counter moves through, the start left out and the end taken in, modulo `2^63` (60_exceptions.md R1666, R1667; 92_eei_decisions.md D48). -/
def compareReached (reg cmpr : Word64) (amount : Nat) : Bool :=
  !cmpr.msb && (cmpr.extractLsb' 0 63 - reg.extractLsb' 0 63 - 1).toNat < amount

/-- A queue whose tail the environment may have moved (60_exceptions.md R1661, R1662). -/
def Queue.withTail (q : Queue) (tail : Option Word64) : Queue :=
  match tail with
  | none => q
  | some t => { q with tail := queueAligned t }

/-- One move of the environment (60_exceptions.md R1585 step 1; 70_reset_and_hazards.md R1772). -/
def applyInput (s : State) (i : EnvInput) : State :=
  { s with
    mem := s.mem.writeBytes i.stores
    tick := advanceCounter s.tick (i.tickMore + 1)
    stick := advanceCounter s.stick (i.stickMore + 1)
    softint := s.softint
      ||| (if compareReached s.tick s.tickCmpr (i.tickMore + 1) then 0x00001 else 0)
      ||| (if compareReached s.stick s.stickCmpr (i.stickMore + 1) then 0x10000 else 0)
    cpuMondo := s.cpuMondo.withTail i.cpuMondoTail
    devMondo := s.devMondo.withTail i.devMondoTail
    resError := s.resError.withTail i.resErrorTail
    nonresError := s.nonresError.withTail i.nonresErrorTail
    extReq := i.extReq
    trapped := false }

/-- The move of an environment that says nothing: both counters advance by one (92_eei_decisions.md D24). -/
def quietInput (s : State) : EnvInput :=
  { tickMore := 0, stickMore := 0, cpuMondoTail := none, devMondoTail := none, resErrorTail := none
    nonresErrorTail := none, extReq := s.extReq, stores := [] }

/-- The environment advances (60_exceptions.md R1585 step 1; log 7). -/
def advanceEnvironment (s : State) : State :=
  match s.inputs with
  | [] => applyInput s (quietInput s)
  | i :: rest => applyInput { s with inputs := rest } i

/-- `level_pending(n)` (60_exceptions.md R1665). -/
def levelPending (s : State) (n : Nat) : Bool :=
  s.softint.getLsbD n || s.extReq.getLsbD n
    || (n == 14 && (s.softint.getLsbD 0 || s.softint.getLsbD 16))

/-- The highest pending level from `n` down to 1; 0 where none is (60_exceptions.md R1582, R1586). -/
def highestLevel (s : State) : Nat → Nat
  | 0 => 0
  | n + 1 => if levelPending s (n + 1) then n + 1 else highestLevel s n

/-- `pending_disrupting()`; none at TL = MAXPTL, where conditions stay pending (60_exceptions.md R1586, R1606; 92_eei_decisions.md D54). -/
def pendingDisrupting (s : State) : Option Exception :=
  if !s.ie || decide (s.tl.val = Config.maxPtl) then none
  else if s.cpuMondo.head ≠ s.cpuMondo.tail then some .cpuMondo
  else if s.devMondo.head ≠ s.devMondo.tail then some .devMondo
  else if s.pil.toNat < highestLevel s 15 then some (.interruptLevel (BitVec.ofNat 4 (highestLevel s 15)))
  else if s.resError.head ≠ s.resError.tail then some .resumableError
  else none

/-- Whether an instruction's result is an exception: a trap taken, or an exit to hyperprivileged mode. -/
def gaveException (o : Outcome) : Bool :=
  match o with
  | .next t => t.trapped
  | .fault (.exitToHyperprivileged _ _ _ _) => true
  | .fault (.unwrittenMemory _) => false
  | .refused _ => false

/-- Step 4 of 60_exceptions.md R1585, `s` being the state the instruction starts in: its exception, else a pending disrupting trap in its place, else its result. -/
def commit (s : State) (o : Outcome) : Outcome :=
  if gaveException o then o
  else
    match pendingDisrupting s with
    | some d => .next (takeTrap s d.tt)
    | none => o

end Sys2Proof.Machine
end

