-- ==== Sys2Proof/Machine/Fetch.lean ====
section
/-! DEFINITION. Instruction fetch (20_memory.md R211, R287, R301). -/

namespace Sys2Proof.Machine

/-- The context instructions are fetched in (20_memory.md R301). -/
def fetchContext (s : State) : AsiContext := if s.tl = 0 then .primary else .nucleus

/-- The implicit instruction ASI (20_memory.md R211). -/
def fetchAsi (s : State) : Asi := if s.tl = 0 then 0x80 else 0x04

/-- The address an instruction is fetched from (20_memory.md R301). -/
def fetchVa (s : State) : Word64 := amMask s s.pc

/-- The real address of the instruction at PC, or what stops its fetch (20_memory.md R287, R301). -/
def fetchAddress (s : State) : Except AccessStop Nat :=
  if insnWatchHit s (fetchVa s) then .error (.exception .instructionVaWatchpoint)
  else
    match translate s (fetchContext s) (fetchVa s) with
    | .error ev => .error (.mmu ev)
    | .ok tr =>
      match checkFetch s tr.attr with
      | some e => .error (.exception e)
      | none => .ok tr.ra

/-- `fetch()`: goes on with the instruction word, big-endian, and the state the devices leave (20_memory.md R301, R302, R235). -/
def withFetch (s : State) (k : State → Word32 → Outcome) : Outcome :=
  match fetchAddress s with
  | .error stop => stopAccess s { ea := fetchVa s, asi := fetchAsi s, explicit := false } stop
  | .ok ra => withRead ((readView s ra 4).readWord false ra) (k (afterRead s ra 4))

/-- The state with an instruction word stored in memory where the next instruction is fetched; no I/O range is left there. -/
def storeFetchWord (s : State) (w : Word32) : State :=
  match translate s (fetchContext s) (fetchVa s) with
  | .error _ => s
  | .ok tr =>
    { s with
      mem := s.mem.writeBytes (placed false 4 tr.ra w)
      ioRegion := s.ioRegion.filter fun r => !(List.range 4).any fun k => r.has (tr.ra + k) }

end Sys2Proof.Machine
end

