-- ==== Sys2Proof/Machine/Step.lean ====
section
/-! DEFINITION. One step of the machine (60_exceptions.md R1585). -/

noncomputable section

namespace Sys2Proof.Machine

/-- Decodes and executes an instruction word; a reserved one raises illegal_instruction (30_encoding.md R360), but for ASRs 16 and 17 where `PERF_ASRS` is set (44_window_and_state.md R1086; log 14). -/
def runWord (s : State) (w : Word32) : Host.Outcome State Fault Refusal :=
  match decode w with
  | .error _ =>
    if Config.perfAsrs && namesPerfAsr w then .refused .performanceRegisters else raise s .illegalInstruction
  | .ok i => commit s (exec i s)

/-- One step of the virtual processor (60_exceptions.md R1585). -/
def step (s : State) : Host.Outcome State Fault Refusal :=
  if invalidState s then .refused .invalidState
  else withFetch (advanceEnvironment s) runWord

/-- The state with the instruction whose low `nbits` bits are `w` stored at PC, where the next step fetches it. -/
def State.withFetchWord (s : State) (nbits w : Nat) : State :=
  storeFetchWord s (BitVec.ofNat 32 (w % 2 ^ nbits))

end Sys2Proof.Machine

end
end

