-- ==== Sys2Proof/Safety.lean ====
section
/-! DEFINITION. What a step keeps true of the state, what a state handed to the machine must be (70_reset_and_hazards.md R1751), and what counts as a safe step. -/

namespace Sys2Proof.Machine

/-- The bits of FSR that can hold anything: fcc3 to fcc1 37:32, rd 31:30, tem 27:23, ftt 16:14, fcc0 11:10, aexc 9:5, cexc 4:0, and ns, bit 22, where it is implemented (10_state.md R80, R84). -/
def fsrMask : Word64 := if Config.nsImplemented then 0x3FCFC1CFFF else 0x3FCF81CFFF

/-- What the spec's layout keeps true: program counters are word addresses (20_memory.md R248), reserved and hard-wired bits read as they must (10_state.md R51, R80, R85, R103, R146, R152; 60_exceptions.md R1662), memory has its canonical form. -/
structure State.Inv (s : State) : Prop where
  pcAligned : s.pc.extractLsb' 0 2 = 0
  npcAligned : s.npc.extractLsb' 0 2 = 0
  pstateReserved : s.pstate &&& ~~~pstateMask = 0
  fsrReserved : s.fsr &&& ~~~fsrMask = Config.fsrVer.setWidth 64 <<< 17
  gsrReserved : s.gsr &&& ~~~gsrMask = 0
  tstate1Reserved : s.trapStack[0].tstate &&& ~~~tstateMask = 0
  tstate2Reserved : s.trapStack[1].tstate &&& ~~~tstateMask = 0
  cpuMondoHead : s.cpuMondo.head.extractLsb' 0 6 = 0
  cpuMondoTail : s.cpuMondo.tail.extractLsb' 0 6 = 0
  devMondoHead : s.devMondo.head.extractLsb' 0 6 = 0
  devMondoTail : s.devMondo.tail.extractLsb' 0 6 = 0
  resErrorHead : s.resError.head.extractLsb' 0 6 = 0
  resErrorTail : s.resError.tail.extractLsb' 0 6 = 0
  nonresErrorHead : s.nonresError.head.extractLsb' 0 6 = 0
  nonresErrorTail : s.nonresError.tail.extractLsb' 0 6 = 0
  memoryForm : Memory.wf s.mem = true

/-- The window registers agree with one another (10_state.md R127). -/
structure State.WindowsConsistent (s : State) : Prop where
  cansaveBound : s.cansave.toNat ≤ 6
  canrestoreBound : s.canrestore.toNat ≤ 6
  otherwinBound : s.otherwin.toNat ≤ 6
  sum : s.cansave.toNat + s.canrestore.toNat + s.otherwin.toNat = Config.nRegWindows - 2
  clean : s.canrestore.toNat ≤ s.cleanwin.toNat

/-- `wellformed(S)` (70_reset_and_hazards.md R1751): what a state handed to the machine must be. The types of State hold the rest of it: TL, GL, PIL, CWP and CLEANWIN in range, `R[0]` 0, TBA, TPC and TNPC aligned. Steps need not keep it: WRPR breaks the window registers' consistency, and RETRY can leave TL above 0 in nonprivileged mode, where the machine refuses to go on (log 21). -/
structure State.WellFormed (s : State) : Prop where
  inv : State.Inv s
  privilegedInTrap : s.priv = true ∨ s.tl = 0
  windows : State.WindowsConsistent s
  tctOnlyIfImplemented : s.tct = true → Config.tctImplemented = true

/-- The step is taken: it ends in no fault and no refusal. -/
def State.StepsOn (s : State) : Prop := ∃ t, step s = .next t

end Sys2Proof.Machine
end

