-- ==== Sys2Proof/Certificates/Slice0/Obligations.lean ====
section
/-! DEFINITION. The statements about the machine, and the terms they are written in. -/


noncomputable section

open Sys2Proof Sys2Proof.Machine

namespace Sys2Proof.Claims

/-! ### What an instruction leaves -/

/-- Only the program counters move on (10_state.md R62). -/
def Skips (i : Instr) (s : State) : Prop := exec i s = .next { s with pc := s.npc, npc := s.npc + 4 }

/-- `t` is `s` but for the program counters and `R[rd]`, which holds `v`; register 0 stays 0 (10_state.md R52, R54). -/
structure WritesR (s t : State) (rd : RegNum) (v : Word64) : Prop where
  destination : readReg t rd = if rd = 0#5 then 0 else v
  others : ∀ p : PhysReg, p ≠ phys s.gl s.cwp rd → readPhys t p = readPhys s p
  frame : { t with globals := s.globals, windows := s.windows, pc := s.pc, npc := s.npc } = s

/-- `i` completes in `s`: its whole effect is that of `base`, and `R[rd]` holding `v`. -/
def GivesR (i : Instr) (s base : State) (rd : RegNum) (v : Word64) : Prop :=
  ∃ t, exec i s = .next t ∧ WritesR base t rd v ∧ t.pc = s.npc ∧ t.npc = s.npc + 4

/-- `t` is `s` but for the program counters, FPRS and the words `n` to `n + k - 1` of the F registers. -/
structure WritesF (s t : State) (n k : Nat) : Prop where
  others : ∀ w : Fin 64, w.val < n ∨ n + k ≤ w.val → t.fregs[w] = s.fregs[w]
  dirty : t.fprs = s.fprs ||| (if n < 32 then 1 else 2)
  frame : { t with fregs := s.fregs, fprs := s.fprs, pc := s.pc, npc := s.npc } = s

/-- `i` completes in `s`: its whole effect is that of `base`, and the single register `rd` holding `v` (10_state.md R71, R102). -/
def GivesS (i : Instr) (s base : State) (rd : RegNum) (v : Word32) : Prop :=
  ∃ t, exec i s = .next t ∧ WritesF base t rd.toNat 1 ∧ readS t rd = v ∧ t.pc = s.npc ∧ t.npc = s.npc + 4

/-- `i` completes in `s`: its whole effect is that of `base`, and the double register of the field `rd` holding `v` (10_state.md R71, R102). -/
def GivesD (i : Instr) (s base : State) (rd : RegNum) (v : Word64) : Prop :=
  ∃ t, exec i s = .next t ∧ WritesF base t (doubleNumber rd).toNat 2 ∧ readD t rd = v
    ∧ t.pc = s.npc ∧ t.npc = s.npc + 4

/-- The byte at offset `k` of an access of `n` bytes that moves the low `8 * n` bits of `v` (20_memory.md R237). -/
def placedByte (little : Bool) (n : Nat) (v : Word64) (k : Nat) : Byte :=
  v.extractLsb' (8 * (if little then k else n - 1 - k)) 8

/-- Whether a real address is an I/O location (20_memory.md R202). -/
def inIo (s : State) (a : Nat) : Bool := s.ioRegion.any fun r => decide (r.base ≤ a ∧ a < r.base + r.size)

/-- What byte `a` reads as in an access of the `n` bytes at `ra`: the device's answer, the read seen, in `IO_REGION`, else memory (20_memory.md R302). -/
def byteSeen (s : State) (ra n a : Nat) : Except Nat Byte :=
  if inIo s a then .ok (Config.ioRead (.read ra n :: s.ioLog) a) else s.mem.readByte a

/-- In an access of the `n` bytes at `ra`, the `m` bytes at `a` read as the low `8 * m` bits of `v` (20_memory.md R237). -/
def SeesPart (s : State) (ra n a m : Nat) (little : Bool) (v : Word64) : Prop :=
  ∀ k, k < m → byteSeen s ra n (a + k) = .ok (placedByte little m v k)

/-- An access of the `n` bytes at `ra` reads the low `8 * n` bits of `v`. -/
def Sees (s : State) (ra n : Nat) (little : Bool) (v : Word64) : Prop := SeesPart s ra n ra n little v

/-- `s` once the `n` bytes at `ra` have been read: nothing changes, but that the devices have seen the read where one of the bytes is an I/O location (20_memory.md R202; log 42). -/
def seen (s : State) (ra n : Nat) : State :=
  if (List.range n).any fun k => inIo s (ra + k) then { s with ioLog := .read ra n :: s.ioLog } else s

/-- The bytes at `ra` that a store of the low `8 * n` bits of `v` stores (20_memory.md R237). -/
def image (ra n : Nat) (little : Bool) (v : Word64) : List Host.Cell :=
  (List.range n).map fun k => (ra + k, placedByte little n v k)

/-- `t` is `s` but for the program counters and the bytes of `cells`: each goes to memory, or, at an I/O location, to its device, those in one event (20_memory.md R202; log 42). -/
structure Stores (s t : State) (cells : List Host.Cell) : Prop where
  stored : ∀ c ∈ cells, inIo s c.1 = false → t.mem.readByte c.1 = .ok c.2
  others : ∀ a, (∀ c ∈ cells, c.1 ≠ a) ∨ inIo s a = true → t.mem.readByte a = s.mem.readByte a
  devices : t.ioLog = (if cells.filter (fun c => inIo s c.1) = [] then s.ioLog
    else .write (cells.filter fun c => inIo s c.1) :: s.ioLog)
  frame : { t with mem := s.mem, ioLog := s.ioLog, pc := s.pc, npc := s.npc } = s

/-- `i` completes in `s`: its whole effect is that of `base`, and the bytes of `cells` stored. -/
def GivesM (i : Instr) (s base : State) (cells : List Host.Cell) : Prop :=
  ∃ t, exec i s = .next t ∧ Stores base t cells ∧ t.pc = s.npc ∧ t.npc = s.npc + 4

/-- The whole effect of `i` in `s` is to raise an exception delivered in privileged mode, from the state `base` (60_exceptions.md R1600). -/
def Traps (i : Instr) (s base : State) (tt : BitVec 9) : Prop :=
  s.tl.val < 2 → exec i s = .next (takeTrap base tt)

/-- `i` in `s` leaves to hyperprivileged mode with an exception (60_exceptions.md R1610). -/
def Leaves (i : Instr) (s : State) (tt : BitVec 9) : Prop :=
  exec i s = .fault (.exitToHyperprivileged (.trap tt) s.pc s.npc none)

/-! ### Operands -/

/-- The word is no instruction: a step that fetches it raises illegal_instruction (30_encoding.md R360; StepRunsDecoded). -/
def Undecoded (w : Word32) : Prop := ∃ r, decode w = .error r

/-- Bits 13:0 of a MOVcc word: `i`, `cc1` and `cc0`, then `rs2` under zeros or `simm11` (40_integer.md R459). -/
def movccLow (cc : BitVec 2) : RegOrImm 11 → BitVec 14
  | .reg rs2 => 0#1 ++ cc ++ 0#6 ++ rs2
  | .imm v => 1#1 ++ cc ++ v

/-- Bits 13:0 of a MOVr word: `i`, `rcond`, then `rs2` under zeros or `simm10` (40_integer.md R492). -/
def movrLow (rcond : BitVec 3) : RegOrImm 10 → BitVec 14
  | .reg rs2 => 0#1 ++ rcond ++ 0#5 ++ rs2
  | .imm v => 1#1 ++ rcond ++ v

/-- The second operand, an immediate sign-extended (30_encoding.md R340). -/
def second {n : Nat} (s : State) (o : RegOrImm n) : Word64 :=
  match o with
  | .reg rs2 => readReg s rs2
  | .imm v => BitVec.ofInt 64 v.toInt

/-- A shift count: the register modulo the width, or the immediate (40_integer.md R432). -/
def count {n : Nat} (s : State) (o : RegOrImm n) (width : Nat) : Nat :=
  match o with
  | .reg rs2 => (readReg s rs2).toNat % width
  | .imm v => v.toNat

/-- The shapes of constructors. -/
abbrev AluForm := RegNum → RegNum → RegOrImm 13 → Instr

/-! ### Tables of instructions -/
/-- ADD to XNOR, ADDC, SUBC and MULX: the result from the operands and the carry (40_integer.md R404 to R439). -/
def aluTable : List (AluForm × (Word64 → Word64 → Word64 → Word64)) :=
  [(.add, fun a b _ => a + b), (.addc, fun a b c => a + b + c), (.sub, fun a b _ => a - b),
   (.subc, fun a b c => a - b - c), (.and, fun a b _ => a &&& b), (.andn, fun a b _ => a &&& ~~~b),
   (.or, fun a b _ => a ||| b), (.orn, fun a b _ => a ||| ~~~b), (.xor, fun a b _ => a ^^^ b),
   (.xnor, fun a b _ => ~~~(a ^^^ b)), (.mulx, fun a b _ => a * b)]

/-- The forms that set CCR: the result, and CCR, from the operands and the carry (40_integer.md R405 to R431). -/
def aluCcTable : List (AluForm × (Word64 → Word64 → Bool → Word64) × (Word64 → Word64 → Bool → BitVec 8)) :=
  [(.addcc, fun a b _ => a + b, fun a b _ => ccAdd a b false),
   (.addccc, fun a b c => a + b + BitVec.ofNat 64 c.toNat, fun a b c => ccAdd a b c),
   (.subcc, fun a b _ => a - b, fun a b _ => ccSub a b false),
   (.subccc, fun a b c => a - b - BitVec.ofNat 64 c.toNat, fun a b c => ccSub a b c),
   (.andcc, fun a b _ => a &&& b, fun a b _ => ccLogic (a &&& b)),
   (.andncc, fun a b _ => a &&& ~~~b, fun a b _ => ccLogic (a &&& ~~~b)),
   (.orcc, fun a b _ => a ||| b, fun a b _ => ccLogic (a ||| b)),
   (.orncc, fun a b _ => a ||| ~~~b, fun a b _ => ccLogic (a ||| ~~~b)),
   (.xorcc, fun a b _ => a ^^^ b, fun a b _ => ccLogic (a ^^^ b)),
   (.xnorcc, fun a b _ => ~~~(a ^^^ b), fun a b _ => ccLogic (~~~(a ^^^ b)))]

/-- MOVcc on `icc` and `xcc`: the `cond` field, and the test on `n z v c` (40_integer.md R460 to R475). -/
def movIccTable : List ((RegNum → IntCc → RegOrImm 11 → Instr) × BitVec 4 × (Bool → Bool → Bool → Bool → Bool)) :=
  [(.mova, 0b1000, fun _ _ _ _ => true), (.movn, 0b0000, fun _ _ _ _ => false),
   (.movne, 0b1001, fun _ z _ _ => !z), (.move, 0b0001, fun _ z _ _ => z),
   (.movg, 0b1010, fun n z v _ => !(z || (n ^^ v))), (.movle, 0b0010, fun n z v _ => z || (n ^^ v)),
   (.movge, 0b1011, fun n _ v _ => !(n ^^ v)), (.movl, 0b0011, fun n _ v _ => n ^^ v),
   (.movgu, 0b1100, fun _ z _ c => !(c || z)), (.movleu, 0b0100, fun _ z _ c => c || z),
   (.movcc, 0b1101, fun _ _ _ c => !c), (.movcs, 0b0101, fun _ _ _ c => c),
   (.movpos, 0b1110, fun n _ _ _ => !n), (.movneg, 0b0110, fun n _ _ _ => n),
   (.movvc, 0b1111, fun _ _ v _ => !v), (.movvs, 0b0111, fun _ _ v _ => v)]

/-- MOVcc on `fcc`: the `cond` field, and the values of `fcc` it moves at, E 0, L 1, G 2, U 3 (40_integer.md R476 to R491; 10_state.md R81). -/
def movFccTable : List ((RegNum → FccNum → RegOrImm 11 → Instr) × BitVec 4 × List (BitVec 2)) :=
  [(.movfa, 0b1000, [0, 1, 2, 3]), (.movfn, 0b0000, []), (.movfu, 0b0111, [3]), (.movfg, 0b0110, [2]),
   (.movfug, 0b0101, [2, 3]), (.movfl, 0b0100, [1]), (.movful, 0b0011, [1, 3]), (.movflg, 0b0010, [1, 2]),
   (.movfne, 0b0001, [1, 2, 3]), (.movfe, 0b1001, [0]), (.movfue, 0b1010, [0, 3]), (.movfge, 0b1011, [0, 2]),
   (.movfuge, 0b1100, [0, 2, 3]), (.movfle, 0b1101, [0, 1]), (.movfule, 0b1110, [0, 1, 3]), (.movfo, 0b1111, [0, 1, 2])]

/-- MOVr: the `rcond` field, and the test on the signed value of the register (40_integer.md R493 to R498). -/
def movRegTable : List ((RegNum → RegNum → RegOrImm 10 → Instr) × BitVec 3 × (Int → Bool)) :=
  [(.movrz, 0b001, fun v => v = 0), (.movrlez, 0b010, fun v => v ≤ 0), (.movrlz, 0b011, fun v => v < 0),
   (.movrnz, 0b101, fun v => v ≠ 0), (.movrgz, 0b110, fun v => 0 < v), (.movrgez, 0b111, fun v => 0 ≤ v)]

/-- Bicc (41_control_transfer.md R602 to R617). -/
def biccTable : List ((Bool → BitVec 22 → Instr) × BitVec 4) :=
  [(.ba, 8), (.bn, 0), (.bne, 9), (.be, 1), (.bg, 10), (.ble, 2), (.bge, 11), (.bl, 3), (.bgu, 12), (.bleu, 4),
   (.bcc, 13), (.bcs, 5), (.bpos, 14), (.bneg, 6), (.bvc, 15), (.bvs, 7)]

/-- BPcc (41_control_transfer.md R621 to R636). -/
def bpccTable : List ((Bool → IntCc → Bool → BitVec 19 → Instr) × BitVec 4) :=
  [(.bpa, 8), (.bpn, 0), (.bpne, 9), (.bpe, 1), (.bpg, 10), (.bple, 2), (.bpge, 11), (.bpl, 3), (.bpgu, 12),
   (.bpleu, 4), (.bpcc, 13), (.bpcs, 5), (.bppos, 14), (.bpneg, 6), (.bpvc, 15), (.bpvs, 7)]

/-- BPr (41_control_transfer.md R641 to R646). -/
def bprTable : List ((Bool → BitVec 16 → Bool → RegNum → Instr) × BitVec 3) :=
  [(.brz, 1), (.brlez, 2), (.brlz, 3), (.brnz, 5), (.brgz, 6), (.brgez, 7)]

/-- FBfcc (41_control_transfer.md R651 to R666). -/
def fbfccTable : List ((Bool → BitVec 22 → Instr) × BitVec 4) :=
  [(.fba, 8), (.fbn, 0), (.fbu, 7), (.fbg, 6), (.fbug, 5), (.fbl, 4), (.fbul, 3), (.fblg, 2), (.fbne, 1), (.fbe, 9),
   (.fbue, 10), (.fbge, 11), (.fbuge, 12), (.fble, 13), (.fbule, 14), (.fbo, 15)]

/-- FBPfcc (41_control_transfer.md R671 to R686). -/
def fbpfccTable : List ((Bool → FccNum → Bool → BitVec 19 → Instr) × BitVec 4) :=
  [(.fbpa, 8), (.fbpn, 0), (.fbpu, 7), (.fbpg, 6), (.fbpug, 5), (.fbpl, 4), (.fbpul, 3), (.fbplg, 2), (.fbpne, 1),
   (.fbpe, 9), (.fbpue, 10), (.fbpge, 11), (.fbpuge, 12), (.fbple, 13), (.fbpule, 14), (.fbpo, 15)]

/-- Tcc (41_control_transfer.md R701 to R716). -/
def tccTable : List ((RegNum → IntCc → RegOrImm 8 → Instr) × BitVec 4) :=
  [(.ta, 8), (.tn, 0), (.tne, 9), (.te, 1), (.tg, 10), (.tle, 2), (.tge, 11), (.tl, 3), (.tgu, 12), (.tleu, 4),
   (.tcc, 13), (.tcs, 5), (.tpos, 14), (.tneg, 6), (.tvc, 15), (.tvs, 7)]

/-- What a branch does (41_control_transfer.md R600, R619): `always` is the condition 1000, `disp` the signed word displacement. -/
def Branches (i : Instr) (s : State) (always taken annul : Bool) (disp : Int) : Prop :=
  let target := s.pc + BitVec.ofInt 64 (4 * disp)
  if taken && s.tct then Traps i s s 0x074
  else if always && annul then exec i s = .next { s with pc := target, npc := target + 4 }
  else if taken then exec i s = .next { s with pc := s.npc, npc := target }
  else if annul then exec i s = .next { s with pc := s.npc + 4, npc := s.npc + 8 }
  else Skips i s

/-- The condition codes an instruction selects (30_encoding.md R353). -/
def selected (s : State) (cc : IntCc) : BitVec 4 :=
  match cc with
  | .icc => s.ccr.extractLsb' 0 4
  | .xcc => s.ccr.extractLsb' 4 4

/-- The instructions that raise illegal_instruction on every operand: ILLTRAP (41_control_transfer.md R722), every quad-precision FPop (45_floating_point.md R1159), LDQF, LDQFA, STQF and STQFA (43_fp_load_store.md R957, R962, R972, R977). -/
def alwaysIllegal : Instr → Bool
  | .illtrap _ _ | .ldqf _ _ _ | .ldqfa _ _ _ | .stqf _ _ _ | .stqfa _ _ _
  | .fmovq _ _ | .fnegq _ _ | .fabsq _ _ | .fsqrtq _ _ | .fqtox _ _ | .fxtoq _ _ | .fqtos _ _ | .fqtod _ _
  | .fitoq _ _ | .fstoq _ _ | .fdtoq _ _ | .fqtoi _ _ | .faddq _ _ _ | .fsubq _ _ _ | .fmulq _ _ _ | .fdivq _ _ _
  | .fdmulq _ _ _ | .fcmpq _ _ _ | .fcmpeq _ _ _ | .fmovqicc _ _ _ | .fmovqxcc _ _ _ | .fmovqfcc _ _ _ _
  | .fmovrqz _ _ _ | .fmovrqlez _ _ _ | .fmovrqlz _ _ _ | .fmovrqnz _ _ _ | .fmovrqgz _ _ _ | .fmovrqgez _ _ _ => true
  | _ => false

/-- The instructions of privileged software (44_window_and_state.md R1053 to R1125; 41_control_transfer.md R720, R721). -/
def privilegedOnly : Instr → Bool
  | .done | .retry | .saved | .restored | .allclean | .otherw | .normalw | .invalw
  | .rdsoftint _ | .rdtickCmpr _ | .rdstickCmpr _ | .wrsoftintSet _ _ | .wrsoftintClr _ _ | .wrsoftint _ _
  | .wrtickCmpr _ _ | .wrstickCmpr _ _
  | .rdprTpc _ | .rdprTnpc _ | .rdprTstate _ | .rdprTt _ | .rdprTick _ | .rdprTba _ | .rdprPstate _ | .rdprTl _
  | .rdprPil _ | .rdprCwp _ | .rdprCansave _ | .rdprCanrestore _ | .rdprCleanwin _ | .rdprOtherwin _ | .rdprWstate _
  | .rdprGl _ | .wrprTpc _ _ | .wrprTnpc _ _ | .wrprTstate _ _ | .wrprTt _ _ | .wrprTba _ _ | .wrprPstate _ _
  | .wrprTl _ _ | .wrprPil _ _ | .wrprCwp _ _ | .wrprCansave _ _ | .wrprCanrestore _ _ | .wrprCleanwin _ _
  | .wrprOtherwin _ _ | .wrprWstate _ _ | .wrprGl _ _ => true
  | _ => false


/-! ### Accesses -/

/-- The value a load of `n` bytes puts into a register (42_load_store.md R810 to R816). -/
def loaded (signed : Bool) (n : Nat) (v : Word64) : Word64 :=
  if signed then BitVec.ofInt 64 (v.setWidth (8 * n)).toInt else BitVec.ofNat 64 (v.toNat % 2 ^ (8 * n))

/-- An integer load, its alternate form, its width, whether it sign-extends, and the access of its alternate form (42_load_store.md R810 to R826). -/
structure LoadRow where
  plain : RegNum → RegNum → RegOrImm 13 → Instr
  alternate : RegNum → RegNum → AsiOperand → Instr
  width : Nat
  signed : Bool
  access : Access

/-- The integer loads. -/
def loadTable : List LoadRow :=
  [⟨.ldub, .lduba, 1, false, .load 1⟩, ⟨.lduh, .lduha, 2, false, .load 2⟩, ⟨.lduw, .lduwa, 4, false, .load 4⟩,
   ⟨.ldsb, .ldsba, 1, true, .load 1⟩, ⟨.ldsh, .ldsha, 2, true, .load 2⟩, ⟨.ldsw, .ldswa, 4, true, .load 4⟩,
   ⟨.ldx, .ldxa, 8, false, .loadExtended⟩]

/-- An integer store, its alternate form, its width, and the access of its alternate form (42_load_store.md R840 to R853). -/
structure StoreRow where
  plain : RegNum → RegNum → RegOrImm 13 → Instr
  alternate : RegNum → RegNum → AsiOperand → Instr
  width : Nat
  access : Access

/-- The integer stores. -/
def storeTable : List StoreRow :=
  [⟨.stb, .stba, 1, .store 1⟩, ⟨.sth, .stha, 2, .store 2⟩, ⟨.stw, .stwa, 4, .store 4⟩, ⟨.stx, .stxa, 8, .storeExtended⟩]

/-- The access goes to the real address `ra`, memory or I/O location, in the byte order `little` (20_memory.md R300). -/
def Reaches (s : State) (acc : Access) (g : Target) (ra : Nat) (little : Bool) : Prop :=
  dataAccess s acc g = .ok (.memory ra little)

/-- `i` completes in `s`: its whole effect is that of `base`, and `v0` in `R[rd]` and `v1` in `R[rd + 1]`, `rd` even (10_state.md R57). -/
def GivesPair (i : Instr) (s base : State) (rd : RegNum) (v0 v1 : Word64) : Prop :=
  ∃ t, exec i s = .next t ∧ readReg t rd = (if rd = 0#5 then 0 else v0) ∧ readReg t (rd ||| 1#5) = v1
    ∧ (∀ p : PhysReg, p ≠ phys s.gl s.cwp rd → p ≠ phys s.gl s.cwp (rd ||| 1#5) → readPhys t p = readPhys s p)
    ∧ t.pc = s.npc ∧ t.npc = s.npc + 4
    ∧ { t with globals := s.globals, windows := s.windows, pc := s.pc, npc := s.npc } = base

/-- `i` completes in `s`: its whole effect is that of reading the `n` bytes at `ra`, `old` in `R[rd]`, and the bytes of `cells` stored (42_load_store.md R859). -/
def Exchanges (i : Instr) (s : State) (rd : RegNum) (ra n : Nat) (old : Word64) (cells : List Host.Cell) : Prop :=
  ∃ t, exec i s = .next t ∧ readReg t rd = (if rd = 0#5 then 0 else old)
    ∧ (∀ p : PhysReg, p ≠ phys s.gl s.cwp rd → readPhys t p = readPhys s p)
    ∧ Stores (seen s ra n) { t with globals := s.globals, windows := s.windows } cells
    ∧ t.pc = s.npc ∧ t.npc = s.npc + 4

/-- `i` completes in `s`: its whole effect is that of `base`, and the 16 words of the F registers from `n` on holding the eight doublewords `v`. -/
def GivesBlock (i : Instr) (s base : State) (rd : RegNum) (v : Nat → Word64) : Prop :=
  ∃ t, exec i s = .next t ∧ WritesF base t (doubleNumber rd).toNat 16
    ∧ (∀ k, k < 8 → readFd t (doubleNumber rd + BitVec.ofNat 6 (2 * k)) = v k) ∧ t.pc = s.npc ∧ t.npc = s.npc + 4

/-- The bytes of eight doublewords at `ra`, each in the byte order of the access (20_memory.md R239). -/
def blockImage (ra : Nat) (little : Bool) (v : Nat → Word64) : List Host.Cell :=
  (List.range 8).flatMap fun k => image (ra + 8 * k) 8 little (v k)

/-- `VA`: the address an access sends out, its upper half masked under `PSTATE.am` through a translating ASI (20_memory.md R205). -/
def sentVa (s : State) (g : Target) : Word64 :=
  if (asiInfo g.asi).kind = .translating ∧ s.am = true then BitVec.ofNat 64 (g.ea.toNat % 2 ^ 32) else g.ea

/-- An access stops and leaves to hyperprivileged mode, with the address it sends out and its ASI (60_exceptions.md R1610; 20_memory.md R205). -/
def LeavesAs (i : Instr) (s : State) (cause : HyperCause) (g : Target) : Prop :=
  exec i s = .fault (.exitToHyperprivileged cause s.pc s.npc (some ⟨sentVa s g, g.asi⟩))

/-- An exception of an access. -/
def LeavesAt (i : Instr) (s : State) (tt : BitVec 9) (g : Target) : Prop := LeavesAs i s (.trap tt) g

/-- The address is not a multiple of `n`: mem_address_not_aligned (20_memory.md R245). -/
def Misaligned (i : Instr) (s : State) (g : Target) (n : Nat) : Prop := g.ea.toNat % n ≠ 0 → LeavesAt i s 0x034 g

/-- LDDF, STDF and STPARTIALF: an address that is a multiple of 4 alone has its own exception (20_memory.md R246). -/
def HalfAligned (i : Instr) (s : State) (g : Target) (tt : BitVec 9) : Prop :=
  Misaligned i s g 4 ∧ (g.ea.toNat % 8 = 4 → LeavesAt i s tt g)

/-- The ASI is one that the mode may not use (20_memory.md R212). -/
def Barred (s : State) (asi : Asi) : Prop :=
  (s.priv = false ∧ asi.toNat ≤ 0x7F) ∨ (s.priv = true ∧ 0x30 ≤ asi.toNat ∧ asi.toNat ≤ 0x7F)

/-- The address is aligned as the access needs it, and the ASI, where the instruction names one, is one that the mode and the instruction may use: the access gets past steps 3, 4, 5 and 7 of R300 (20_memory.md R300). -/
def Admitted (s : State) (acc : Access) (g : Target) : Prop :=
  acc.align.check g.ea = none ∧ (g.explicit = true → ¬Barred s g.asi ∧ acc.use.valid (asiClass g.asi) = true)

/-- The data watchpoint is set for accesses of this kind and is one of the bytes from the address sent out on (20_memory.md R296; the watchpoint as data, and which bytes count, are log 16). -/
def Watched (s : State) (acc : Access) (g : Target) : Prop :=
  ∃ w ∈ s.dataWatch, (if acc.writes then w.onStore else w.onLoad) = true
    ∧ (sentVa s g).toNat ≤ w.address.toNat ∧ w.address.toNat < (sentVa s g).toNat + acc.width

/-- The exceptions of an access that are delivered in hyperprivileged mode, with their trap types (60_exceptions.md R1570). -/
def accessTraps : List (Exception × BitVec 9) :=
  [(.daeInvalidAsi, 0x014), (.daePrivilegeViolation, 0x015), (.daeNcPage, 0x016), (.daeNfoPage, 0x017),
   (.daeSideEffectPage, 0x030), (.memAddressNotAligned, 0x034), (.lddfMemAddressNotAligned, 0x035),
   (.stdfMemAddressNotAligned, 0x036), (.privilegedAction, 0x037)]

/-- `i` in `s` does what stops its access: VA_watchpoint is taken in privileged mode below trap level 2, and all else leaves (60_exceptions.md R1570, R1606, R1610, R1654; log 3). -/
def StopsWith (i : Instr) (s : State) (g : Target) (stop : AccessStop) : Prop :=
  match stop with
  | .mmu ev => LeavesAs i s (.mmu ev) g
  | .exception e =>
    (e = .vaWatchpoint ∧ if s.tl.val < 2 then exec i s = .next (takeTrap s 0x062) else LeavesAt i s 0x062 g)
    ∨ ∃ tt, (e, tt) ∈ accessTraps ∧ LeavesAt i s tt g

/-- `i` makes the access `acc` at `g`: what stops the access stops `i` (20_memory.md R300). -/
def Heeds (i : Instr) (s : State) (acc : Access) (g : Target) : Prop :=
  ∀ stop, dataAccess s acc g = .error stop → StopsWith i s g stop

/-- An access of the instructions: how many bytes it moves, what its address must be a multiple of, whether it stores, whether it is one of R252's, and the ASI classes its instructions may use (20_memory.md R204, R215, R245, R252). -/
structure AccessRow where
  access : Access
  width : Nat
  multiple : Nat
  writes : Bool
  cacheableOnly : Bool
  classes : List AsiClass

/-- The accesses of the instructions. -/
def accessTable : List AccessRow :=
  ([1, 2, 4, 8].flatMap fun n =>
    [⟨.load n, n, n, false, false, [.normal, .io, .noFault]⟩, ⟨.store n, n, n, true, false, [.normal, .io]⟩])
  ++ ([1, 4, 8].map fun n => ⟨.atomic n, n, n, true, true, [.normal]⟩)
  ++ ([1, 2].flatMap fun n =>
    [⟨.shortLoad n, n, n, false, false, [.short]⟩, ⟨.shortStore n, n, n, true, false, [.short]⟩])
  ++ [⟨.loadExtended, 8, 8, false, false, [.normal, .io, .noFault, .reg]⟩,
      ⟨.storeExtended, 8, 8, true, false, [.normal, .io, .reg]⟩,
      ⟨.loadDouble, 8, 8, false, false, [.normal, .io, .noFault]⟩, ⟨.storeDouble, 8, 8, true, false, [.normal, .io]⟩,
      ⟨.twin, 16, 16, false, true, [.twinx]⟩, ⟨.blockLoad, 64, 64, false, true, [.block]⟩,
      ⟨.blockStore, 64, 64, true, false, [.block, .commit]⟩, ⟨.partialStore, 8, 8, true, true, [.pst]⟩]

/-- The ASIs that select each context (20_memory.md R214, column Ctx). -/
def contextAsis (ctx : AsiContext) : List Nat :=
  match ctx with
  | .primary =>
    [0x10, 0x16, 0x18, 0x1E, 0x22, 0x2A, 0x80, 0x82, 0x88, 0x8A, 0xC0, 0xC2, 0xC4, 0xC8, 0xCA, 0xCC, 0xD0, 0xD2,
     0xD8, 0xDA, 0xE0, 0xE2, 0xEA, 0xF0, 0xF8]
  | .secondary =>
    [0x11, 0x17, 0x19, 0x1F, 0x23, 0x2B, 0x81, 0x83, 0x89, 0x8B, 0xC1, 0xC3, 0xC5, 0xC9, 0xCB, 0xCD, 0xD1, 0xD3,
     0xD9, 0xDB, 0xE1, 0xE3, 0xEB, 0xF1, 0xF9]
  | .nucleus => [0x04, 0x0C, 0x27, 0x2F]

/-- The real ASIs (20_memory.md R214, column kind). -/
def realAsis : List Nat := [0x14, 0x15, 0x1C, 0x1D, 0x26, 0x2E]

/-- The little-endian ASIs (20_memory.md R214, column End). -/
def littleAsis : List Nat :=
  [0x0C, 0x18, 0x19, 0x1C, 0x1D, 0x1E, 0x1F, 0x2A, 0x2B, 0x2E, 0x2F, 0x88, 0x89, 0x8A, 0x8B,
   0xC8, 0xC9, 0xCA, 0xCB, 0xCC, 0xCD, 0xD8, 0xD9, 0xDA, 0xDB, 0xEA, 0xEB, 0xF8, 0xF9]

/-- The AS_IF_USER ASIs (20_memory.md R216). -/
def asIfUserAsis : List Nat := [0x10, 0x11, 0x16, 0x17, 0x18, 0x19, 0x1E, 0x1F, 0x22, 0x23, 0x2A, 0x2B]

/-- The ASIs of each class but that of the implementation-dependent ones, which are the rest (20_memory.md R214, column Class). -/
def classTable : List (AsiClass × List Nat) :=
  [(.normal, [0x04, 0x0C, 0x10, 0x11, 0x14, 0x18, 0x19, 0x1C, 0x80, 0x81, 0x88, 0x89]), (.io, [0x15, 0x1D]),
   (.noFault, [0x82, 0x83, 0x8A, 0x8B]),
   (.twinx, [0x22, 0x23, 0x26, 0x27, 0x2A, 0x2B, 0x2E, 0x2F, 0xE2, 0xE3, 0xEA, 0xEB]),
   (.block, [0x16, 0x17, 0x1E, 0x1F, 0xF0, 0xF1, 0xF8, 0xF9]), (.commit, [0xE0, 0xE1]),
   (.pst, [0xC0, 0xC1, 0xC2, 0xC3, 0xC4, 0xC5, 0xC8, 0xC9, 0xCA, 0xCB, 0xCC, 0xCD]),
   (.short, [0xD0, 0xD1, 0xD2, 0xD3, 0xD8, 0xD9, 0xDA, 0xDB]), (.reg, [0x20, 0x21, 0x25]),
   (.hyper, List.range' 0x30 0x50), (.reserved, List.range' 0x84 4 ++ List.range' 0x8C 0x34)]

/-- The interrupt queue registers of ASI 0x25: the address of the head, the head, the tail, and a new head (20_memory.md R227). -/
def queueTable : List (Word64 × (State → Word64) × (State → Word64) × (State → Word64 → State)) :=
  [(0x3C0, fun s => s.cpuMondo.head, fun s => s.cpuMondo.tail,
      fun s v => { s with cpuMondo := { s.cpuMondo with head := v } }),
   (0x3D0, fun s => s.devMondo.head, fun s => s.devMondo.tail,
      fun s v => { s with devMondo := { s.devMondo with head := v } }),
   (0x3E0, fun s => s.resError.head, fun s => s.resError.tail,
      fun s v => { s with resError := { s.resError with head := v } }),
   (0x3F0, fun s => s.nonresError.head, fun s => s.nonresError.tail,
      fun s v => { s with nonresError := { s.nonresError with head := v } })]

/-- The context registers of ASI 0x21: the address, the value, a new value (20_memory.md R226). -/
def contextTable : List (Word64 × (State → BitVec 16) × (State → BitVec 16 → State)) :=
  [(0x008, fun s => s.primaryContext0, fun s v => { s with primaryContext0 := v }),
   (0x010, fun s => s.secondaryContext0, fun s v => { s with secondaryContext0 := v }),
   (0x108, fun s => s.primaryContext1, fun s v => { s with primaryContext1 := v }),
   (0x110, fun s => s.secondaryContext1, fun s v => { s with secondaryContext1 := v })]

/-- The address names a register of ASI 0x20, 0x21 or 0x25 (20_memory.md R225 to R227). -/
def NamesRegister (asi : Asi) (ea : Word64) : Prop :=
  (asi = 0x20#8 ∧ ∃ k : Fin 8, ea = BitVec.ofNat 64 (8 * k.val))
  ∨ (asi = 0x21#8 ∧ ∃ row ∈ contextTable, ea = row.1)
  ∨ (asi = 0x25#8 ∧ ∃ row ∈ queueTable, ea = row.1 ∨ ea = row.1 + 8)

/-- The classes, none of them special, that a load may not use; LDXA may use `reg` (20_memory.md R215). -/
def loadUnfit : List AsiClass := [.reg, .impl, .reserved]

/-- Those that a store may not use; STXA may use `reg` (20_memory.md R215). -/
def storeUnfit : List AsiClass := .noFault :: loadUnfit

/-- Those that an atomic load-store may not use (20_memory.md R215). -/
def atomicUnfit : List AsiClass := .io :: storeUnfit

/-- FSR with `ftt`, bits 16:14, and `cexc`, bits 4:0, zero. -/
def quietFsr (fsr : Word64) : Word64 := fsr &&& ~~~0x1C01F#64

/-! ### State registers -/

/-- RDasr without a condition (44_window_and_state.md R1061 to R1066). -/
def readTable : List ((RegNum → Instr) × (State → Word64)) :=
  [(.rdy, fun s => BitVec.ofNat 64 s.y.toNat),
   (.rdccr, fun s => BitVec.ofNat 64 s.ccr.toNat),
   (.rdasi, fun s => BitVec.ofNat 64 s.asi.toNat),
   (.rdfprs, fun s => BitVec.ofNat 64 s.fprs.toNat)]

/-- RDasr and RDPR of privileged software (44_window_and_state.md R1068 to R1106). -/
def privilegedReadTable : List ((RegNum → Instr) × (State → Word64)) :=
  [(.rdsoftint, fun s => BitVec.ofNat 64 s.softint.toNat),
   (.rdtickCmpr, fun s => s.tickCmpr),
   (.rdstickCmpr, fun s => s.stickCmpr),
   (.rdprTick, fun s => s.tick),
   (.rdprTba, fun s => BitVec.ofNat 64 (s.tba.toNat * 2 ^ 15)),
   (.rdprPstate, fun s => BitVec.ofNat 64 s.pstate.toNat),
   (.rdprTl, fun s => BitVec.ofNat 64 s.tl.val),
   (.rdprPil, fun s => BitVec.ofNat 64 s.pil.toNat),
   (.rdprCwp, fun s => BitVec.ofNat 64 s.cwp.toNat),
   (.rdprCansave, fun s => BitVec.ofNat 64 s.cansave.toNat),
   (.rdprCanrestore, fun s => BitVec.ofNat 64 s.canrestore.toNat),
   (.rdprCleanwin, fun s => BitVec.ofNat 64 s.cleanwin.toNat),
   (.rdprOtherwin, fun s => BitVec.ofNat 64 s.otherwin.toNat),
   (.rdprWstate, fun s => BitVec.ofNat 64 s.wstate.toNat),
   (.rdprGl, fun s => BitVec.ofNat 64 s.gl.val)]

/-- RDPR of the current trap level (44_window_and_state.md R1091 to R1094). -/
def trapReadTable : List ((RegNum → Instr) × (TrapFrame → Word64)) :=
  [(.rdprTpc, fun f => BitVec.ofNat 64 (f.tpc.toNat * 4)),
   (.rdprTnpc, fun f => BitVec.ofNat 64 (f.tnpc.toNat * 4)),
   (.rdprTstate, fun f => f.tstate),
   (.rdprTt, fun f => BitVec.ofNat 64 f.tt.toNat)]

/-- WRasr without a condition (44_window_and_state.md R1076 to R1079). -/
def writeTable : List ((RegNum → RegOrImm 13 → Instr) × (State → Word64 → State)) :=
  [(.wry, fun s v => { s with y := BitVec.ofNat 32 v.toNat }),
   (.wrccr, fun s v => { s with ccr := BitVec.ofNat 8 v.toNat }),
   (.wrasi, fun s v => { s with asi := BitVec.ofNat 8 v.toNat }),
   (.wrfprs, fun s v => { s with fprs := BitVec.ofNat 3 v.toNat })]

/-- WRasr and WRPR of privileged software (44_window_and_state.md R1081 to R1125; what TL and GL above 2 become is D5, and the mask of PSTATE D39; log 20). -/
def privilegedWriteTable : List ((RegNum → RegOrImm 13 → Instr) × (State → Word64 → State)) :=
  [(.wrsoftintSet, fun s v => { s with softint := s.softint ||| BitVec.ofNat 17 v.toNat }),
   (.wrsoftintClr, fun s v => { s with softint := s.softint &&& ~~~BitVec.ofNat 17 v.toNat }),
   (.wrsoftint, fun s v => { s with softint := BitVec.ofNat 17 v.toNat }),
   (.wrtickCmpr, fun s v => { s with tickCmpr := v }),
   (.wrstickCmpr, fun s v => { s with stickCmpr := v }),
   (.wrprTba, fun s v => { s with tba := BitVec.ofNat 49 (v.toNat / 2 ^ 15) }),
   (.wrprPstate, fun s v => { s with pstate := BitVec.ofNat 13 v.toNat &&& 0x131E#13 }),
   (.wrprTl, fun s v => { s with tl := Fin.ofNat 3 (min (v.toNat % 8) 2) }),
   (.wrprPil, fun s v => { s with pil := BitVec.ofNat 4 v.toNat }),
   (.wrprCwp, fun s v => { s with cwp := BitVec.ofNat 3 v.toNat }),
   (.wrprCansave, fun s v => { s with cansave := BitVec.ofNat 3 v.toNat }),
   (.wrprCanrestore, fun s v => { s with canrestore := BitVec.ofNat 3 v.toNat }),
   (.wrprCleanwin, fun s v => { s with cleanwin := BitVec.ofNat 3 v.toNat }),
   (.wrprOtherwin, fun s v => { s with otherwin := BitVec.ofNat 3 v.toNat }),
   (.wrprWstate, fun s v => { s with wstate := BitVec.ofNat 6 v.toNat }),
   (.wrprGl, fun s v => { s with gl := Fin.ofNat 3 (min (v.toNat % 8) 2) })]

/-- WRPR of the current trap level (44_window_and_state.md R1111 to R1114; 10_state.md R146; the mask of TSTATE is D2, log 20). -/
def trapWriteTable : List ((RegNum → RegOrImm 13 → Instr) × (TrapFrame → Word64 → TrapFrame)) :=
  [(.wrprTpc, fun f v => { f with tpc := BitVec.ofNat 62 (v.toNat / 4) }),
   (.wrprTnpc, fun f v => { f with tnpc := BitVec.ofNat 62 (v.toNat / 4) }),
   (.wrprTstate, fun f v => { f with tstate := v &&& (0x7FFFF000007#64 ||| 0x131E00#64) }),
   (.wrprTt, fun f v => { f with tt := BitVec.ofNat 9 v.toNat })]

/-! ### Floating point -/

/-- FMOVs, FNEGs, FABSs (45_floating_point.md R1170 to R1176). -/
def moveSTable : List ((RegNum → RegNum → Instr) × (Word32 → Word32)) :=
  [(.fmovs, fun v => v),
   (.fnegs, fun v => v ^^^ 0x80000000#32),
   (.fabss, fun v => v &&& 0x7FFFFFFF#32)]

/-- FMOVd, FNEGd, FABSd (45_floating_point.md R1171 to R1177). -/
def moveDTable : List ((RegNum → RegNum → Instr) × (Word64 → Word64)) :=
  [(.fmovd, fun v => v),
   (.fnegd, fun v => v ^^^ 0x8000000000000000#64),
   (.fabsd, fun v => v &&& 0x7FFFFFFFFFFFFFFF#64)]

/-- FMOVRs (45_floating_point.md R1241 to R1252). -/
def fmovrSTable : List ((RegNum → RegNum → RegNum → Instr) × BitVec 3) :=
  [(.fmovrsz, 1), (.fmovrslez, 2), (.fmovrslz, 3), (.fmovrsnz, 5), (.fmovrsgz, 6), (.fmovrsgez, 7)]

/-- FMOVRd (45_floating_point.md R1241 to R1252). -/
def fmovrDTable : List ((RegNum → RegNum → RegNum → Instr) × BitVec 3) :=
  [(.fmovrdz, 1), (.fmovrdlez, 2), (.fmovrdlz, 3), (.fmovrdnz, 5), (.fmovrdgz, 6), (.fmovrdgez, 7)]

/-- The two-operand FPops with a single-precision result: the bit pattern and the conditions detected (45_floating_point.md R1180 to R1192). -/
def arithSTable : List ((RegNum → RegNum → RegNum → Instr) × (State → RegNum → RegNum → Nat × FpFlags)) :=
  [(.fadds, fun s a b => arith .add .single s (unpackS (readS s a)) (unpackS (readS s b))),
   (.fsubs, fun s a b => arith .sub .single s (unpackS (readS s a)) (unpackS (readS s b))),
   (.fmuls, fun s a b => arith .mul .single s (unpackS (readS s a)) (unpackS (readS s b))),
   (.fdivs, fun s a b => arith .div .single s (unpackS (readS s a)) (unpackS (readS s b)))]

/-- The two-operand FPops with a double-precision result: the bit pattern and the conditions detected (45_floating_point.md R1180 to R1192). -/
def arithDTable : List ((RegNum → RegNum → RegNum → Instr) × (State → RegNum → RegNum → Nat × FpFlags)) :=
  [(.faddd, fun s a b => arith .add .double s (unpackD (readD s a)) (unpackD (readD s b))),
   (.fsubd, fun s a b => arith .sub .double s (unpackD (readD s a)) (unpackD (readD s b))),
   (.fmuld, fun s a b => arith .mul .double s (unpackD (readD s a)) (unpackD (readD s b))),
   (.fdivd, fun s a b => arith .div .double s (unpackD (readD s a)) (unpackD (readD s b))),
   (.fsmuld, fun s a b => singleProduct (unpackS (readS s a)) (unpackS (readS s b)))]

/-- The one-operand FPops with a single-precision result (45_floating_point.md R1194 to R1208). -/
def unarySTable : List ((RegNum → RegNum → Instr) × (State → RegNum → Nat × FpFlags)) :=
  [(.fsqrts, fun s b => squareRoot .single s (unpackS (readS s b))),
   (.fxtos, fun s b => intToFp .single s (readD s b).toInt),
   (.fitos, fun s b => intToFp .single s (readS s b).toInt),
   (.fdtos, fun s b => doubleToSingle s (unpackD (readD s b)))]

/-- The one-operand FPops with a double-precision result (45_floating_point.md R1195 to R1206). -/
def unaryDTable : List ((RegNum → RegNum → Instr) × (State → RegNum → Nat × FpFlags)) :=
  [(.fsqrtd, fun s b => squareRoot .double s (unpackD (readD s b))),
   (.fxtod, fun s b => intToFp .double s (readD s b).toInt),
   (.fitod, fun s b => intToFp .double s (readS s b).toInt),
   (.fstod, fun s b => singleToDouble (unpackS (readS s b)))]

/-- The fused multiply-adds in single precision, `rs1`, `rs2`, `rs3` (45_floating_point.md R1261 to R1268). -/
def fusedSTable : List ((RegNum → RegNum → RegNum → RegNum → Instr) × (State → RegNum → RegNum → RegNum → Nat × FpFlags)) :=
  [(.fmadds, fun s a b c => fusedMultiplyAdd .single s false false (unpackS (readS s a)) (unpackS (readS s b)) (unpackS (readS s c))),
   (.fmsubs, fun s a b c => fusedMultiplyAdd .single s true false (unpackS (readS s a)) (unpackS (readS s b)) (unpackS (readS s c))),
   (.fnmsubs, fun s a b c => fusedMultiplyAdd .single s true true (unpackS (readS s a)) (unpackS (readS s b)) (unpackS (readS s c))),
   (.fnmadds, fun s a b c => fusedMultiplyAdd .single s false true (unpackS (readS s a)) (unpackS (readS s b)) (unpackS (readS s c)))]

/-- The fused multiply-adds in double precision, `rs1`, `rs2`, `rs3` (45_floating_point.md R1261 to R1268). -/
def fusedDTable : List ((RegNum → RegNum → RegNum → RegNum → Instr) × (State → RegNum → RegNum → RegNum → Nat × FpFlags)) :=
  [(.fmaddd, fun s a b c => fusedMultiplyAdd .double s false false (unpackD (readD s a)) (unpackD (readD s b)) (unpackD (readD s c))),
   (.fmsubd, fun s a b c => fusedMultiplyAdd .double s true false (unpackD (readD s a)) (unpackD (readD s b)) (unpackD (readD s c))),
   (.fnmsubd, fun s a b c => fusedMultiplyAdd .double s true true (unpackD (readD s a)) (unpackD (readD s b)) (unpackD (readD s c))),
   (.fnmaddd, fun s a b c => fusedMultiplyAdd .double s false true (unpackD (readD s a)) (unpackD (readD s b)) (unpackD (readD s c)))]

/-- FSR after an FPop with the conditions `e`, none trapping: ftt 0, cexc, and aexc with cexc added (45_floating_point.md R1155). -/
def fsrAfter (fsr : Word64) (e : FpFlags) : Word64 :=
  accrue (withFttCexc fsr 0 (ieeeDecision (trapEnable fsr) e).1) (ieeeDecision (trapEnable fsr) e).1

/-- The exception an FPop with the conditions `e` takes in `s`, where one of them traps: trap entry from `s` with ftt 1 and cexc in FSR, nothing else written before it (45_floating_point.md R1155). -/
def FpTraps (i : Instr) (s : State) (e : FpFlags) : Prop :=
  Traps i s { s with fsr := withFttCexc s.fsr 1 (ieeeDecision (trapEnable s.fsr) e).1 } 0x021

/-- The exact number a pair `mant * 2^exp` with a sign stands for. -/
def signedValue (neg : Bool) (mant : Nat) (exp : Int) : ℚ := (if neg then -1 else 1) * mant * (2 : ℚ) ^ exp

/-! #### Bit patterns (45_floating_point.md R1151) -/

/-- The width of the fraction field. -/
def fracWidth : FpFormat → Nat
  | .single => 23
  | .double => 52

/-- The width of the exponent field. -/
def expWidth : FpFormat → Nat
  | .single => 8
  | .double => 11

/-- The number of bits of the format. -/
def fpWidth (f : FpFormat) : Nat := 1 + expWidth f + fracWidth f

/-- The bias of the exponent: 127, 1023. -/
def fpBias (f : FpFormat) : Nat := 2 ^ (expWidth f - 1) - 1

/-- The sign bit. -/
def negative (f : FpFormat) (n : Nat) : Bool := n.testBit (expWidth f + fracWidth f)

/-- The exponent field. -/
def expField (f : FpFormat) (n : Nat) : Nat := n / 2 ^ fracWidth f % 2 ^ expWidth f

/-- The fraction field. -/
def fracField (f : FpFormat) (n : Nat) : Nat := n % 2 ^ fracWidth f

/-- A number: normal, subnormal or zero. -/
def isNumber (f : FpFormat) (n : Nat) : Bool := expField f n != 2 ^ expWidth f - 1

/-- An infinity. -/
def isInfinity (f : FpFormat) (n : Nat) : Bool := !isNumber f n && fracField f n == 0

/-- A NaN. -/
def isNaN (f : FpFormat) (n : Nat) : Bool := !isNumber f n && fracField f n != 0

/-- A signalling NaN: the most significant fraction bit is 0. -/
def isSignalling (f : FpFormat) (n : Nat) : Bool := isNaN f n && !n.testBit (fracWidth f - 1)

/-- The value of a number: normal or subnormal by its exponent field. -/
def numberValue (f : FpFormat) (n : Nat) : ℚ :=
  signedValue (negative f n) ((if expField f n = 0 then 0 else 2 ^ fracWidth f) + fracField f n)
    ((max (expField f n) 1 : Nat) - fpBias f - fracWidth f)

/-- The bit pattern of an infinity. -/
def infinityOf (f : FpFormat) (neg : Bool) : Nat :=
  (if neg then 2 ^ (expWidth f + fracWidth f) else 0) + (2 ^ expWidth f - 1) * 2 ^ fracWidth f

/-- The bit pattern of a zero. -/
def zeroOf (f : FpFormat) (neg : Bool) : Nat := if neg then 2 ^ (expWidth f + fracWidth f) else 0

/-- `dQNaN`: sign 0, exponent and fraction all ones (45_floating_point.md R1156). -/
def defaultNanOf (f : FpFormat) : Nat := 2 ^ (expWidth f + fracWidth f) - 1

/-- `QS`, and a quiet NaN as it is: the most significant fraction bit 1 (45_floating_point.md R1156). -/
def quietOf (f : FpFormat) (n : Nat) : Nat := if n.testBit (fracWidth f - 1) then n else n + 2 ^ (fracWidth f - 1)

/-- The conditions of a NaN operand. -/
def nanFlags (f : FpFormat) (n : Nat) : FpFlags := if isSignalling f n then .invalid else .none

/-- The NaN rule for `n` in the rs1 position and `m` in the rs2 position: what is delivered and detected (45_floating_point.md R1156; 92_eei_decisions.md D26). -/
def nanRule (f : FpFormat) (n m : Nat) : Option (Nat × FpFlags) :=
  if isSignalling f m then some (quietOf f m, .invalid)
  else if isSignalling f n then some (quietOf f n, .invalid)
  else if isNaN f m then some (m, .none)
  else if isNaN f n then some (n, .none)
  else none

/-- A single-precision NaN widened: zeros below its fraction (45_floating_point.md R1189, R1199). -/
def widenNan (n : Nat) : Nat := (if negative .single n then 2 ^ 63 else 0) + 2047 * 2 ^ 52 + fracField .single n * 2 ^ 29

/-- A double-precision NaN narrowed: the low fraction bits discarded (45_floating_point.md R1199). -/
def narrowNan (n : Nat) : Nat := (if negative .double n then 2 ^ 31 else 0) + 255 * 2 ^ 23 + fracField .double n / 2 ^ 29

/-! #### Rounding (45_floating_point.md R1153, R1154) -/

/-- `r` is `x` rounded to a multiple of `2^q` in a direction: 0 nearest, ties to even, 1 toward zero, 2 upward, 3 downward. -/
def Rounded (mode : BitVec 2) (q : Int) (x r : ℚ) : Prop :=
  ∃ n : Int, r = n * (2 : ℚ) ^ q ∧ |r - x| < (2 : ℚ) ^ q
    ∧ (mode = 0#2 → 2 * |r - x| ≤ (2 : ℚ) ^ q ∧ (2 * |r - x| = (2 : ℚ) ^ q → n % 2 = 0))
    ∧ (mode = 1#2 → |r| ≤ |x|)
    ∧ (mode = 2#2 → x ≤ r)
    ∧ (mode = 3#2 → r ≤ x)

/-- The largest finite number of a format. -/
def maxFinite (f : FpFormat) : ℚ := (2 - (2 : ℚ) ^ (-(fracWidth f : Int))) * (2 : ℚ) ^ (fpBias f : Int)

/-- The bit pattern `n` is a number of value `r`, its sign bit that of `x`. -/
def Encodes (f : FpFormat) (n : Nat) (x r : ℚ) : Prop :=
  n < 2 ^ fpWidth f ∧ isNumber f n = true ∧ negative f n = decide (x < 0) ∧ numberValue f n = r

/-- `round_to(f, x, mode)` for `x` not zero: the bit pattern and the conditions detected, `2^e` being the leading bit of `x` (45_floating_point.md R1154). -/
def RoundsTo (f : FpFormat) (mode : BitVec 2) (ufm : Bool) (x : ℚ) (res : Nat × FpFlags) : Prop :=
  ∃ (e : Int) (u : ℚ), (2 : ℚ) ^ e ≤ |x| ∧ |x| < (2 : ℚ) ^ (e + 1) ∧ Rounded mode (e - fracWidth f) x u
    ∧ if maxFinite f < |u| then
        res = (if mode = 0#2 ∨ (mode = 2#2 ∧ 0 < x) ∨ (mode = 3#2 ∧ x < 0) then infinityOf f (decide (x < 0))
            else infinityOf f (decide (x < 0)) - 1, { FpFlags.none with ovf := true, nx := true })
      else if |x| < (2 : ℚ) ^ (1 - fpBias f : Int) then
        ∃ r, Rounded mode (1 - fpBias f - fracWidth f) x r ∧ Encodes f res.1 x r
          ∧ res.2 = { FpFlags.none with unf := ufm || decide (r ≠ x), nx := decide (r ≠ x) }
      else Encodes f res.1 x u ∧ res.2 = { FpFlags.none with nx := decide (u ≠ x) }

/-- `r` is the exact number `x`, not zero, put through `roundTo` in the state's rounding mode. -/
def Delivers (f : FpFormat) (s : State) (x : ℚ) (r : Nat × FpFlags) : Prop :=
  ∃ neg mant exp, 0 < mant ∧ signedValue neg mant exp = x
    ∧ r = roundTo f (roundingMode s) (underflowMask s) neg mant exp

/-- `r` is the number of magnitude `m * 2^e`, a last bit below saying whether the exact one is larger, put through `roundTo`; `m` has more bits than any format keeps. -/
def DeliversSticky (f : FpFormat) (s : State) (neg : Bool) (m : Nat) (e : Int) (exact : Bool) (r : Nat × FpFlags) : Prop :=
  2 ^ 57 ≤ m ∧ r = roundTo f (roundingMode s) (underflowMask s) neg (2 * m + (if exact then 0 else 1)) (e - 1)

/-- What the sum of a number and a number is: `x` and `y` the operands' values, `z` the sign of the result where both are zero, `n` and `m` the operands delivered where the other is zero (45_floating_point.md R1270, R1271; log 41). -/
def SumGives (f : FpFormat) (s : State) (x y : ℚ) (xneg yneg : Bool) (n m : Nat) (r : Nat × FpFlags) : Prop :=
  if x = 0 ∧ y = 0 then r = (zeroOf f (if xneg = yneg then xneg else roundingMode s == 3#2), .none)
  else if x = 0 then r = (m, .none)
  else if y = 0 then r = (n, .none)
  else if x + y = 0 then r = (zeroOf f (roundingMode s == 3#2), .none)
  else Delivers f s (x + y) r

/-- The bit pattern with its sign complemented. -/
def flipSign (f : FpFormat) (n : Nat) : Nat := n ^^^ 2 ^ (expWidth f + fracWidth f)

/-- What a fused multiply-add of `(a * b) + c`, or `- c` where `minus`, negated where `negate`, gives (45_floating_point.md R1260). -/
def FusedGives (f : FpFormat) (s : State) (minus negate : Bool) (a b c : Nat) (r : Nat × FpFlags) : Prop :=
  let sp := negative f a ^^ negative f b
  let sc := negative f c ^^ minus
  let x := numberValue f a * numberValue f b
  let y := if minus then -numberValue f c else numberValue f c
  let timesZero := (isInfinity f a && isNumber f b && fracField f b == 0 && expField f b == 0)
    || (isInfinity f b && isNumber f a && fracField f a == 0 && expField f a == 0)
  let product := if timesZero then some (defaultNanOf f, FpFlags.invalid) else nanRule f a b
  match product with
  | some (v, e) =>
    if isSignalling f c then r = (quietOf f c, .invalid) else if isNaN f c then r = (c, e) else r = (v, e)
  | none =>
    if isNaN f c then r = (quietOf f c, nanFlags f c)
    else if isInfinity f a || isInfinity f b then
      (if isInfinity f c && sc != sp then r = (defaultNanOf f, .invalid) else r = (infinityOf f (sp ^^ negate), .none))
    else if isInfinity f c then r = (infinityOf f (sc ^^ negate), .none)
    else if x + y = 0 then
      r = (zeroOf f ((if x = 0 ∧ sp = sc then sp else roundingMode s == 3#2) ^^ negate), .none)
    else Delivers f s (if negate then -(x + y) else x + y) r

/-- The instructions that test the FPU enable bits before anything else (10_state.md R101). -/
def needsFpu : Instr → Bool
  | .ldf _ _ _ | .lddf _ _ _ | .stf _ _ _ | .stdf _ _ _ | .ldfa _ _ _ | .stfa _ _ _ | .ldfsr _ _ | .ldxfsr _ _
  | .stfsr _ _ | .stxfsr _ _ | .ldshortf _ _ _ _ | .stshortf _ _ _ _ | .stpartialf _ _ _ _ | .fmovs _ _ | .fmovd _ _
  | .fnegs _ _ | .fnegd _ _ | .fabss _ _ | .fabsd _ _ | .fsqrts _ _ | .fsqrtd _ _ | .fstox _ _ | .fdtox _ _
  | .fxtos _ _ | .fxtod _ _ | .fitos _ _ | .fdtos _ _ | .fitod _ _ | .fstod _ _ | .fstoi _ _ | .fdtoi _ _
  | .fadds _ _ _ | .faddd _ _ _ | .fsubs _ _ _ | .fsubd _ _ _ | .fmuls _ _ _ | .fmuld _ _ _ | .fdivs _ _ _
  | .fdivd _ _ _ | .fsmuld _ _ _ | .fcmps _ _ _ | .fcmpd _ _ _ | .fcmpes _ _ _ | .fcmped _ _ _ | .fmovsicc _ _ _
  | .fmovsxcc _ _ _ | .fmovsfcc _ _ _ _ | .fmovdicc _ _ _ | .fmovdxcc _ _ _ | .fmovdfcc _ _ _ _ | .fmovrsz _ _ _
  | .fmovrslez _ _ _ | .fmovrslz _ _ _ | .fmovrsnz _ _ _ | .fmovrsgz _ _ _ | .fmovrsgez _ _ _ | .fmovrdz _ _ _
  | .fmovrdlez _ _ _ | .fmovrdlz _ _ _ | .fmovrdnz _ _ _ | .fmovrdgz _ _ _ | .fmovrdgez _ _ _ | .fmadds _ _ _ _
  | .fmaddd _ _ _ _ | .fmsubs _ _ _ _ | .fmsubd _ _ _ _ | .fnmsubs _ _ _ _ | .fnmsubd _ _ _ _ | .fnmadds _ _ _ _
  | .fnmaddd _ _ _ _ | .alignaddress _ _ _ | .bmask _ _ _ | .alignaddressLittle _ _ _ | .fcmple16 _ _ _
  | .fcmpne16 _ _ _ | .fcmple32 _ _ _ | .fcmpne32 _ _ _ | .fcmpgt16 _ _ _ | .fcmpeq16 _ _ _ | .fcmpgt32 _ _ _
  | .fcmpeq32 _ _ _ | .fmul8x16 _ _ _ | .fmul8x16au _ _ _ | .fmul8x16al _ _ _ | .fmul8sux16 _ _ _ | .fmul8ulx16 _ _ _
  | .fmuld8sux16 _ _ _ | .fmuld8ulx16 _ _ _ | .fpack32 _ _ _ | .fpack16 _ _ | .fpackfix _ _ | .pdist _ _ _
  | .faligndata _ _ _ | .fpmerge _ _ _ | .bshuffle _ _ _ | .fexpand _ _ | .fpadd16 _ _ _ | .fpadd16s _ _ _
  | .fpadd32 _ _ _ | .fpadd32s _ _ _ | .fpsub16 _ _ _ | .fpsub16s _ _ _ | .fpsub32 _ _ _ | .fpsub32s _ _ _ | .fzerod _
  | .fzeros _ | .fnord _ _ _ | .fnors _ _ _ | .fandnot2d _ _ _ | .fandnot2s _ _ _ | .fnot2d _ _ | .fnot2s _ _
  | .fandnot1d _ _ _ | .fandnot1s _ _ _ | .fnot1d _ _ | .fnot1s _ _ | .fxord _ _ _ | .fxors _ _ _ | .fnandd _ _ _
  | .fnands _ _ _ | .fandd _ _ _ | .fands _ _ _ | .fxnord _ _ _ | .fxnors _ _ _ | .fsrc1d _ _ | .fsrc1s _ _
  | .fornot2d _ _ _ | .fornot2s _ _ _ | .fsrc2d _ _ | .fsrc2s _ _ | .fornot1d _ _ _ | .fornot1s _ _ _ | .ford _ _ _
  | .fors _ _ _ | .foned _ | .fones _ | .siam _ | .rdgsr _ | .wrgsr _ _ | .fba _ _ | .fbn _ _ | .fbu _ _ | .fbg _ _
  | .fbug _ _ | .fbl _ _ | .fbul _ _ | .fblg _ _ | .fbne _ _ | .fbe _ _ | .fbue _ _ | .fbge _ _ | .fbuge _ _
  | .fble _ _ | .fbule _ _ | .fbo _ _ | .fbpa _ _ _ _ | .fbpn _ _ _ _ | .fbpu _ _ _ _ | .fbpg _ _ _ _ | .fbpug _ _ _ _
  | .fbpl _ _ _ _ | .fbpul _ _ _ _ | .fbplg _ _ _ _ | .fbpne _ _ _ _ | .fbpe _ _ _ _ | .fbpue _ _ _ _ | .fbpge _ _ _ _
  | .fbpuge _ _ _ _ | .fbple _ _ _ _ | .fbpule _ _ _ _ | .fbpo _ _ _ _ | .movfa _ _ _ | .movfn _ _ _ | .movfu _ _ _
  | .movfg _ _ _ | .movfug _ _ _ | .movfl _ _ _ | .movful _ _ _ | .movflg _ _ _ | .movfne _ _ _ | .movfe _ _ _
  | .movfue _ _ _ | .movfge _ _ _ | .movfuge _ _ _ | .movfle _ _ _ | .movfule _ _ _ | .movfo _ _ _ => true
  | _ => false

/-! ### VIS -/

/-- The logical operations of two operands, 64 bits (46_vis.md R1493 to R1512). -/
def logicalDTable : List ((RegNum → RegNum → RegNum → Instr) × (Word64 → Word64 → Word64)) :=
  [(.ford, fun a b => a ||| b),
   (.fnord, fun a b => ~~~(a ||| b)),
   (.fandd, fun a b => a &&& b),
   (.fnandd, fun a b => ~~~(a &&& b)),
   (.fxord, fun a b => a ^^^ b),
   (.fxnord, fun a b => ~~~(a ^^^ b)),
   (.fornot1d, fun a b => ~~~a ||| b),
   (.fornot2d, fun a b => a ||| ~~~b),
   (.fandnot1d, fun a b => ~~~a &&& b),
   (.fandnot2d, fun a b => a &&& ~~~b)]

/-- The logical operations of two operands, 32 bits (46_vis.md R1493 to R1512). -/
def logicalSTable : List ((RegNum → RegNum → RegNum → Instr) × (Word32 → Word32 → Word32)) :=
  [(.fors, fun a b => a ||| b),
   (.fnors, fun a b => ~~~(a ||| b)),
   (.fands, fun a b => a &&& b),
   (.fnands, fun a b => ~~~(a &&& b)),
   (.fxors, fun a b => a ^^^ b),
   (.fxnors, fun a b => ~~~(a ^^^ b)),
   (.fornot1s, fun a b => ~~~a ||| b),
   (.fornot2s, fun a b => a ||| ~~~b),
   (.fandnot1s, fun a b => ~~~a &&& b),
   (.fandnot2s, fun a b => a &&& ~~~b)]

/-- Element `k` of 16 bits, 0 the least significant. -/
def half (v : Word64) (k : Nat) : Half := v.extractLsb' (16 * k) 16

/-- Element `k` of 32 bits, 0 the least significant. -/
def word (v : Word64) (k : Nat) : Word32 := v.extractLsb' (32 * k) 32

/-- Element `k` of 16 bits of a single register, 0 the least significant. -/
def halfS (v : Word32) (k : Nat) : Half := v.extractLsb' (16 * k) 16

/-- Byte `k` of a single register, 0 the least significant. -/
def byteS (v : Word32) (k : Nat) : Byte := v.extractLsb' (8 * k) 8

/-- `GSR.scale`, bits 7:3 (10_state.md R103). -/
def scale (s : State) : Nat := s.gsr.toNat / 8 % 32

/-- An integer clipped to a range. -/
def clip (lo hi v : Int) : Int := if v < lo then lo else if hi < v then hi else v

/-- Four 16-bit elements of a double register, each from elements of the same number (46_vis.md R1452 to R1456, R1465, R1471, R1475; the rounding is 92_eei_decisions.md D29). -/
def halvesTable : List ((RegNum → RegNum → RegNum → Instr) × (State → RegNum → RegNum → Nat → Int)) :=
  [(.fpadd16, fun s a b k => ((half (readD s a) k).toInt + (half (readD s b) k).toInt)),
   (.fpsub16, fun s a b k => ((half (readD s a) k).toInt - (half (readD s b) k).toInt)),
   (.fmul8x16, fun s a b k => (((byteS (readS s a) k).toNat * (half (readD s b) k).toInt + 0x80) / 256)),
   (.fmul8x16au, fun s a b k => (((byteS (readS s a) k).toNat * (halfS (readS s b) 1).toInt + 0x80) / 256)),
   (.fmul8x16al, fun s a b k => (((byteS (readS s a) k).toNat * (halfS (readS s b) 0).toInt + 0x80) / 256)),
   (.fmul8sux16, fun s a b k => ((((half (readD s a) k).toInt / 256) * (half (readD s b) k).toInt + 0x80) / 256)),
   (.fmul8ulx16, fun s a b k => ((((half (readD s a) k).toNat % 256 : Nat) * (half (readD s b) k).toInt + 0x8000) / 65536)),
   (.fpmerge, fun s a b k => ((byteS (readS s a) k).toNat * 256 + (byteS (readS s b) k).toNat : Nat))]

/-- Two 32-bit elements of a double register (46_vis.md R1457, R1458, R1462, R1473, R1477). -/
def wordsTable : List ((RegNum → RegNum → RegNum → Instr) × (State → RegNum → RegNum → Nat → Int)) :=
  [(.fpadd32, fun s a b k => ((word (readD s a) k).toInt + (word (readD s b) k).toInt)),
   (.fpsub32, fun s a b k => ((word (readD s a) k).toInt - (word (readD s b) k).toInt)),
   (.fmuld8sux16, fun s a b k => ((halfS (readS s a) k).toInt / 256 * (halfS (readS s b) k).toInt * 256)),
   (.fmuld8ulx16, fun s a b k => (((halfS (readS s a) k).toNat % 256 : Nat) * (halfS (readS s b) k).toInt)),
   (.fpack32, fun s a b k => (((word (readD s a) k).toNat * 256 : Nat) + clip 0 255 ((word (readD s b) k).toInt * 2 ^ scale s / 2 ^ 23)))]

/-- Two 16-bit elements of a single register (46_vis.md R1472, R1476). -/
def halvesSTable : List ((RegNum → RegNum → RegNum → Instr) × (State → RegNum → RegNum → Nat → Int)) :=
  [(.fpadd16s, fun s a b k => ((halfS (readS s a) k).toInt + (halfS (readS s b) k).toInt)),
   (.fpsub16s, fun s a b k => ((halfS (readS s a) k).toInt - (halfS (readS s b) k).toInt))]

/-- FCMP on 16-bit elements (46_vis.md R1441 to R1446). -/
def compareHalfTable : List ((RegNum → RegNum → RegNum → Instr) × (Half → Half → Bool)) :=
  [(.fcmple16, fun a b => decide (a.toInt ≤ b.toInt)),
   (.fcmpne16, fun a b => decide (a ≠ b)),
   (.fcmpgt16, fun a b => decide (b.toInt < a.toInt)),
   (.fcmpeq16, fun a b => decide (a = b))]

/-- FCMP on 32-bit elements (46_vis.md R1443 to R1448). -/
def compareWordTable : List ((RegNum → RegNum → RegNum → Instr) × (Word32 → Word32 → Bool)) :=
  [(.fcmple32, fun a b => decide (a.toInt ≤ b.toInt)),
   (.fcmpne32, fun a b => decide (a ≠ b)),
   (.fcmpgt32, fun a b => decide (b.toInt < a.toInt)),
   (.fcmpeq32, fun a b => decide (a = b))]

/-- An EDGE row: the form that leaves CCR, the form that sets it, the bytes of an element, little-endian. -/
structure EdgeRow where
  plain : RegNum → RegNum → RegNum → Instr
  setsCcr : RegNum → RegNum → RegNum → Instr
  bytes : Nat
  little : Bool

/-- EDGE (46_vis.md R1421 to R1432). -/
def edgeTable : List EdgeRow :=
  [⟨.edge8n, .edge8cc, 1, false⟩, ⟨.edge8ln, .edge8lcc, 1, true⟩, ⟨.edge16n, .edge16cc, 2, false⟩,
   ⟨.edge16ln, .edge16lcc, 2, true⟩, ⟨.edge32n, .edge32cc, 4, false⟩, ⟨.edge32ln, .edge32lcc, 4, true⟩]

/-- Bit `b` of an EDGE mask: its element lies at or after the first address and, where both lie in one 8-byte block, at or before the last (46_vis.md R1420, Table 7-6). -/
def edgeBit (row : EdgeRow) (am : Bool) (first last : Word64) (b : Nat) : Bool :=
  let n := 8 / row.bytes
  let element := if row.little then b else n - 1 - b
  let block (a : Word64) : Nat := (if am then a.toNat % 2 ^ 32 else a.toNat) / 8
  decide (b < n) && decide (first.toNat % 8 / row.bytes ≤ element)
    && (decide (block first ≠ block last) || decide (element ≤ last.toNat % 8 / row.bytes))

/-- The ARRAY constructors and what each shifts the byte address by (46_vis.md R1411 to R1413). -/
def arrayTable : List ((RegNum → RegNum → RegNum → Instr) × Nat) := [(.array8, 0), (.array16, 1), (.array32, 2)]

/-- The blocked byte address of a size `n`, its fields given by their places in `R[rs1]` (46_vis.md R1410). -/
def blocked (coords : Word64) (n : Nat) : Nat :=
  let take (lo width at_ : Nat) : Nat := coords.toNat / 2 ^ lo % 2 ^ width * 2 ^ at_
  take 11 2 0 + take 33 2 2 + take 55 1 4 + take 13 4 5 + take 35 4 9 + take 56 4 13 + take 17 n 17
    + take 39 n (17 + n) + take 60 4 (17 + 2 * n)

/-- `level_pending(n)` (60_exceptions.md R1665). -/
def Pending (s : State) (n : Nat) : Prop :=
  s.softint.getLsbD n = true ∨ s.extReq.getLsbD n = true
    ∨ (n = 14 ∧ (s.softint.getLsbD 0 = true ∨ s.softint.getLsbD 16 = true))

end Sys2Proof.Claims

open Sys2Proof.Claims

/-! ### Registers -/

/-- R54, whose array layout is the spec's own naming: which storage an R register number names, and what reading and writing it do; R52: register 0. -/
def Obligations.RegisterFileLayout : Prop :=
  (∀ (s : State) (n : RegNum),
      (n = 0#5 → readReg s n = 0)
      ∧ (∀ k : Fin 21, 1 ≤ n.toNat ∧ n.toNat ≤ 7 ∧ k.val = 7 * s.gl.val + (n.toNat - 1) → readReg s n = s.globals[k])
      ∧ (∀ k : Fin 128, 8 ≤ n.toNat ∧ n.toNat ≤ 15 ∧ k.val = 16 * ((s.cwp.toNat + 1) % 8) + (n.toNat - 8)
          → readReg s n = s.windows[k])
      ∧ (∀ k : Fin 128, 16 ≤ n.toNat ∧ n.toNat ≤ 23 ∧ k.val = 16 * s.cwp.toNat + 8 + (n.toNat - 16)
          → readReg s n = s.windows[k])
      ∧ (∀ k : Fin 128, 24 ≤ n.toNat ∧ k.val = 16 * s.cwp.toNat + (n.toNat - 24) → readReg s n = s.windows[k]))
  ∧ ∀ (s : State) (m n : RegNum) (v : Word64),
      writeReg s 0#5 v = s ∧ (m ≠ 0#5 → readReg (writeReg s m v) m = v)
      ∧ (n ≠ m → readReg (writeReg s m v) n = readReg s n)

/-- R55: the outs before a SAVE are the ins after it, the ins before a RESTORE the outs after it. R71: a double register is two single ones. -/
def Obligations.OverlappingRegisters : Prop :=
  (∀ (s : State) (n : RegNum), 8 ≤ n.toNat → n.toNat ≤ 15 → readReg (saveWindow s) (n + 16) = readReg s n)
  ∧ (∀ (s : State) (n : RegNum), 24 ≤ n.toNat → readReg (restoreWindow s) (n - 16) = readReg s n)
  ∧ (∀ (s : State) (f : RegNum), f.getLsbD 0 = false → readD s f = readS s f ++ readS s (f ||| 1#5))
  ∧ (∀ (s : State) (f g : RegNum) (v : Word64), f.getLsbD 0 = false →
      readS (writeD s f v) g
        = if g = f then v.extractLsb' 32 32 else if g = f ||| 1#5 then v.extractLsb' 0 32 else readS s g)
  ∧ ∀ (s : State) (f : RegNum) (v : Word32), f.getLsbD 0 = false →
      readD (writeS s f v) f = v ++ readS s (f ||| 1#5) ∧ readD (writeS s (f ||| 1#5) v) f = readS s f ++ v

/-! ### Condition codes -/

/-- R350 and R351, row by row, and that bit 3 of `cond` negates; the six conditions of R352 on the signed value, and that a BPr word with either reserved `rcond` does not decode. -/
def Obligations.ConditionTables : Prop :=
  (∀ n z v c : Bool, let cc := nzvc n z v c
      iccTest 0b1000 cc = true ∧ iccTest 0b0000 cc = false ∧ iccTest 0b1001 cc = !z ∧ iccTest 0b0001 cc = z
      ∧ iccTest 0b1010 cc = !(z || (n ^^ v)) ∧ iccTest 0b0010 cc = (z || (n ^^ v))
      ∧ iccTest 0b1011 cc = !(n ^^ v) ∧ iccTest 0b0011 cc = (n ^^ v)
      ∧ iccTest 0b1100 cc = !(c || z) ∧ iccTest 0b0100 cc = (c || z) ∧ iccTest 0b1101 cc = !c ∧ iccTest 0b0101 cc = c
      ∧ iccTest 0b1110 cc = !n ∧ iccTest 0b0110 cc = n ∧ iccTest 0b1111 cc = !v ∧ iccTest 0b0111 cc = v)
  ∧ (∀ (cond cc : BitVec 4), iccTest (cond ^^^ 0b1000) cc = !iccTest cond cc)
  ∧ (∀ f : BitVec 2,
      fccTest 0b1000 f = true ∧ fccTest 0b0000 f = false ∧ fccTest 0b0111 f = decide (f = 3)
      ∧ fccTest 0b0110 f = decide (f = 2) ∧ fccTest 0b0101 f = decide (f = 2 ∨ f = 3) ∧ fccTest 0b0100 f = decide (f = 1)
      ∧ fccTest 0b0011 f = decide (f = 1 ∨ f = 3) ∧ fccTest 0b0010 f = decide (f = 1 ∨ f = 2)
      ∧ fccTest 0b0001 f = decide (f = 1 ∨ f = 2 ∨ f = 3) ∧ fccTest 0b1001 f = decide (f = 0)
      ∧ fccTest 0b1010 f = decide (f = 0 ∨ f = 3) ∧ fccTest 0b1011 f = decide (f = 0 ∨ f = 2)
      ∧ fccTest 0b1100 f = decide (f = 0 ∨ f = 2 ∨ f = 3) ∧ fccTest 0b1101 f = decide (f = 0 ∨ f = 1)
      ∧ fccTest 0b1110 f = decide (f = 0 ∨ f = 1 ∨ f = 3) ∧ fccTest 0b1111 f = decide (f = 0 ∨ f = 1 ∨ f = 2))
  ∧ (∀ (cond : BitVec 4) (f : BitVec 2), fccTest (cond ^^^ 0b1000) f = !fccTest cond f)
  ∧ (∀ v : Word64,
      rcondTest 0b001 v = decide (v.toInt = 0) ∧ rcondTest 0b010 v = decide (v.toInt ≤ 0)
      ∧ rcondTest 0b011 v = decide (v.toInt < 0) ∧ rcondTest 0b101 v = decide (v.toInt ≠ 0)
      ∧ rcondTest 0b110 v = decide (0 < v.toInt) ∧ rcondTest 0b111 v = decide (0 ≤ v.toInt))
  ∧ ∀ w : Word32, w.extractLsb' 30 2 = 0b00 → w.extractLsb' 22 3 = 0b011 → w.extractLsb' 25 3 ∈ [0b000#3, 0b100#3] →
      Undecoded w

/-- R401, R402, R403: the eight bits of CCR, `xcc` in 7:4 and `icc` in 3:0, each `n z v c`, in unbounded arithmetic. That the carry in counts is the spec's own inference, marked so in R401 and R402. The order `n z v c` within each half is R97's general knowledge (log 23). -/
def Obligations.ConditionCodeValues : Prop :=
  (∀ (a b : Word64) (cin : Bool),
      let sum := (a.toNat + b.toNat + cin.toNat) % 2 ^ 64
      let cc := ccAdd a b cin
      cc.getLsbD 7 = sum.testBit 63 ∧ cc.getLsbD 6 = decide (sum = 0)
      ∧ cc.getLsbD 5 = ((a.getLsbD 63 == b.getLsbD 63) && (sum.testBit 63 != a.getLsbD 63))
      ∧ cc.getLsbD 4 = decide (2 ^ 64 ≤ a.toNat + b.toNat + cin.toNat)
      ∧ cc.getLsbD 3 = sum.testBit 31 ∧ cc.getLsbD 2 = decide (sum % 2 ^ 32 = 0)
      ∧ cc.getLsbD 1 = ((a.getLsbD 31 == b.getLsbD 31) && (sum.testBit 31 != a.getLsbD 31))
      ∧ cc.getLsbD 0 = decide (2 ^ 32 ≤ a.toNat % 2 ^ 32 + b.toNat % 2 ^ 32 + cin.toNat))
  ∧ (∀ (a b : Word64) (cin : Bool),
      let diff := (a.toNat + (2 ^ 65 - b.toNat - cin.toNat)) % 2 ^ 64
      let cc := ccSub a b cin
      cc.getLsbD 7 = diff.testBit 63 ∧ cc.getLsbD 6 = decide (diff = 0)
      ∧ cc.getLsbD 5 = ((a.getLsbD 63 != b.getLsbD 63) && (diff.testBit 63 != a.getLsbD 63))
      ∧ cc.getLsbD 4 = decide (a.toNat < b.toNat + cin.toNat)
      ∧ cc.getLsbD 3 = diff.testBit 31 ∧ cc.getLsbD 2 = decide (diff % 2 ^ 32 = 0)
      ∧ cc.getLsbD 1 = ((a.getLsbD 31 != b.getLsbD 31) && (diff.testBit 31 != a.getLsbD 31))
      ∧ cc.getLsbD 0 = decide (a.toNat % 2 ^ 32 < b.toNat % 2 ^ 32 + cin.toNat))
  ∧ ∀ r : Word64,
      let cc := ccLogic r
      cc.getLsbD 7 = r.getLsbD 63 ∧ cc.getLsbD 6 = decide (r = 0) ∧ cc.getLsbD 5 = false ∧ cc.getLsbD 4 = false
      ∧ cc.getLsbD 3 = r.getLsbD 31 ∧ cc.getLsbD 2 = decide (r.toNat % 2 ^ 32 = 0) ∧ cc.getLsbD 1 = false
      ∧ cc.getLsbD 0 = false

/-- After a compare, the conditions of R350 compare the operands as signed and as unsigned integers, at 64 bits in `xcc` and at 32 bits in `icc` (R402). -/
def Obligations.CompareThenTest : Prop :=
  ∀ a b : Word64,
    let xcc := (ccSub a b false).extractLsb' 4 4
    let icc := (ccSub a b false).extractLsb' 0 4
    let x : Word32 := a.setWidth 32
    let y : Word32 := b.setWidth 32
    iccTest 0b0001 xcc = decide (a = b) ∧ iccTest 0b1001 xcc = decide (a ≠ b)
    ∧ iccTest 0b1010 xcc = decide (b.toInt < a.toInt) ∧ iccTest 0b0010 xcc = decide (a.toInt ≤ b.toInt)
    ∧ iccTest 0b1011 xcc = decide (b.toInt ≤ a.toInt) ∧ iccTest 0b0011 xcc = decide (a.toInt < b.toInt)
    ∧ iccTest 0b1100 xcc = decide (b.toNat < a.toNat) ∧ iccTest 0b0100 xcc = decide (a.toNat ≤ b.toNat)
    ∧ iccTest 0b1101 xcc = decide (b.toNat ≤ a.toNat) ∧ iccTest 0b0101 xcc = decide (a.toNat < b.toNat)
    ∧ iccTest 0b0001 icc = decide (x = y) ∧ iccTest 0b1001 icc = decide (x ≠ y)
    ∧ iccTest 0b1010 icc = decide (y.toInt < x.toInt) ∧ iccTest 0b0010 icc = decide (x.toInt ≤ y.toInt)
    ∧ iccTest 0b1011 icc = decide (y.toInt ≤ x.toInt) ∧ iccTest 0b0011 icc = decide (x.toInt < y.toInt)
    ∧ iccTest 0b1100 icc = decide (y.toNat < x.toNat) ∧ iccTest 0b0100 icc = decide (x.toNat ≤ y.toNat)
    ∧ iccTest 0b1101 icc = decide (y.toNat ≤ x.toNat) ∧ iccTest 0b0101 icc = decide (x.toNat < y.toNat)

/-! ### Integer instructions -/

/-- ADD, ADDC, SUB, SUBC, AND, ANDN, OR, ORN, XOR, XNOR, MULX, SETHI, POPC: the result, and nothing else changes (R404 to R420, R430, R439, R456, R458). -/
def Obligations.IntegerResults : Prop :=
  (∀ e ∈ aluTable, ∀ (s : State) (rd rs1 : RegNum) (op2 : RegOrImm 13),
      GivesR (e.1 rd rs1 op2) s s rd
        (e.2 (readReg s rs1) (second s op2) (if s.ccr.getLsbD 0 then 1 else 0)))
  ∧ (∀ (s : State) (rd : RegNum) (imm22 : BitVec 22),
      GivesR (.sethi rd imm22) s s rd (BitVec.ofNat 64 (imm22.toNat * 2 ^ 10)))
  ∧ ∀ (s : State) (rd : RegNum) (op2 : RegOrImm 13),
      GivesR (.popc rd op2) s s rd (BitVec.ofNat 64 ((List.range 64).countP fun i => (second s op2).getLsbD i))

/-- SLL, SRL, SRA, SLLX, SRLX, SRAX as multiplication and division by a power of two (R432 to R438). -/
def Obligations.ShiftResults : Prop :=
  (∀ (s : State) (rd rs1 : RegNum) (c : RegOrImm 5),
      GivesR (.sll rd rs1 c) s s rd (BitVec.ofNat 64 ((readReg s rs1).toNat * 2 ^ count s c 32))
      ∧ GivesR (.srl rd rs1 c) s s rd (BitVec.ofNat 64 ((readReg s rs1).toNat % 2 ^ 32 / 2 ^ count s c 32))
      ∧ GivesR (.sra rd rs1 c) s s rd (BitVec.ofInt 64 (((readReg s rs1).setWidth 32).toInt / 2 ^ count s c 32)))
  ∧ ∀ (s : State) (rd rs1 : RegNum) (c : RegOrImm 6),
      GivesR (.sllx rd rs1 c) s s rd (BitVec.ofNat 64 ((readReg s rs1).toNat * 2 ^ count s c 64))
      ∧ GivesR (.srlx rd rs1 c) s s rd (BitVec.ofNat 64 ((readReg s rs1).toNat / 2 ^ count s c 64))
      ∧ GivesR (.srax rd rs1 c) s s rd (BitVec.ofInt 64 ((readReg s rs1).toInt / 2 ^ count s c 64))

/-- ADDcc, ADDCcc, SUBcc, SUBCcc and the logical forms that set CCR: the result and CCR, even where `rd` is 0 (R405 to R431). -/
def Obligations.IntegerCcResults : Prop :=
  ∀ e ∈ aluCcTable, ∀ (s : State) (rd rs1 : RegNum) (op2 : RegOrImm 13),
    GivesR (e.1 rd rs1 op2) s { s with ccr := e.2.2 (readReg s rs1) (second s op2) (s.ccr.getLsbD 0) } rd
      (e.2.1 (readReg s rs1) (second s op2) (s.ccr.getLsbD 0))

/-- UMUL, SMUL, UMULcc, SMULcc and MULScc: the product in `R[rd]`, its high word in Y (R442 to R445); one step of a product (R450). That `xcc.z` of MULScc comes from the full sum, where `rd` is 0 too, is the spec's own inference, bracketed so in R450: "derived: from rule R400(f); the manual writes R[rd]{63:0} = 0". -/
def Obligations.MultiplyResults : Prop :=
  ∀ (s : State) (rd rs1 : RegNum) (op2 : RegOrImm 13),
    let a := readReg s rs1
    let b := second s op2
    let u := a.toNat % 2 ^ 32 * (b.toNat % 2 ^ 32)
    let p := BitVec.ofInt 64 ((a.setWidth 32).toInt * (b.setWidth 32).toInt)
    GivesR (.umul rd rs1 op2) s { s with y := BitVec.ofNat 32 (u / 2 ^ 32) } rd (BitVec.ofNat 64 u)
    ∧ GivesR (.umulcc rd rs1 op2) s { s with y := BitVec.ofNat 32 (u / 2 ^ 32), ccr := ccLogic (BitVec.ofNat 64 u) } rd
        (BitVec.ofNat 64 u)
    ∧ GivesR (.smul rd rs1 op2) s { s with y := p.extractLsb' 32 32 } rd p
    ∧ GivesR (.smulcc rd rs1 op2) s { s with y := p.extractLsb' 32 32, ccr := ccLogic p } rd p
    ∧ let sh := (if s.ccr.getLsbD 3 != s.ccr.getLsbD 1 then 2 ^ 31 else 0) + a.toNat % 2 ^ 32 / 2
      let addend := if s.y.getLsbD 0 then b.toNat % 2 ^ 32 else 0
      let r := sh + addend
      GivesR (.mulscc rd rs1 op2) s
        { s with
          y := BitVec.ofNat 32 ((if a.getLsbD 0 then 2 ^ 31 else 0) + s.y.toNat / 2)
          ccr := bit false ++ bit (decide (r = 0)) ++ bit false ++ bit false
            ++ bit (r.testBit 31) ++ bit (decide (r % 2 ^ 32 = 0))
            ++ bit ((sh.testBit 31 == addend.testBit 31) && (r.testBit 31 != sh.testBit 31)) ++ bit (r.testBit 32) }
        rd (BitVec.ofNat 64 r)

/-- UDIVX and SDIVX; UDIV, SDIV, UDIVcc and SDIVcc with Y left open; a zero divisor traps (R440, R441, R446 to R449). That SDIVX truncates toward zero is the spec's own inference, bracketed so in R440: derived from the rounding toward zero of R448, which section 7.66 does not restate. What Y holds after the 64-by-32-bit forms is not said: the source leaves it undefined (log 10). -/
def Obligations.DivideResults : Prop :=
  (∀ (s : State) (rd rs1 : RegNum) (op2 : RegOrImm 13),
    let a := readReg s rs1
    let b := second s op2
    (b ≠ 0 → GivesR (.udivx rd rs1 op2) s s rd (BitVec.ofNat 64 (a.toNat / b.toNat))
      ∧ GivesR (.sdivx rd rs1 op2) s s rd (BitVec.ofInt 64 (a.toInt.tdiv b.toInt)))
    ∧ (b = 0 → Traps (.udivx rd rs1 op2) s s 0x028 ∧ Traps (.sdivx rd rs1 op2) s s 0x028))
  ∧ ∀ (s : State) (rd rs1 : RegNum) (op2 : RegOrImm 13),
    let n : Word64 := s.y ++ (readReg s rs1).setWidth 32
    let d : Word32 := (second s op2).setWidth 32
    let u := n.toNat / d.toNat
    let q := n.toInt.tdiv d.toInt
    let ur := BitVec.ofNat 64 (min u (2 ^ 32 - 1))
    let sr := BitVec.ofInt 64 (max (-2 ^ 31) (min q (2 ^ 31 - 1)))
    (d ≠ 0 →
      (∃ y f, GivesR (.udiv rd rs1 op2) s { s with y := y, freeCount := f } rd ur)
      ∧ (∃ y f, GivesR (.sdiv rd rs1 op2) s { s with y := y, freeCount := f } rd sr)
      ∧ (∃ y f, GivesR (.udivcc rd rs1 op2) s
          { s with y := y, freeCount := f, ccr := withIccV (ccLogic ur) (decide (2 ^ 32 ≤ u)) } rd ur)
      ∧ ∃ y f, GivesR (.sdivcc rd rs1 op2) s
          { s with y := y, freeCount := f, ccr := withIccV (ccLogic sr) (decide (2 ^ 31 ≤ q ∨ q < -2 ^ 31)) } rd sr)
    ∧ (d = 0 → Traps (.udiv rd rs1 op2) s s 0x028 ∧ Traps (.sdiv rd rs1 op2) s s 0x028
      ∧ Traps (.udivcc rd rs1 op2) s s 0x028 ∧ Traps (.sdivcc rd rs1 op2) s s 0x028)

/-- TADDcc, TSUBcc, TADDccTV and TSUBccTV: the 32-bit tag overflow goes to `icc.v`, or traps (R451 to R455). -/
def Obligations.TaggedResults : Prop :=
  ∀ (s : State) (rd rs1 : RegNum) (op2 : RegOrImm 13),
    let a := readReg s rs1
    let b := second s op2
    let tagged := a.toNat % 4 ≠ 0 ∨ b.toNat % 4 ≠ 0
    let x := (a.setWidth 32).toInt
    let y := (b.setWidth 32).toInt
    let addOver := tagged ∨ x + y < -2 ^ 31 ∨ 2 ^ 31 ≤ x + y
    let subOver := tagged ∨ x - y < -2 ^ 31 ∨ 2 ^ 31 ≤ x - y
    GivesR (.taddcc rd rs1 op2) s { s with ccr := withIccV (ccAdd a b false) (decide addOver) } rd (a + b)
    ∧ GivesR (.tsubcc rd rs1 op2) s { s with ccr := withIccV (ccSub a b false) (decide subOver) } rd (a - b)
    ∧ (¬addOver → GivesR (.taddcctv rd rs1 op2) s { s with ccr := withIccV (ccAdd a b false) false } rd (a + b))
    ∧ (¬subOver → GivesR (.tsubcctv rd rs1 op2) s { s with ccr := withIccV (ccSub a b false) false } rd (a - b))
    ∧ (addOver → Traps (.taddcctv rd rs1 op2) s s 0x023)
    ∧ (subOver → Traps (.tsubcctv rd rs1 op2) s s 0x023)

/-- The 32 MOVcc mnemonics and the six of MOVr, each as its rule of R460 to R498 gives it: its word, bit by bit, with the `cond` or `rcond` value of the rule (R459, R492), and the move of the sign-extended or register operand exactly where its test holds; elsewhere only the program counters move. The forms on `fcc`, those that never move too, take fp_disabled where the FPU is disabled. Words with a reserved selection, `rcond` or nonzero reserved bits do not decode. -/
def Obligations.ConditionalMoves : Prop :=
  (∀ e ∈ movIccTable, ∀ (s : State) (rd : RegNum) (cc : IntCc) (op2 : RegOrImm 11),
      encode (e.1 rd cc op2) = 0b10#2 ++ rd ++ 0x2C#6 ++ 1#1 ++ e.2.1 ++ movccLow (if cc = .icc then 0b00 else 0b10) op2
      ∧ ∀ n z v c : Bool, selected s cc = nzvc n z v c →
        if e.2.2 n z v c then GivesR (e.1 rd cc op2) s s rd (second s op2) else Skips (e.1 rd cc op2) s)
  ∧ (∀ e ∈ movFccTable, ∀ (s : State) (rd : RegNum) (fcc : FccNum) (op2 : RegOrImm 11),
      encode (e.1 rd fcc op2) = 0b10#2 ++ rd ++ 0x2C#6 ++ 0#1 ++ e.2.1 ++ movccLow fcc op2
      ∧ (fpuEnabled s = true →
        if fccOf s.fsr fcc ∈ e.2.2 then GivesR (e.1 rd fcc op2) s s rd (second s op2) else Skips (e.1 rd fcc op2) s)
      ∧ (fpuEnabled s = false → Traps (e.1 rd fcc op2) s s 0x020))
  ∧ (∀ e ∈ movRegTable, ∀ (s : State) (rd rs1 : RegNum) (op2 : RegOrImm 10),
      encode (e.1 rd rs1 op2) = 0b10#2 ++ rd ++ 0x2F#6 ++ rs1 ++ movrLow e.2.1 op2
      ∧ if e.2.2 (readReg s rs1).toInt then GivesR (e.1 rd rs1 op2) s s rd (second s op2) else Skips (e.1 rd rs1 op2) s)
  ∧ ∀ w : Word32, w.extractLsb' 30 2 = 0b10 →
      (w.extractLsb' 19 6 = 0x2C →
        (w.getLsbD 18 = true ∧ w.getLsbD 11 = true) ∨ (w.getLsbD 13 = false ∧ w.extractLsb' 5 6 ≠ 0) → Undecoded w)
      ∧ (w.extractLsb' 19 6 = 0x2F →
        w.extractLsb' 10 3 ∈ [0b000#3, 0b100#3] ∨ (w.getLsbD 13 = false ∧ w.extractLsb' 5 5 ≠ 0) → Undecoded w)

/-! ### Control transfer -/

/-- Bicc, BPcc and BPr in all the cases of R600: the condition, the annul bit, the target `PC + 4 * disp`, and the trap on control transfer (R601, R619, R620, R640). That the trap on control transfer exists is TCT_IMPLEMENTED's default (R619, log 14). A branch in the delay slot of another follows R600 literally, the spec's decision D14 (R638, log 22). -/
def Obligations.IntegerBranches : Prop :=
  (∀ e ∈ biccTable, ∀ (s : State) (a : Bool) (d : BitVec 22),
      Branches (e.1 a d) s (e.2 == 8) (iccTest e.2 (selected s .icc)) a d.toInt)
  ∧ (∀ e ∈ bpccTable, ∀ (s : State) (a : Bool) (cc : IntCc) (p : Bool) (d : BitVec 19),
      Branches (e.1 a cc p d) s (e.2 == 8) (iccTest e.2 (selected s cc)) a d.toInt)
  ∧ ∀ e ∈ bprTable, ∀ (s : State) (a : Bool) (d : BitVec 16) (p : Bool) (rs1 : RegNum),
      Branches (e.1 a d p rs1) s false (rcondTest e.2 (readReg s rs1)) a d.toInt

/-- FBfcc and FBPfcc, the FPU enabled (R600, R619, R650, R670). That the trap on control transfer exists is TCT_IMPLEMENTED's default (R619, log 14). A branch in the delay slot of another follows R600 literally, the spec's decision D14 (R638, log 22). -/
def Obligations.FloatBranches : Prop :=
  (∀ e ∈ fbfccTable, ∀ (s : State) (a : Bool) (d : BitVec 22), fpuEnabled s = true →
      Branches (e.1 a d) s (e.2 == 8) (fccTest e.2 (s.fsr.extractLsb' 10 2)) a d.toInt)
  ∧ ∀ e ∈ fbpfccTable, ∀ (s : State) (a : Bool) (fcc : FccNum) (p : Bool) (d : BitVec 19), fpuEnabled s = true →
      Branches (e.1 a fcc p d) s (e.2 == 8) (fccTest e.2 (fccOf s.fsr fcc)) a d.toInt

/-- CALL, JMPL and RETURN where they complete: the link register holds PC, masked under `PSTATE.am`; the target goes to NPC (R690, R691, R692). Where they trap, in the order of their checks: RETURN's fill, the misaligned target of JMPL and RETURN, then `PSTATE.tct` (R619). That the trap on control transfer exists is TCT_IMPLEMENTED's default (R619, log 14). In a delay slot each follows R600 literally, the spec's decision D14 (R638, log 22). The model's choices for RETURN: the window it leaves keeps its contents, as U4 has it for RESTORE, and on inconsistent window registers it does literally what R692 says (U3; both log 22). The places of the WSTATE fields are from general knowledge (R126, log 23). -/
def Obligations.CallJumpReturn : Prop :=
  (∀ (s : State) (d : BitVec 30), s.tct = false →
      ∃ t, exec (.call d) s = .next t
        ∧ WritesR s t 15 (if s.am then BitVec.ofNat 64 (s.pc.toNat % 2 ^ 32) else s.pc)
        ∧ t.pc = s.npc ∧ t.npc = s.pc + BitVec.ofInt 64 (4 * d.toInt))
  ∧ (∀ (s : State) (rd rs1 : RegNum) (op2 : RegOrImm 13), s.tct = false →
      (readReg s rs1 + second s op2).toNat % 4 = 0 →
      ∃ t, exec (.jmpl rd rs1 op2) s = .next t
        ∧ WritesR s t rd (if s.am then BitVec.ofNat 64 (s.pc.toNat % 2 ^ 32) else s.pc)
        ∧ t.pc = s.npc ∧ t.npc = readReg s rs1 + second s op2)
  ∧ (∀ (s : State) (rs1 : RegNum) (op2 : RegOrImm 13), s.tct = false → s.canrestore ≠ 0#3 →
      (readReg s rs1 + second s op2).toNat % 4 = 0 →
      exec (.return_ rs1 op2) s = .next { s with
        cwp := s.cwp - 1, canrestore := s.canrestore - 1, cansave := s.cansave + 1
        pc := s.npc, npc := readReg s rs1 + second s op2 })
  ∧ (∀ (s : State) (rd rs1 : RegNum) (op2 : RegOrImm 13), (readReg s rs1 + second s op2).toNat % 4 ≠ 0 →
      Leaves (.jmpl rd rs1 op2) s 0x034)
  ∧ (∀ (s : State) (rs1 : RegNum) (op2 : RegOrImm 13), s.canrestore = 0#3 →
      Traps (.return_ rs1 op2) s s
        (if s.otherwin = 0#3 then 0x0C0 + 4 * (s.wstate.extractLsb' 0 3).setWidth 9
          else 0x0E0 + 4 * (s.wstate.extractLsb' 3 3).setWidth 9))
  ∧ (∀ (s : State) (rs1 : RegNum) (op2 : RegOrImm 13), s.canrestore ≠ 0#3 →
      (readReg s rs1 + second s op2).toNat % 4 ≠ 0 → Leaves (.return_ rs1 op2) s 0x034)
  ∧ ∀ s : State, s.tct = true →
      (∀ d, Traps (.call d) s s 0x074)
      ∧ ∀ (rs1 : RegNum) (op2 : RegOrImm 13), (readReg s rs1 + second s op2).toNat % 4 = 0 →
          (∀ rd, Traps (.jmpl rd rs1 op2) s s 0x074) ∧ (s.canrestore ≠ 0#3 → Traps (.return_ rs1 op2) s s 0x074)

/-- Tcc: nothing where the condition is false; where it is true, the trap with type 0x100 plus the software trap number, or the exit from 0x80 on (R700; no trap where the condition is false is D15, log 22; the exit is log 3). That the immediate trap number is added unsigned is R700's own inference (derived: no sign_ext, unlike simm13). That the trap on control transfer exists is TCT_IMPLEMENTED's default (R619, log 14). -/
def Obligations.TrapOnCondition : Prop :=
  ∀ e ∈ tccTable, ∀ (s : State) (rs1 : RegNum) (cc : IntCc) (num : RegOrImm 8),
    let sum := (readReg s rs1).toNat + (match num with | .reg rs2 => (readReg s rs2).toNat | .imm v => v.toNat)
    let swtn := if s.priv then sum % 256 else sum % 128
    (iccTest e.2 (selected s cc) = false → Skips (e.1 rs1 cc num) s)
    ∧ (iccTest e.2 (selected s cc) = true → s.tct = false →
        (swtn < 128 → Traps (e.1 rs1 cc num) s s (BitVec.ofNat 9 (256 + swtn)))
        ∧ (128 ≤ swtn → Leaves (e.1 rs1 cc num) s (BitVec.ofNat 9 (256 + swtn))))
    ∧ (iccTest e.2 (selected s cc) = true → s.tct = true → Traps (e.1 rs1 cc num) s s 0x074)

/-- DONE and RETRY in privileged mode above trap level 0: everything they restore from the frame of the current level, and nothing else (R720, R721, R1615); under `PSTATE.tct` they trap instead (R619), and at trap level 0 they are illegal_instruction, whatever `tct` (R720, R721; the exit is log 3). The model's choices: DONE or RETRY in a delay slot does what the rule says literally, where R720 and R721 have the result undefined (U9, log 22); of the saved PSTATE image only the bits 0x131E come back and GL saturates at 2 (D2, log 20); PC and NPC come back unmasked even where the restored `am` is 1 (impl. dep. #417, log 37); the trap on control transfer exists (TCT_IMPLEMENTED's default, R619, log 14). The places of the PSTATE fields are from general knowledge (R150, log 23). -/
def Obligations.ReturnFromTrapRestores : Prop :=
  (∀ s : State, s.priv = true → s.tl ≠ 0 → s.tct = true → Traps .done s s 0x074 ∧ Traps .retry s s 0x074)
  ∧ (∀ s : State, s.priv = true → s.tl = 0 → Leaves .done s 0x010 ∧ Leaves .retry s 0x010)
  ∧ ∀ (s : State) (k : Fin 2), s.priv = true → s.tl.val = k.val + 1 → s.tct = false →
    let f := s.trapStack[k]
    ∃ t u, exec .done s = .next t ∧ exec .retry s = .next u
      ∧ t.pc = f.tnpc ++ 0#2 ∧ t.npc = f.tnpc ++ 0#2 + 4 ∧ u.pc = f.tpc ++ 0#2 ∧ u.npc = f.tnpc ++ 0#2
      ∧ { t with pc := u.pc, npc := u.npc } = u
      ∧ t.tl.val = k.val ∧ t.gl.val = min (f.tstate.extractLsb' 40 3).toNat 2
      ∧ t.ccr = f.tstate.extractLsb' 32 8 ∧ t.asi = f.tstate.extractLsb' 24 8
      ∧ t.pstate = f.tstate.extractLsb' 8 13 &&& 0x131E#13 ∧ t.cwp = f.tstate.extractLsb' 0 3
      ∧ { t with pc := s.pc, npc := s.npc, tl := s.tl, gl := s.gl, ccr := s.ccr, asi := s.asi, pstate := s.pstate,
                 cwp := s.cwp } = s

/-- ILLTRAP, the quad-precision FPops and the quad loads and stores raise illegal_instruction, which is delivered in hyperprivileged mode: the run ends (R722, R1159, R957, R962, R972, R977; the end of the run is R1610's decision D3, log 3). -/
def Obligations.AlwaysIllegalStops : Prop :=
  ∀ (i : Instr) (s : State), alwaysIllegal i = true → Leaves i s 0x010

/-! ### Exceptions -/

/-- What trap entry saves, what it changes, where it goes, and that nothing else changes (R1600, R1601, R1603, R1604, R1605). Two clauses rest on parameters at their defaults (log 14): the saved program counters are masked for every trap type, 0x074 too (TCT_TPC_UNMASKED false, C17), and `pef` is set (FPU_PRESENT true). The places of the PSTATE fields are from general knowledge (R150, log 23). -/
def Obligations.TrapEntryEffect : Prop :=
  ∀ (s : State) (tt : BitVec 9) (k : Fin 2), s.tl.val = k.val →
    let t := takeTrap s tt
    let f := t.trapStack[k]
    t.tl.val = k.val + 1
    ∧ f.tstate.extractLsb' 40 3 = BitVec.ofNat 3 s.gl.val ∧ f.tstate.extractLsb' 32 8 = s.ccr
    ∧ f.tstate.extractLsb' 24 8 = s.asi ∧ f.tstate.extractLsb' 8 13 = s.pstate ∧ f.tstate.extractLsb' 0 3 = s.cwp
    ∧ (∀ b, (3 ≤ b ∧ b ≤ 7) ∨ (21 ≤ b ∧ b ≤ 23) ∨ 43 ≤ b → f.tstate.getLsbD b = false)
    ∧ f.tpc = (if s.am then BitVec.ofNat 62 (s.pc.toNat % 2 ^ 32 / 4) else BitVec.ofNat 62 (s.pc.toNat / 4))
    ∧ f.tnpc = (if s.am then BitVec.ofNat 62 (s.npc.toNat % 2 ^ 32 / 4) else BitVec.ofNat 62 (s.npc.toNat / 4))
    ∧ f.tt = tt
    ∧ t.gl.val = min (s.gl.val + 1) 2
    ∧ t.pstate.extractLsb' 6 2 = s.pstate.extractLsb' 6 2 ∧ t.pef = true ∧ t.am = false ∧ t.priv = true
    ∧ t.cle = s.tle ∧ t.ie = false ∧ t.tle = s.tle ∧ t.tct = false
    ∧ t.cwp = (if tt = 0x024 then s.cwp + 1
        else if 0x080 ≤ tt.toNat ∧ tt.toNat ≤ 0x0BF then s.cwp + s.cansave + 2
        else if 0x0C0 ≤ tt.toNat ∧ tt.toNat ≤ 0x0FF then s.cwp - 1 else s.cwp)
    ∧ t.pc = (s.tba ++ 0#15) + (if k.val = 0 then 0 else 0x4000) + BitVec.ofNat 64 (32 * tt.toNat)
    ∧ t.npc = t.pc + 4
    ∧ (∀ j : Fin 2, j ≠ k → t.trapStack[j] = s.trapStack[j])
    ∧ { t with tl := s.tl, trapStack := s.trapStack, gl := s.gl, pstate := s.pstate, cwp := s.cwp, pc := s.pc,
               npc := s.npc, trapped := s.trapped } = s

/-- Where an exception is delivered: column P of R1570 below trap level 2 enters privileged mode; column H, and everything at trap level 2, leaves with no state changed, which is the spec's decision D3 (R1570, R1606, R1610; log 3). -/
def Obligations.ExceptionDelivery : Prop :=
  (∀ (s : State) (e : Exception) (info : Option AccessInfo), e.toPrivileged = true → s.tl.val < 2 →
      raiseAt s e info = .next (takeTrap s e.tt))
  ∧ (∀ (s : State) (e : Exception) (info : Option AccessInfo), e.toPrivileged = false ∨ s.tl.val = 2 →
      raiseAt s e info = .fault (.exitToHyperprivileged (.trap e.tt) s.pc s.npc info))
  ∧ (∀ e : Exception, e.toPrivileged = false ↔
      e ∈ [.iaePrivilegeViolation, .iaeUnauthAccess, .iaeNfoPage, .illegalInstruction, .daeInvalidAsi,
           .daePrivilegeViolation, .daeNcPage, .daeNfoPage, .daeSideEffectPage, .memAddressNotAligned,
           .lddfMemAddressNotAligned, .stdfMemAddressNotAligned, .privilegedAction]
        ∨ ∃ n : BitVec 8, 128 ≤ n.toNat ∧ e = .trapInstruction n)

/-- A trap, then RETRY, puts everything back but the frame trap entry wrote: in a state whose program counters are word addresses and whose PSTATE has no reserved bit set, addresses not masked (R1600, R1615, R721). -/
def Obligations.TrapThenRetry : Prop :=
  ∀ (s : State) (tt : BitVec 9), s.Inv → s.tl.val < 2 → s.am = false →
    exec .retry (takeTrap s tt)
      = .next { s with trapStack := (takeTrap s tt).trapStack, trapped := true }

/-- Every instruction of privileged software raises privileged_opcode in nonprivileged mode (R1053 to R1125, R720, R721). -/
def Obligations.PrivilegedOpcodeTraps : Prop :=
  ∀ (i : Instr) (s : State), privilegedOnly i = true → s.priv = false → Traps i s s 0x011


/-! ### Memory -/

/-- LDSB to LDX and their alternate forms, once the access reaches a real address: the bytes read, in the byte order of the access, sign- or zero-extended (R810 to R816, R820 to R826, R237), memory's or a device's (R202, R302; the device function is log 42). -/
def Obligations.IntegerLoads : Prop :=
  ∀ row ∈ loadTable, ∀ (s : State) (rd rs1 : RegNum) (ra : Nat) (little : Bool) (v : Word64),
    Sees s ra row.width little v →
    (∀ op2, Reaches s (.load row.width) (implicitTarget s rs1 op2) ra little →
      GivesR (row.plain rd rs1 op2) s (seen s ra row.width) rd (loaded row.signed row.width v))
    ∧ ∀ src, Reaches s row.access (alternateTarget s rs1 src) ra little →
        GivesR (row.alternate rd rs1 src) s (seen s ra row.width) rd (loaded row.signed row.width v)

/-- LDTW and LDTWA: two words into an even register and the next (R830, R831); LDTXA: two extended words (R832); from memory or a device (R202; log 42). That LDTXA and its ASIs are implemented is the spec's decision D33 (R832, log 31). -/
def Obligations.TwinLoads : Prop :=
  ∀ (s : State) (rd rs1 : RegNum) (ra : Nat) (little : Bool) (v0 v1 : Word64), rd.getLsbD 0 = false →
    (SeesPart s ra 8 ra 4 little v0 → SeesPart s ra 8 (ra + 4) 4 little v1 →
      (∀ op2, Reaches s (.load 8) (implicitTarget s rs1 op2) ra little →
        GivesPair (.ldtw rd rs1 op2) s (seen s ra 8) rd (loaded false 4 v0) (loaded false 4 v1))
      ∧ ∀ src, Reaches s (.load 8) (alternateTarget s rs1 src) ra little →
        GivesPair (.ldtwa rd rs1 src) s (seen s ra 8) rd (loaded false 4 v0) (loaded false 4 v1))
    ∧ (SeesPart s ra 16 ra 8 little v0 → SeesPart s ra 16 (ra + 8) 8 little v1 → ∀ rs2 asi,
        Reaches s .twin (immediateTarget s rs1 rs2 asi) ra little →
        GivesPair (.ldtxa rd rs1 rs2 asi) s (seen s ra 16) rd v0 v1)

/-- STB to STX, STTW and their alternate forms, once the access reaches a real address: the low bytes of the register, in the byte order of the access, and no other byte (R840 to R843, R850 to R857, R237, R238); each byte to memory or to the device of its I/O location (R202; log 42). -/
def Obligations.IntegerStores : Prop :=
  (∀ row ∈ storeTable, ∀ (s : State) (rd rs1 : RegNum) (ra : Nat) (little : Bool),
    (∀ op2, Reaches s (.store row.width) (implicitTarget s rs1 op2) ra little →
      GivesM (row.plain rd rs1 op2) s s (image ra row.width little (readReg s rd)))
    ∧ ∀ src, Reaches s row.access (alternateTarget s rs1 src) ra little →
        GivesM (row.alternate rd rs1 src) s s (image ra row.width little (readReg s rd)))
  ∧ ∀ (s : State) (rd rs1 : RegNum) (ra : Nat) (little : Bool), rd.getLsbD 0 = false →
      let words := image ra 4 little (readReg s rd) ++ image (ra + 4) 4 little (readReg s (rd ||| 1#5))
      (∀ op2, Reaches s (.store 8) (implicitTarget s rs1 op2) ra little → GivesM (.sttw rd rs1 op2) s s words)
      ∧ ∀ src, Reaches s (.store 8) (alternateTarget s rs1 src) ra little → GivesM (.sttwa rd rs1 src) s s words

/-- LDSTUB, SWAP, CASA, CASXA and the alternate forms: the old value to the register, the new one stored; CASA and CASXA store only where the old value equals `R[rs2]` (R860 to R865); at memory or a device (R202; log 42). -/
def Obligations.AtomicAccesses : Prop :=
  ∀ (s : State) (rd rs1 rs2 : RegNum) (ra : Nat) (little : Bool) (v : Word64),
    (Sees s ra 1 little v →
      (∀ op2, Reaches s (.atomic 1) (implicitTarget s rs1 op2) ra little →
        Exchanges (.ldstub rd rs1 op2) s rd ra 1 (loaded false 1 v) [(ra, 0xFF)])
      ∧ ∀ src, Reaches s (.atomic 1) (alternateTarget s rs1 src) ra little →
        Exchanges (.ldstuba rd rs1 src) s rd ra 1 (loaded false 1 v) [(ra, 0xFF)])
    ∧ (Sees s ra 4 little v →
      (∀ op2, Reaches s (.atomic 4) (implicitTarget s rs1 op2) ra little →
        Exchanges (.swap rd rs1 op2) s rd ra 4 (loaded false 4 v) (image ra 4 little (readReg s rd)))
      ∧ (∀ src, Reaches s (.atomic 4) (alternateTarget s rs1 src) ra little →
        Exchanges (.swapa rd rs1 src) s rd ra 4 (loaded false 4 v) (image ra 4 little (readReg s rd)))
      ∧ ∀ src, Reaches s (.atomic 4) (casTarget s rs1 src) ra little →
        Exchanges (.casa rd rs1 rs2 src) s rd ra 4 (loaded false 4 v)
          (if v.toNat % 2 ^ 32 = (readReg s rs2).toNat % 2 ^ 32 then image ra 4 little (readReg s rd) else []))
    ∧ (Sees s ra 8 little v → ∀ src, Reaches s (.atomic 8) (casTarget s rs1 src) ra little →
        Exchanges (.casxa rd rs1 rs2 src) s rd ra 8 v (if v = readReg s rs2 then image ra 8 little (readReg s rd) else []))

/-- LDXA and STXA in privileged mode at the registers in ASIs 0x20, 0x21 and 0x25: scratchpad, context and interrupt queue registers; queue tails are not written (R225, R226, R227; D37, log 31). The model's choices: scratchpad registers 4 to 7 are accessible (SCRATCHPAD_4_7, D36, logs 14 and 31), and the context registers keep 16 bits (CONTEXT_BITS, R226, log 14). So is that a queue head keeps whatever is written in bits 63:6, with no maximum offset, where R1662 quotes that a larger value is undefined (the spec's decision D55, log 31). -/
def Obligations.AsiRegisters : Prop :=
  ∀ (s : State) (rd rs1 : RegNum) (src : AsiOperand), s.priv = true →
    let ea := alternateAddress s rs1 src
    let v := readReg s rd
    (explicitAsi s src = 0x20#8 → ∀ k : Fin 8, ea = BitVec.ofNat 64 (8 * k.val) →
      GivesR (.ldxa rd rs1 src) s s rd s.scratchpad[k]
      ∧ exec (.stxa rd rs1 src) s = .next { s with scratchpad := s.scratchpad.set k.val v k.isLt, pc := s.npc, npc := s.npc + 4 })
    ∧ (explicitAsi s src = 0x21#8 → ∀ row ∈ contextTable, ea = row.1 →
      GivesR (.ldxa rd rs1 src) s s rd (BitVec.ofNat 64 (row.2.1 s).toNat)
      ∧ exec (.stxa rd rs1 src) s = .next { row.2.2 s (BitVec.ofNat 16 v.toNat) with pc := s.npc, npc := s.npc + 4 })
    ∧ (explicitAsi s src = 0x25#8 → ∀ row ∈ queueTable,
      (ea = row.1 → GivesR (.ldxa rd rs1 src) s s rd (row.2.1 s)
        ∧ exec (.stxa rd rs1 src) s
            = .next { row.2.2.2 s (BitVec.ofNat 64 (v.toNat / 64 * 64)) with pc := s.npc, npc := s.npc + 4 })
      ∧ (ea = row.1 + 8 → GivesR (.ldxa rd rs1 src) s s rd (row.2.2.1 s)
        ∧ LeavesAt (.stxa rd rs1 src) s 0x014 ⟨ea, 0x25, true⟩))

/-- Where an access goes and in which byte order: the address and the ASI of each form, the implicit ASI from TL and PSTATE.cle, the explicit one from the word or the ASI register (R204, R210, R211); what each access is (R215, R245, R252); an admitted access through a translating ASI, with no watchpoint on it, goes where the translation of the masked address goes, once the page's checks let it, in the ASI's byte order, inverted where TTE.ie is 1 (R300 steps 6 to 8, R205, R236, R285, R286), and so through the identity map to the masked address itself; through a real ASI it goes to the address itself (R217, R218). The model's choices: the translation is data, the identity map its default (log 5), and so is the watchpoint, which all the bytes of an access may match (log 16); a real access has the byte order and the cacheability of `real_attr`'s default (D30, log 15); a real address lies below 2^56 (RA_BITS, logs 6 and 14) and every virtual address is in range (VA_BITS, logs 6 and 14). The place of PSTATE.cle is from general knowledge (R150, log 23). -/
def Obligations.AccessReachesMemory : Prop :=
  (∀ (s : State) (rs1 rs2 : RegNum) (op2 : RegOrImm 13) (imm : BitVec 13) (asi : Asi),
    let cle := s.pstate.getLsbD 9
    implicitTarget s rs1 op2 = ⟨readReg s rs1 + second s op2,
        if s.tl = 0 then (if cle then 0x88 else 0x80) else if cle then 0x0C else 0x04, false⟩
    ∧ alternateTarget s rs1 (.immAsi rs2 asi) = ⟨readReg s rs1 + readReg s rs2, asi, true⟩
    ∧ alternateTarget s rs1 (.asiReg imm) = ⟨readReg s rs1 + BitVec.ofInt 64 imm.toInt, s.asi, true⟩
    ∧ immediateTarget s rs1 rs2 asi = ⟨readReg s rs1 + readReg s rs2, asi, true⟩
    ∧ casTarget s rs1 (.immAsi asi) = ⟨readReg s rs1, asi, true⟩
    ∧ casTarget s rs1 .asiReg = ⟨readReg s rs1, s.asi, true⟩)
  ∧ (∀ row ∈ accessTable, row.access.width = row.width ∧ row.access.writes = row.writes
      ∧ row.access.cacheableOnly = row.cacheableOnly
      ∧ (∀ ea : Word64, row.access.align.check ea = none ↔ ea.toNat % row.multiple = 0)
      ∧ ∀ c, row.access.use.valid c = true ↔ c ∈ row.classes)
  ∧ ∀ (s : State) (acc : Access) (g : Target), Admitted s acc g →
    let info := asiInfo g.asi
    (info.kind = .translating → ¬Watched s acc g →
      (∀ tr, translate s info.ctx (sentVa s g) = .ok tr →
        checkData s tr.attr g.asi acc.writes acc.cacheableOnly = none →
        Reaches s acc g tr.ra (info.little ^^ tr.attr.ie))
      ∧ ∀ a : Nat, s.tlb = .identity → a = (if s.am then g.ea.toNat % 2 ^ 32 else g.ea.toNat) → a < 2 ^ 56 →
        Reaches s acc g a info.little)
    ∧ (info.kind = .real → g.ea.toNat < 2 ^ 56 → (acc.cacheableOnly = true → asiClass g.asi ≠ .io) →
      Reaches s acc g g.ea.toNat info.little)

/-- Which access stops, and how, in the order of R300: twin-word instructions with an odd register (R830); a special ASI with an instruction it is not meant for, whatever the address, but for LDDFA with a commit or partial-store ASI, which is stopped so where its register and address are aligned (R215, R219 to R222, 43_fp_load_store.md R961); misaligned addresses, of every form that needs alignment (R245, R246); restricted ASIs, 0x00 to 0x7F in nonprivileged mode and 0x30 to 0x7F in privileged mode (R212); at an aligned address, an ASI that is not special and that the instruction may not use, and an address of a register ASI that names no register (R215, R224 to R227). A special ASI that the mode may not use stops an instruction it is not meant for with privileged_action, whatever the address (R300 step 3). Then, for an admitted access through a translating ASI, the watchpoint stops it, else the error of the translation, else what check_data finds; a real ASI stops at a real address out of range, and a real I/O ASI where R252 asks for a cacheable page (R300 steps 6 and 8, R217, R285, R286, R296). What stops an access stops each instruction that makes it, VA_watchpoint by a trap below trap level 2 (R1654). The exits are log 3, the watchpoint log 16, a real address out of range D32 and log 6; LDDFA with a commit or partial-store ASI keeps its alignment checks (D35, log 30); an implementation-dependent ASI does not exist (D34, log 31). -/
def Obligations.AccessStops : Prop :=
  ∀ (s : State) (rd rs1 rs2 : RegNum) (op2 : RegOrImm 13) (src : AsiOperand) (cas : CasAsi) (asi : Asi),
    let even := rd.getLsbD 0 = false
    let fpu := fpuEnabled s = true
    let plain := implicitTarget s rs1 op2
    let alt := alternateTarget s rs1 src
    let imm := immediateTarget s rs1 rs2 asi
    let cmp := casTarget s rs1 cas
    let part : Target := ⟨readReg s rs1, asi, true⟩
    let class_ := asiClass alt.asi
    -- twin-word instructions with an odd register
    (rd.getLsbD 0 = true → Leaves (.ldtw rd rs1 op2) s 0x010 ∧ Leaves (.sttw rd rs1 op2) s 0x010
      ∧ Leaves (.ldtwa rd rs1 src) s 0x010 ∧ Leaves (.sttwa rd rs1 src) s 0x010 ∧ Leaves (.ldtxa rd rs1 rs2 asi) s 0x010)
    -- special ASIs
    ∧ (class_.isSpecial = true → ¬Barred s alt.asi →
      (∀ row ∈ loadTable, LeavesAt (row.alternate rd rs1 src) s 0x014 alt)
      ∧ (∀ row ∈ storeTable, LeavesAt (row.alternate rd rs1 src) s 0x014 alt)
      ∧ LeavesAt (.ldstuba rd rs1 src) s 0x014 alt ∧ LeavesAt (.swapa rd rs1 src) s 0x014 alt
      ∧ (even → LeavesAt (.ldtwa rd rs1 src) s 0x014 alt ∧ LeavesAt (.sttwa rd rs1 src) s 0x014 alt)
      ∧ (fpu → LeavesAt (.ldfa rd rs1 src) s 0x014 alt ∧ LeavesAt (.stfa rd rs1 src) s 0x014 alt
        ∧ (class_ = .twinx → LeavesAt (.lddfa rd rs1 src) s 0x014 alt ∧ LeavesAt (.stdfa rd rs1 src) s 0x014 alt)
        ∧ (class_ = .pst ∨ (class_ = .commit ∧ (doubleNumber rd).toNat % 16 = 0) → alt.ea.toNat % 8 = 0 →
          LeavesAt (.lddfa rd rs1 src) s 0x014 alt)))
    ∧ ((asiClass cmp.asi).isSpecial = true → ¬Barred s cmp.asi →
      LeavesAt (.casa rd rs1 rs2 cas) s 0x014 cmp ∧ LeavesAt (.casxa rd rs1 rs2 cas) s 0x014 cmp)
    -- misaligned addresses, the implicit forms
    ∧ (∀ row ∈ loadTable, Misaligned (row.plain rd rs1 op2) s plain row.width)
    ∧ (∀ row ∈ storeTable, Misaligned (row.plain rd rs1 op2) s plain row.width)
    ∧ Misaligned (.swap rd rs1 op2) s plain 4
    ∧ (even → Misaligned (.ldtw rd rs1 op2) s plain 8 ∧ Misaligned (.sttw rd rs1 op2) s plain 8)
    ∧ (fpu → Misaligned (.ldf rd rs1 op2) s plain 4 ∧ Misaligned (.stf rd rs1 op2) s plain 4
      ∧ Misaligned (.ldfsr rs1 op2) s plain 4 ∧ Misaligned (.ldxfsr rs1 op2) s plain 8
      ∧ Misaligned (.stfsr rs1 op2) s plain 4 ∧ Misaligned (.stxfsr rs1 op2) s plain 8
      ∧ HalfAligned (.lddf rd rs1 op2) s plain 0x035 ∧ HalfAligned (.stdf rd rs1 op2) s plain 0x036)
    -- misaligned addresses, the alternate forms
    ∧ (class_.isSpecial = false →
      (∀ row ∈ loadTable, Misaligned (row.alternate rd rs1 src) s alt row.width)
      ∧ (∀ row ∈ storeTable, Misaligned (row.alternate rd rs1 src) s alt row.width)
      ∧ Misaligned (.swapa rd rs1 src) s alt 4
      ∧ (even → Misaligned (.ldtwa rd rs1 src) s alt 8 ∧ Misaligned (.sttwa rd rs1 src) s alt 8)
      ∧ (fpu → Misaligned (.ldfa rd rs1 src) s alt 4 ∧ Misaligned (.stfa rd rs1 src) s alt 4
        ∧ HalfAligned (.lddfa rd rs1 src) s alt 0x035 ∧ HalfAligned (.stdfa rd rs1 src) s alt 0x036))
    ∧ ((asiClass cmp.asi).isSpecial = false →
      Misaligned (.casa rd rs1 rs2 cas) s cmp 4 ∧ Misaligned (.casxa rd rs1 rs2 cas) s cmp 8)
    ∧ (even → asiClass asi = .twinx → Misaligned (.ldtxa rd rs1 rs2 asi) s imm 16)
    ∧ (fpu →
      ((doubleNumber rd).toNat % 16 = 0 →
        (asiClass asi = .block → Misaligned (.ldblockf rd rs1 rs2 asi) s imm 64)
        ∧ (asiClass asi = .block ∨ asiClass asi = .commit → Misaligned (.stblockf rd rs1 rs2 asi) s imm 64)
        ∧ (class_ = .block → Misaligned (.lddfa rd rs1 src) s alt 64)
        ∧ (class_ = .block ∨ class_ = .commit → Misaligned (.stdfa rd rs1 src) s alt 64)
        ∧ (class_ = .commit → HalfAligned (.lddfa rd rs1 src) s alt 0x035))
      ∧ (class_ = .pst → HalfAligned (.lddfa rd rs1 src) s alt 0x035)
      ∧ (asiClass asi = .short → asi.getLsbD 1 = true →
        Misaligned (.ldshortf rd rs1 rs2 asi) s imm 2 ∧ Misaligned (.stshortf rd rs1 rs2 asi) s imm 2)
      ∧ (class_ = .short → alt.asi.getLsbD 1 = true →
        Misaligned (.lddfa rd rs1 src) s alt 2 ∧ Misaligned (.stdfa rd rs1 src) s alt 2)
      ∧ (asiClass asi = .pst → HalfAligned (.stpartialf rd rs1 rs2 asi) s part 0x036))
    -- restricted ASIs
    ∧ (Barred s alt.asi →
      (∀ row ∈ loadTable, alt.ea.toNat % row.width = 0 → LeavesAt (row.alternate rd rs1 src) s 0x037 alt)
      ∧ (∀ row ∈ storeTable, alt.ea.toNat % row.width = 0 → LeavesAt (row.alternate rd rs1 src) s 0x037 alt)
      ∧ LeavesAt (.ldstuba rd rs1 src) s 0x037 alt
      ∧ (alt.ea.toNat % 4 = 0 → LeavesAt (.swapa rd rs1 src) s 0x037 alt)
      ∧ (even → alt.ea.toNat % 8 = 0 → LeavesAt (.ldtwa rd rs1 src) s 0x037 alt ∧ LeavesAt (.sttwa rd rs1 src) s 0x037 alt)
      ∧ (fpu → (alt.ea.toNat % 4 = 0 → LeavesAt (.ldfa rd rs1 src) s 0x037 alt ∧ LeavesAt (.stfa rd rs1 src) s 0x037 alt)
        ∧ (alt.ea.toNat % 64 = 0 → (doubleNumber rd).toNat % 16 = 0 →
          LeavesAt (.lddfa rd rs1 src) s 0x037 alt ∧ LeavesAt (.stdfa rd rs1 src) s 0x037 alt)
        ∧ (alt.ea.toNat % 8 = 0 → class_ ≠ .block →
          LeavesAt (.lddfa rd rs1 src) s 0x037 alt ∧ LeavesAt (.stdfa rd rs1 src) s 0x037 alt)))
    ∧ (Barred s cmp.asi → (cmp.ea.toNat % 4 = 0 → LeavesAt (.casa rd rs1 rs2 cas) s 0x037 cmp)
      ∧ (cmp.ea.toNat % 8 = 0 → LeavesAt (.casxa rd rs1 rs2 cas) s 0x037 cmp))
    ∧ (Barred s asi → (even → imm.ea.toNat % 16 = 0 → LeavesAt (.ldtxa rd rs1 rs2 asi) s 0x037 imm)
      ∧ (fpu → (doubleNumber rd).toNat % 16 = 0 → imm.ea.toNat % 64 = 0 →
        LeavesAt (.ldblockf rd rs1 rs2 asi) s 0x037 imm ∧ LeavesAt (.stblockf rd rs1 rs2 asi) s 0x037 imm))
    -- ASIs that are not special and that the instruction may not use
    ∧ (¬Barred s alt.asi →
      (∀ row ∈ loadTable, class_ ∈ loadUnfit → (row.width = 8 → class_ ≠ .reg) → alt.ea.toNat % row.width = 0 →
        LeavesAt (row.alternate rd rs1 src) s 0x014 alt)
      ∧ (∀ row ∈ storeTable, class_ ∈ storeUnfit → (row.width = 8 → class_ ≠ .reg) → alt.ea.toNat % row.width = 0 →
        LeavesAt (row.alternate rd rs1 src) s 0x014 alt)
      ∧ (class_ ∈ atomicUnfit → LeavesAt (.ldstuba rd rs1 src) s 0x014 alt
        ∧ (alt.ea.toNat % 4 = 0 → LeavesAt (.swapa rd rs1 src) s 0x014 alt))
      ∧ (even → alt.ea.toNat % 8 = 0 → (class_ ∈ loadUnfit → LeavesAt (.ldtwa rd rs1 src) s 0x014 alt)
        ∧ (class_ ∈ storeUnfit → LeavesAt (.sttwa rd rs1 src) s 0x014 alt))
      ∧ (fpu → (alt.ea.toNat % 4 = 0 → (class_ ∈ loadUnfit → LeavesAt (.ldfa rd rs1 src) s 0x014 alt)
          ∧ (class_ ∈ storeUnfit → LeavesAt (.stfa rd rs1 src) s 0x014 alt))
        ∧ (alt.ea.toNat % 8 = 0 → (class_ ∈ loadUnfit → LeavesAt (.lddfa rd rs1 src) s 0x014 alt)
          ∧ (class_ ∈ storeUnfit → LeavesAt (.stdfa rd rs1 src) s 0x014 alt)))
      ∧ (class_ = .reg → ¬NamesRegister alt.asi alt.ea → alt.ea.toNat % 8 = 0 →
        LeavesAt (.ldxa rd rs1 src) s 0x014 alt ∧ LeavesAt (.stxa rd rs1 src) s 0x014 alt))
    ∧ (¬Barred s cmp.asi → asiClass cmp.asi ∈ atomicUnfit →
      (cmp.ea.toNat % 4 = 0 → LeavesAt (.casa rd rs1 rs2 cas) s 0x014 cmp)
      ∧ (cmp.ea.toNat % 8 = 0 → LeavesAt (.casxa rd rs1 rs2 cas) s 0x014 cmp))
    -- the other stops of an access
    ∧ (∀ (acc : Access) (g : Target),
      let info := asiInfo g.asi
      let r := dataAccess s acc g
      (g.explicit = true → Barred s g.asi → (asiClass g.asi).isSpecial = true → acc.use.valid (asiClass g.asi) = false →
        ¬(acc.use = .loadDouble ∧ asiClass g.asi ∈ [.commit, .pst]) → r = .error (.exception .privilegedAction))
      ∧ (Admitted s acc g → info.kind = .translating →
        (Watched s acc g → r = .error (.exception .vaWatchpoint))
        ∧ (¬Watched s acc g →
          (∀ ev, translate s info.ctx (sentVa s g) = .error ev → r = .error (.mmu ev))
          ∧ ∀ tr stop, translate s info.ctx (sentVa s g) = .ok tr →
            checkData s tr.attr g.asi acc.writes acc.cacheableOnly = some stop → r = .error stop))
      ∧ (Admitted s acc g → info.kind = .real →
        (2 ^ 56 ≤ g.ea.toNat → r = .error (.mmu .realAddressRange))
        ∧ (g.ea.toNat < 2 ^ 56 → acc.cacheableOnly = true → asiClass g.asi = .io → r = .error (.exception .daeNcPage))))
    -- what stops an access stops the instructions that make it
    ∧ (∀ row ∈ loadTable, Heeds (row.plain rd rs1 op2) s (.load row.width) plain
      ∧ Heeds (row.alternate rd rs1 src) s row.access alt)
    ∧ (∀ row ∈ storeTable, Heeds (row.plain rd rs1 op2) s (.store row.width) plain
      ∧ Heeds (row.alternate rd rs1 src) s row.access alt)
    ∧ Heeds (.ldstub rd rs1 op2) s (.atomic 1) plain ∧ Heeds (.ldstuba rd rs1 src) s (.atomic 1) alt
    ∧ Heeds (.swap rd rs1 op2) s (.atomic 4) plain ∧ Heeds (.swapa rd rs1 src) s (.atomic 4) alt
    ∧ Heeds (.casa rd rs1 rs2 cas) s (.atomic 4) cmp ∧ Heeds (.casxa rd rs1 rs2 cas) s (.atomic 8) cmp
    ∧ (even → Heeds (.ldtw rd rs1 op2) s (.load 8) plain ∧ Heeds (.sttw rd rs1 op2) s (.store 8) plain
      ∧ Heeds (.ldtwa rd rs1 src) s (.load 8) alt ∧ Heeds (.sttwa rd rs1 src) s (.store 8) alt
      ∧ Heeds (.ldtxa rd rs1 rs2 asi) s .twin imm)
    ∧ (fpu → Heeds (.ldf rd rs1 op2) s (.load 4) plain ∧ Heeds (.stf rd rs1 op2) s (.store 4) plain
      ∧ Heeds (.ldfa rd rs1 src) s (.load 4) alt ∧ Heeds (.stfa rd rs1 src) s (.store 4) alt
      ∧ Heeds (.ldfsr rs1 op2) s (.load 4) plain ∧ Heeds (.ldxfsr rs1 op2) s (.load 8) plain
      ∧ Heeds (.stfsr rs1 op2) s (.store 4) plain ∧ Heeds (.stxfsr rs1 op2) s (.store 8) plain
      ∧ Heeds (.lddf rd rs1 op2) s .loadDouble plain ∧ Heeds (.stdf rd rs1 op2) s .storeDouble plain
      ∧ Heeds (.ldshortf rd rs1 rs2 asi) s (.shortLoad (if asi.getLsbD 1 then 2 else 1)) imm
      ∧ Heeds (.stshortf rd rs1 rs2 asi) s (.shortStore (if asi.getLsbD 1 then 2 else 1)) imm
      ∧ Heeds (.stpartialf rd rs1 rs2 asi) s .partialStore part
      ∧ (class_ = .short → Heeds (.lddfa rd rs1 src) s (.shortLoad (if alt.asi.getLsbD 1 then 2 else 1)) alt
        ∧ Heeds (.stdfa rd rs1 src) s (.shortStore (if alt.asi.getLsbD 1 then 2 else 1)) alt)
      ∧ (class_ ∉ [.block, .commit, .short] → Heeds (.lddfa rd rs1 src) s .loadDouble alt
        ∧ (class_ ≠ .pst → Heeds (.stdfa rd rs1 src) s .storeDouble alt))
      ∧ ((doubleNumber rd).toNat % 16 = 0 →
        Heeds (.ldblockf rd rs1 rs2 asi) s .blockLoad imm ∧ Heeds (.stblockf rd rs1 rs2 asi) s .blockStore imm
        ∧ (class_ = .block → Heeds (.lddfa rd rs1 src) s .blockLoad alt ∧ Heeds (.stdfa rd rs1 src) s .blockStore alt)
        ∧ (class_ = .commit → Heeds (.lddfa rd rs1 src) s .loadDouble alt ∧ Heeds (.stdfa rd rs1 src) s .blockStore alt)))

/-- The ASI map: which ASIs translate, in which context, which are real, which are little-endian, which are processed as if from nonprivileged mode, and the class of each (R213, R214, R216); the optional ASIs that the instructions need are implemented, an implementation-dependent one is none of them (D33, D34, log 31). Translation by installed entries: the context IDs of each context (R281, R282), which entry hits, the real address it gives, and what no hit and more than one give (R284, R285); the identity map and real ASIs, and a real address out of range (R206); the page's checks in their order (R286). The model's choices: the TLB as data (log 5); one hit whose size code is above 7 leaves the machine (93_implementation_defined.md section 4, log 13); a real address lies below 2^56 and one above leaves the machine (D32, log 6); a store without permission leaves (D41, log 33). -/
def Obligations.TranslationRelation : Prop :=
  (∀ asi : Asi,
    let info := asiInfo asi
    (info.kind = .translating ↔ ∃ ctx, asi.toNat ∈ contextAsis ctx)
    ∧ (∀ ctx, asi.toNat ∈ contextAsis ctx → info.ctx = ctx)
    ∧ (info.kind = .real ↔ asi.toNat ∈ realAsis)
    ∧ (info.little = true ↔ asi.toNat ∈ littleAsis) ∧ (info.asIfUser = true ↔ asi.toNat ∈ asIfUserAsis)
    ∧ (∀ row ∈ classTable, asiClass asi = row.1 ↔ asi.toNat ∈ row.2)
    ∧ ((asiClass asi).isSpecial = true ↔ asiClass asi ∈ [.twinx, .block, .commit, .pst, .short]))
  ∧ (∀ (e : TlbEntry) (ids : List (BitVec 16)) (va : Word64),
    let page := 2 ^ (13 + 3 * (e.data.toNat % 16))
    (e.hits ids va = true ↔ e.data.getLsbD 63 = true ∧ e.contextId ∈ ids ∧ va.toNat / page = e.tagVa.toNat / page)
    ∧ e.realAddress va = e.data.toNat % 2 ^ 56 / page * page + va.toNat % page)
  ∧ (∀ (s : State) (list : List TlbEntry) (ctx : AsiContext) (va : Word64), s.tlb = .entries list →
      let contextIds (s : State) (ctx : AsiContext) : List (BitVec 16) :=
        match ctx with
        | .primary => [s.primaryContext0, s.primaryContext1]
        | .secondary => [s.secondaryContext0, s.secondaryContext1]
        | .nucleus => [0]
      ((∀ e ∈ list, e.hits (contextIds s ctx) va = false) → translate s ctx va = .error .translationMiss)
      ∧ (∀ e l₁ l₂, list = l₁ ++ e :: l₂ → e.hits (contextIds s ctx) va = true →
          (∀ f ∈ l₁ ++ l₂, f.hits (contextIds s ctx) va = false) →
          (e.data.toNat % 16 ≤ 7 → translate s ctx va = .ok ⟨e.realAddress va, e.attr⟩)
          ∧ (7 < e.data.toNat % 16 → translate s ctx va = .error .reservedPageSize))
      ∧ ∀ e f l₁ l₂ l₃, list = l₁ ++ e :: l₂ ++ f :: l₃ → e.hits (contextIds s ctx) va = true →
          f.hits (contextIds s ctx) va = true → translate s ctx va = .error .multipleHit)
  ∧ (∀ (s : State) (ctx : AsiContext) (va : Word64), s.tlb = .identity →
      translate s ctx va = if va.toNat < 2 ^ 56 then .ok ⟨va.toNat, ⟨false, false, false, true, false, true, true⟩⟩
        else .error .realAddressRange)
  ∧ (∀ (s : State) (acc : Access) (g : Target), acc.align.check g.ea = none → ¬Barred s g.asi →
      acc.use.valid (asiClass g.asi) = true → (asiInfo g.asi).kind = .real → 2 ^ 56 ≤ g.ea.toNat →
      dataAccess s acc g = .error (.mmu .realAddressRange))
  ∧ (∀ e : TlbEntry, e.attr = ⟨e.data.getLsbD 62, e.data.getLsbD 12, e.data.getLsbD 11, e.data.getLsbD 10,
      e.data.getLsbD 8, e.data.getLsbD 7, e.data.getLsbD 6⟩)
  ∧ ∀ (s : State) (attr : PageAttr) (asi : Asi) (writes cacheableOnly : Bool),
      let user := s.priv = false ∨ (asiInfo asi).asIfUser = true
      let noFault := asi ∈ [0x82#8, 0x83#8, 0x8A#8, 0x8B#8]
      let r := checkData s attr asi writes cacheableOnly
      (attr.p = true ∧ user → r = some (.exception .daePrivilegeViolation))
      ∧ (¬(attr.p = true ∧ user) →
        (attr.cp = false ∧ cacheableOnly = true → r = some (.exception .daeNcPage))
        ∧ (¬(attr.cp = false ∧ cacheableOnly = true) →
          (attr.nfo = true ∧ ¬noFault → r = some (.exception .daeNfoPage))
          ∧ (attr.e = true ∧ noFault → r = some (.exception .daeSideEffectPage))
          ∧ (¬(attr.nfo = true ∧ ¬noFault) → ¬(attr.e = true ∧ noFault) →
            r = if attr.w = false ∧ writes = true then some (.mmu .writeProtection) else none)))

/-- NOP, PREFETCH and PREFETCHA with a defined function, MEMBAR, FLUSH: only the program counters move (R457, R870, R871, R880, R885; logs 12 and 27). -/
def Obligations.HintInstructions : Prop :=
  ∀ s : State, Skips .nop s ∧ (∀ cmask mmask, Skips (.membar cmask mmask) s) ∧ (∀ rs1 op2, Skips (.flush rs1 op2) s)
    ∧ (∀ fcn rs1 op2, ¬(5 ≤ fcn.toNat ∧ fcn.toNat ≤ 15) → Skips (.prefetch fcn rs1 op2) s)
    ∧ ∀ fcn rs1 src, ¬(5 ≤ fcn.toNat ∧ fcn.toNat ≤ 15) → Skips (.prefetcha fcn rs1 src) s

/-! ### Floating-point loads and stores -/

/-- LDF, LDDF and the alternate forms, the FPU enabled, once the access reaches a real address, memory or a device (R955, R956, R960, R961, R202; log 42). -/
def Obligations.FpLoads : Prop :=
  ∀ (s : State) (rd rs1 : RegNum) (ra : Nat) (little : Bool) (v : Word64), fpuEnabled s = true →
    (Sees s ra 4 little v →
      (∀ op2, Reaches s (.load 4) (implicitTarget s rs1 op2) ra little →
        GivesS (.ldf rd rs1 op2) s (seen s ra 4) rd (v.setWidth 32))
      ∧ ∀ src, Reaches s (.load 4) (alternateTarget s rs1 src) ra little →
        GivesS (.ldfa rd rs1 src) s (seen s ra 4) rd (v.setWidth 32))
    ∧ (Sees s ra 8 little v →
      (∀ op2, Reaches s .loadDouble (implicitTarget s rs1 op2) ra little →
        GivesD (.lddf rd rs1 op2) s (seen s ra 8) rd v)
      ∧ ∀ src, Reaches s .loadDouble (alternateTarget s rs1 src) ra little →
        GivesD (.lddfa rd rs1 src) s (seen s ra 8) rd v)

/-- STF, STDF and the alternate forms, the FPU enabled, once the access reaches a real address, memory or a device (R970, R971, R975, R976, R202; log 42). -/
def Obligations.FpStores : Prop :=
  ∀ (s : State) (rd rs1 : RegNum) (ra : Nat) (little : Bool), fpuEnabled s = true →
    (∀ op2, Reaches s (.store 4) (implicitTarget s rs1 op2) ra little →
      GivesM (.stf rd rs1 op2) s s (image ra 4 little ((readS s rd).setWidth 64)))
    ∧ (∀ src, Reaches s (.store 4) (alternateTarget s rs1 src) ra little →
      GivesM (.stfa rd rs1 src) s s (image ra 4 little ((readS s rd).setWidth 64)))
    ∧ (∀ op2, Reaches s .storeDouble (implicitTarget s rs1 op2) ra little →
      GivesM (.stdf rd rs1 op2) s s (image ra 8 little (readD s rd)))
    ∧ ∀ src, Reaches s .storeDouble (alternateTarget s rs1 src) ra little →
      GivesM (.stdfa rd rs1 src) s s (image ra 8 little (readD s rd))

/-- LDFSR, LDXFSR, STFSR and STXFSR: which fields a load changes, bit by bit, and that a store leaves `ftt` zero (R965, R966, R980, R981), at memory or a device (R202; log 42). That a load leaves `ns` alone is NS_IMPLEMENTED's default (R84, D27, log 14). That `ns` and `qne` are bits 22 and 13 is R80's general knowledge (log 23). -/
def Obligations.FsrTransfers : Prop :=
  ∀ (s : State) (rs1 : RegNum) (op2 : RegOrImm 13) (ra : Nat) (little : Bool) (v : Word64), fpuEnabled s = true →
    (Sees s ra 4 little v → Reaches s (.load 4) (implicitTarget s rs1 op2) ra little →
      ∃ fsr, exec (.ldfsr rs1 op2) s = .next { seen s ra 4 with fsr := fsr, pc := s.npc, npc := s.npc + 4 }
        ∧ ∀ b, fsr.getLsbD b = if (30 ≤ b ∧ b ≤ 31) ∨ (23 ≤ b ∧ b ≤ 27) ∨ b ≤ 11 then v.getLsbD b else s.fsr.getLsbD b)
    ∧ (Sees s ra 8 little v → Reaches s (.load 8) (implicitTarget s rs1 op2) ra little →
      ∃ fsr, exec (.ldxfsr rs1 op2) s = .next { seen s ra 8 with fsr := fsr, pc := s.npc, npc := s.npc + 4 }
        ∧ ∀ b, fsr.getLsbD b
            = if (32 ≤ b ∧ b ≤ 37) ∨ (30 ≤ b ∧ b ≤ 31) ∨ (23 ≤ b ∧ b ≤ 27) ∨ b ≤ 11 then v.getLsbD b else s.fsr.getLsbD b)
    ∧ (Reaches s (.store 4) (implicitTarget s rs1 op2) ra little →
      GivesM (.stfsr rs1 op2) s { s with fsr := s.fsr &&& ~~~0x1C000#64 } (image ra 4 little s.fsr))
    ∧ (Reaches s (.store 8) (implicitTarget s rs1 op2) ra little →
      GivesM (.stxfsr rs1 op2) s { s with fsr := s.fsr &&& ~~~0x1C000#64 } (image ra 8 little s.fsr))

/-- LDBLOCKF and STBLOCKF, and LDDFA and STDFA where the ASI register holds a block ASI: eight doublewords, the first register 0, 16, 32 or 48; any other is illegal_instruction, for LDDFA with a commit ASI too (R985, R986, R220); at memory or a device (R202; log 42). That the eight doublewords move in one step, to noncacheable pages and through the commit ASIs as well, is the spec's decision D44 (log 28). That the block and commit ASIs are implemented is the spec's decision D33 (R214, log 31). -/
def Obligations.BlockTransfers : Prop :=
  ∀ (s : State) (rd rs1 rs2 : RegNum) (asi : Asi) (imm : BitVec 13),
    let g := alternateTarget s rs1 (.asiReg imm)
    let fs := fun k => readFd s (doubleNumber rd + BitVec.ofNat 6 (2 * k))
    ((doubleNumber rd).toNat % 16 = 0 → fpuEnabled s = true → ∀ (ra : Nat) (little : Bool),
      (∀ v : Nat → Word64, (∀ k, k < 8 → SeesPart s ra 64 (ra + 8 * k) 8 little (v k)) →
        (Reaches s .blockLoad (immediateTarget s rs1 rs2 asi) ra little →
          GivesBlock (.ldblockf rd rs1 rs2 asi) s (seen s ra 64) rd v)
        ∧ (asiClass s.asi = .block → Reaches s .blockLoad g ra little →
          GivesBlock (.lddfa rd rs1 (.asiReg imm)) s (seen s ra 64) rd v))
      ∧ (Reaches s .blockStore (immediateTarget s rs1 rs2 asi) ra little →
        GivesM (.stblockf rd rs1 rs2 asi) s s (blockImage ra little fs))
      ∧ (Reaches s .blockStore g ra little → GivesM (.stdfa rd rs1 (.asiReg imm)) s s (blockImage ra little fs)))
    ∧ ((doubleNumber rd).toNat % 16 ≠ 0 →
      Leaves (.ldblockf rd rs1 rs2 asi) s 0x010 ∧ Leaves (.stblockf rd rs1 rs2 asi) s 0x010
      ∧ (asiClass s.asi = .block ∨ asiClass s.asi = .commit →
        Leaves (.lddfa rd rs1 (.asiReg imm)) s 0x010 ∧ Leaves (.stdfa rd rs1 (.asiReg imm)) s 0x010))

/-- LDSHORTF, STSHORTF, STPARTIALF, and LDDFA and STDFA where the ASI register holds a short ASI, the FPU enabled (R990, R991, R995; LDSHORTF's zero extension is D45, log 29), at memory or a device (R202; log 42); STDFA where the ASI register holds a partial-store ASI is illegal_instruction (R221). That the short and partial-store ASIs are implemented is the spec's decision D33 (R214, log 31). -/
def Obligations.ShortAndPartialTransfers : Prop :=
  (∀ (s : State) (rd rs1 : RegNum) (imm : BitVec 13), asiClass s.asi = .pst →
    Leaves (.stdfa rd rs1 (.asiReg imm)) s 0x010)
  ∧ ∀ (s : State) (rd rs1 rs2 : RegNum) (asi : Asi) (imm : BitVec 13) (ra : Nat) (little : Bool), fpuEnabled s = true →
    let n := if asi.getLsbD 1 then 2 else 1
    let m := if s.asi.getLsbD 1 then 2 else 1
    let g := alternateTarget s rs1 (.asiReg imm)
    (∀ v, Sees s ra n little v → Reaches s (.shortLoad n) (immediateTarget s rs1 rs2 asi) ra little →
      GivesD (.ldshortf rd rs1 rs2 asi) s (seen s ra n) rd (loaded false n v))
    ∧ (∀ v, Sees s ra m little v → Reaches s (.shortLoad m) g ra little →
      GivesD (.lddfa rd rs1 (.asiReg imm)) s (seen s ra m) rd (loaded false m v))
    ∧ (Reaches s (.shortStore n) (immediateTarget s rs1 rs2 asi) ra little →
      GivesM (.stshortf rd rs1 rs2 asi) s s (image ra n little (readD s rd)))
    ∧ (Reaches s (.shortStore m) g ra little → GivesM (.stdfa rd rs1 (.asiReg imm)) s s (image ra m little (readD s rd)))
    ∧ (Reaches s .partialStore ⟨readReg s rs1, asi, true⟩ ra little →
      let size := if asi ∈ [0xC0#8, 0xC1#8, 0xC8#8, 0xC9#8] then 1
        else if asi ∈ [0xC2#8, 0xC3#8, 0xCA#8, 0xCB#8] then 2 else 4
      let picked := (List.range 8).filter fun k => (readReg s rs2).getLsbD ((if little then k else 7 - k) / size)
      GivesM (.stpartialf rd rs1 rs2 asi) s s (picked.map fun k => (ra + k, placedByte little 8 (readD s rd) k)))

/-! ### Register windows and state registers -/

/-- SAVE and RESTORE: the sources in the old window, the destination in the new one, the window registers; the spill, clean_window and fill traps (R1051, R1052, R1657). The model's choices: the locals and outs of the window that RESTORE leaves keep their contents, as R1052 has it for the spec's model, where the source does not guarantee it (U4, log 22); where the window registers are inconsistent, each does literally what its rule says (U3, log 22); clean_window is raised, no window being cleaned in hardware (R1051, I102, log 22). The places of the WSTATE fields are from general knowledge (R126, log 23). -/
def Obligations.SaveRestore : Prop :=
  ∀ (s : State) (rd rs1 : RegNum) (op2 : RegOrImm 13),
    let sum := readReg s rs1 + second s op2
    (s.cansave ≠ 0#3 → s.cleanwin ≠ s.canrestore →
      GivesR (.save rd rs1 op2) s
        { s with cwp := s.cwp + 1, cansave := s.cansave - 1, canrestore := s.canrestore + 1 } rd sum)
    ∧ (s.canrestore ≠ 0#3 →
      GivesR (.restore rd rs1 op2) s
        { s with cwp := s.cwp - 1, cansave := s.cansave + 1, canrestore := s.canrestore - 1 } rd sum)
    ∧ (s.cansave = 0#3 → Traps (.save rd rs1 op2) s s
        (if s.otherwin = 0#3 then 0x080 + 4 * (s.wstate.extractLsb' 0 3).setWidth 9
          else 0x0A0 + 4 * (s.wstate.extractLsb' 3 3).setWidth 9))
    ∧ (s.cansave ≠ 0#3 → s.cleanwin = s.canrestore → Traps (.save rd rs1 op2) s s 0x024)
    ∧ (s.canrestore = 0#3 → Traps (.restore rd rs1 op2) s s
        (if s.otherwin = 0#3 then 0x0C0 + 4 * (s.wstate.extractLsb' 0 3).setWidth 9
          else 0x0E0 + 4 * (s.wstate.extractLsb' 3 3).setWidth 9))

/-- FLUSHW; SAVED, RESTORED, ALLCLEAN, OTHERW, NORMALW and INVALW in privileged mode; SAVED and RESTORED where the source leaves them undefined (R1053 to R1059; log 19). On inconsistent window registers the others do literally what their rules say (U3, log 22). The places of the WSTATE fields are from general knowledge (R126, log 23). -/
def Obligations.WindowBookkeeping : Prop :=
  (∀ (s : State) (i : Bool),
    (s.cansave = 6#3 → Skips (.flushw i) s)
    ∧ (s.cansave ≠ 6#3 → Traps (.flushw i) s s
        (if s.otherwin = 0#3 then 0x080 + 4 * (s.wstate.extractLsb' 0 3).setWidth 9
          else 0x0A0 + 4 * (s.wstate.extractLsb' 3 3).setWidth 9)))
  ∧ ∀ s : State, s.priv = true →
      let next (t : State) : Host.Outcome State Fault Refusal := .next { t with pc := s.npc, npc := s.npc + 4 }
      let clean := if s.cleanwin = 7#3 then 7#3 else s.cleanwin + 1
      (s.cansave.toNat < 6 → s.canrestore ≠ 0#3 →
        exec .saved s = next (if s.otherwin = 0#3 then { s with cansave := s.cansave + 1, canrestore := s.canrestore - 1 }
          else { s with cansave := s.cansave + 1, otherwin := s.otherwin - 1 }))
      ∧ (6 ≤ s.cansave.toNat ∨ s.canrestore = 0#3 → exec .saved s = .refused .savedWindowsInconsistent)
      ∧ (s.canrestore.toNat < 6 → s.cansave ≠ 0#3 →
        exec .restored s = next (if s.otherwin = 0#3 then
            { s with canrestore := s.canrestore + 1, cleanwin := clean, cansave := s.cansave - 1 }
          else { s with canrestore := s.canrestore + 1, cleanwin := clean, otherwin := s.otherwin - 1 }))
      ∧ (6 ≤ s.canrestore.toNat ∨ s.cansave = 0#3 → exec .restored s = .refused .restoredWindowsInconsistent)
      ∧ exec .allclean s = next { s with cleanwin := 7 }
      ∧ exec .otherw s = next { s with otherwin := s.canrestore, canrestore := 0 }
      ∧ exec .normalw s = next { s with canrestore := s.otherwin, otherwin := 0 }
      ∧ exec .invalw s = next { s with cansave := 6, canrestore := 0, otherwin := 0 }

/-- RDasr in any mode: Y, CCR, ASI, FPRS, PC, GSR with the FPU enabled, TICK and STICK unless `npt` bars nonprivileged mode (R1061 to R1067, R1070). That `npt` alone bars it is the default of STICK_PRIV_ACCESS_DISABLED (log 14); where that parameter is set, nonprivileged software may read neither counter (00_scope.md R11, D23), and privileged software may not read STICK (R1060). -/
def Obligations.StateRegisterReads : Prop :=
  ∀ (s : State) (rd : RegNum),
    (∀ e ∈ readTable, GivesR (e.1 rd) s s rd (e.2 s))
    ∧ GivesR (.rdpc rd) s s rd (if s.am then BitVec.ofNat 64 (s.pc.toNat % 2 ^ 32) else s.pc)
    ∧ (fpuEnabled s = true → GivesR (.rdgsr rd) s s rd s.gsr)
    ∧ (s.priv = true ∨ s.tick.getLsbD 63 = false → GivesR (.rdtick rd) s s rd s.tick)
    ∧ (s.priv = true ∨ s.stick.getLsbD 63 = false → GivesR (.rdstick rd) s s rd s.stick)
    ∧ (s.priv = false → s.tick.getLsbD 63 = true → Leaves (.rdtick rd) s 0x037)
    ∧ (s.priv = false → s.stick.getLsbD 63 = true → Leaves (.rdstick rd) s 0x037)
    ∧ (∀ disabled v, counterDenied disabled s v = true ↔ s.priv = false ∧ (v.getLsbD 63 = true ∨ disabled = true))
    ∧ (∀ disabled, stickDenied disabled s = true ↔ disabled = true ∨ (s.priv = false ∧ s.stick.getLsbD 63 = true))
    ∧ readCounter s rd s.tick true = .fault (.exitToHyperprivileged (.trap 0x037) s.pc s.npc none)

/-- WRasr in any mode: the value written is the exclusive-or of the operands (R1075 to R1080). That WRCCR ignores bits 63:8 is R1077's own bracketed inference: the manual does not say so in words. That the reserved bits of GSR ignore the write and read 0 is the spec's decision D1 (log 20). -/
def Obligations.StateRegisterWrites : Prop :=
  ∀ (s : State) (rs1 : RegNum) (op2 : RegOrImm 13),
    let v := readReg s rs1 ^^^ second s op2
    (∀ e ∈ writeTable, exec (e.1 rs1 op2) s = .next { e.2 s v with pc := s.npc, npc := s.npc + 4 })
    ∧ (fpuEnabled s = true →
      exec (.wrgsr rs1 op2) s = .next { s with gsr := v &&& 0xFFFFFFFF0E0000FF, pc := s.npc, npc := s.npc + 4 })

/-- RDasr and RDPR of privileged software in privileged mode; those of a trap level read the frame of the current one, and are illegal_instruction at trap level 0 (R1068 to R1071, R1090 to R1106). -/
def Obligations.PrivilegedReads : Prop :=
  ∀ (s : State) (rd : RegNum), s.priv = true →
    (∀ e ∈ privilegedReadTable, GivesR (e.1 rd) s s rd (e.2 s))
    ∧ ∀ e ∈ trapReadTable, (∀ k : Fin 2, s.tl.val = k.val + 1 → GivesR (e.1 rd) s s rd (e.2 s.trapStack[k]))
        ∧ (s.tl = 0 → Leaves (e.1 rd) s 0x010)

/-- WRasr and WRPR of privileged software in privileged mode: the exclusive-or of the operands, the bits each register holds, nothing else changed (R1081 to R1085, R1110 to R1125). The model's choices, log 20: a value of TL or GL above 2 saturates (D5), PSTATE keeps only the bits 0x131E, `mm` being hard-wired to 0 (D39), and TSTATE keeps no reserved bit (D2). The places of the PSTATE fields are from general knowledge (R150, log 23). -/
def Obligations.PrivilegedWrites : Prop :=
  ∀ (s : State) (rs1 : RegNum) (op2 : RegOrImm 13), s.priv = true →
    let v := readReg s rs1 ^^^ second s op2
    (∀ e ∈ privilegedWriteTable, exec (e.1 rs1 op2) s = .next { e.2 s v with pc := s.npc, npc := s.npc + 4 })
    ∧ ∀ e ∈ trapWriteTable,
        (∀ k : Fin 2, s.tl.val = k.val + 1 →
          exec (e.1 rs1 op2) s = .next { s with
            trapStack := s.trapStack.set k.val (e.2 s.trapStack[k] v) k.isLt, pc := s.npc, npc := s.npc + 4 })
        ∧ (s.tl = 0 → Leaves (e.1 rs1 op2) s 0x010)

/-! ### Floating point -/

/-- FMOV, FNEG, FABS, and FMOVcc and FMOVr, the FPU enabled: the bits moved where the condition holds, `cexc` and `ftt` cleared whether or not it does (R1170 to R1177, R1230 to R1252). That a false condition leaves FPRS unmarked is the model's choice (impl. dep. #403, log 25). -/
def Obligations.FpMoves : Prop :=
  ∀ (s : State) (rd rs1 rs2 : RegNum), fpuEnabled s = true →
    let quiet := { s with fsr := quietFsr s.fsr }
    let S (i : Instr) (test : Bool) : Prop := if test then GivesS i s quiet rd (readS s rs2)
      else exec i s = .next { quiet with pc := s.npc, npc := s.npc + 4 }
    let D (i : Instr) (test : Bool) : Prop := if test then GivesD i s quiet rd (readD s rs2)
      else exec i s = .next { quiet with pc := s.npc, npc := s.npc + 4 }
    (∀ e ∈ moveSTable, GivesS (e.1 rd rs2) s quiet rd (e.2 (readS s rs2)))
    ∧ (∀ e ∈ moveDTable, GivesD (e.1 rd rs2) s quiet rd (e.2 (readD s rs2)))
    ∧ (∀ cond : BitVec 4,
      S (.fmovsicc rd cond rs2) (iccTest cond (selected s .icc)) ∧ S (.fmovsxcc rd cond rs2) (iccTest cond (selected s .xcc))
      ∧ D (.fmovdicc rd cond rs2) (iccTest cond (selected s .icc)) ∧ D (.fmovdxcc rd cond rs2) (iccTest cond (selected s .xcc))
      ∧ ∀ fcc, S (.fmovsfcc rd fcc cond rs2) (fccTest cond (fccOf s.fsr fcc))
          ∧ D (.fmovdfcc rd fcc cond rs2) (fccTest cond (fccOf s.fsr fcc)))
    ∧ (∀ e ∈ fmovrSTable, S (e.1 rd rs1 rs2) (rcondTest e.2 (readReg s rs1)))
    ∧ ∀ e ∈ fmovrDTable, D (e.1 rd rs1 rs2) (rcondTest e.2 (readReg s rs1))

/-- FADD to FDIV, FsMULd, FSQRT, the conversions to floating point and the fused multiply-adds, the FPU enabled: the result and FSR where no enabled condition traps, the trap where one does (R1155, R1179 to R1208, R1260 to R1268). The model's choices: no operand is left unfinished (R1157's default, log 26); the fused multiply-adds are implemented (FMAF_IMPLEMENTED, log 14); a trap leaves FPRS unmarked (#403, log 25); which of two NaNs is delivered (D26, log 24); a zero plus or minus a subnormal number is a cell of R1270, without underflow (log 41). -/
def Obligations.FpArithmeticResults : Prop :=
  ∀ (s : State) (rd rs1 rs2 rs3 : RegNum), fpuEnabled s = true →
    let traps (e : FpFlags) : Bool := (ieeeDecision (trapEnable s.fsr) e).2
    let S (i : Instr) (r : Nat × FpFlags) : Prop :=
      (traps r.2 = false → GivesS i s { s with fsr := fsrAfter s.fsr r.2 } rd (BitVec.ofNat 32 r.1))
      ∧ (traps r.2 = true → FpTraps i s r.2)
    let D (i : Instr) (r : Nat × FpFlags) : Prop :=
      (traps r.2 = false → GivesD i s { s with fsr := fsrAfter s.fsr r.2 } rd (BitVec.ofNat 64 r.1))
      ∧ (traps r.2 = true → FpTraps i s r.2)
    (∀ e ∈ arithSTable, S (e.1 rd rs1 rs2) (e.2 s rs1 rs2)) ∧ (∀ e ∈ arithDTable, D (e.1 rd rs1 rs2) (e.2 s rs1 rs2))
    ∧ (∀ e ∈ unarySTable, S (e.1 rd rs2) (e.2 s rs2)) ∧ (∀ e ∈ unaryDTable, D (e.1 rd rs2) (e.2 s rs2))
    ∧ (∀ e ∈ fusedSTable, S (e.1 rd rs1 rs3 rs2) (e.2 s rs1 rs2 rs3))
    ∧ ∀ e ∈ fusedDTable, D (e.1 rd rs1 rs3 rs2) (e.2 s rs1 rs2 rs3)

/-- FsTOi, FdTOi, FsTOx, FdTOx, FCMP and FCMPE, the FPU enabled: the integer, or the relation in `fcc<n>` alone, and FSR; or the trap (R1155, R1212 to R1217, R1219 to R1224). The model's choices: no operand is left unfinished (R1157's default, log 26); traps and compares leave FPRS unmarked (#403, log 25); a conversion tests its range on the truncated value (R1212's own inference, log 35). -/
def Obligations.FpToIntegerAndCompare : Prop :=
  ∀ (s : State) (rd rs1 rs2 : RegNum) (fcc : FccNum), fpuEnabled s = true →
    let traps (e : FpFlags) : Bool := (ieeeDecision (trapEnable s.fsr) e).2
    let S (i : Instr) (r : Int × FpFlags) : Prop :=
      (traps r.2 = false → GivesS i s { s with fsr := fsrAfter s.fsr r.2 } rd (BitVec.ofInt 32 r.1))
      ∧ (traps r.2 = true → FpTraps i s r.2)
    let D (i : Instr) (r : Int × FpFlags) : Prop :=
      (traps r.2 = false → GivesD i s { s with fsr := fsrAfter s.fsr r.2 } rd (BitVec.ofInt 64 r.1))
      ∧ (traps r.2 = true → FpTraps i s r.2)
    let C (i : Instr) (e : FpFlags) (rel : BitVec 2) : Prop :=
      (traps e = false → exec i s = .next { s with fsr := withFcc (fsrAfter s.fsr e) fcc rel, pc := s.npc, npc := s.npc + 4 })
      ∧ (traps e = true → FpTraps i s e)
    let a := unpackS (readS s rs1)
    let b := unpackS (readS s rs2)
    let x := unpackD (readD s rs1)
    let y := unpackD (readD s rs2)
    S (.fstoi rd rs2) (fpToInt 32 b) ∧ S (.fdtoi rd rs2) (fpToInt 32 y)
    ∧ D (.fstox rd rs2) (fpToInt 64 b) ∧ D (.fdtox rd rs2) (fpToInt 64 y)
    ∧ C (.fcmps fcc rs1 rs2) (compareFlags false a b) (fpRelation a b)
    ∧ C (.fcmpes fcc rs1 rs2) (compareFlags true a b) (fpRelation a b)
    ∧ C (.fcmpd fcc rs1 rs2) (compareFlags false x y) (fpRelation x y)
    ∧ C (.fcmped fcc rs1 rs2) (compareFlags true x y) (fpRelation x y)

/-- Which detected conditions reach `cexc` and which trap, by Table 5-7; the fields of FSR that an FPop writes, bit by bit (R1155; 10_state.md R80, R83, R87, R88); and what an FPop does that is left unfinished, `ftt` 2 and fp_exception_other, should the parameter of R1157 say so (which it never does by default, log 26). The order of the five conditions in `tem`, `aexc` and `cexc` is R89's general knowledge (log 23). -/
def Obligations.IeeeExceptions : Prop :=
  (∀ (tem : BitVec 5) (e : FpFlags),
    let d := ieeeDecision tem e
    (e.ovf = true → (tem.getLsbD 3 = true → d = (0b01000, true))
      ∧ (tem.getLsbD 3 = false → tem.getLsbD 0 = true → d = (0b00001, true))
      ∧ (tem.getLsbD 3 = false → tem.getLsbD 0 = false → d = (0b01001, false)))
    ∧ (e.ovf = false → e.unf = true → (tem.getLsbD 2 = true → d = (0b00100, true))
      ∧ (tem.getLsbD 2 = false → tem.getLsbD 0 = true → d = (0b00001, true))
      ∧ (tem.getLsbD 2 = false → tem.getLsbD 0 = false → d = (0b00101, false)))
    ∧ (e.ovf = false → e.unf = false →
      (d.2 = true ↔ (e.nv = true ∧ tem.getLsbD 4 = true) ∨ (e.dz = true ∧ tem.getLsbD 1 = true)
        ∨ (e.nx = true ∧ tem.getLsbD 0 = true))
      ∧ d.1.getLsbD 4 = e.nv ∧ d.1.getLsbD 3 = false ∧ d.1.getLsbD 2 = false ∧ d.1.getLsbD 1 = e.dz
      ∧ d.1.getLsbD 0 = e.nx))
  ∧ (∀ (fsr : Word64) (ftt : BitVec 3) (cexc : BitVec 5) (b : Nat),
      (withFttCexc fsr ftt cexc).getLsbD b
        = if b < 5 then cexc.getLsbD b else if 14 ≤ b ∧ b ≤ 16 then ftt.getLsbD (b - 14) else fsr.getLsbD b)
  ∧ (∀ (fsr : Word64) (c : BitVec 5) (b : Nat),
      (accrue fsr c).getLsbD b = (fsr.getLsbD b || (decide (5 ≤ b ∧ b ≤ 9) && c.getLsbD (b - 5))))
  ∧ (∀ (fsr : Word64) (m n : FccNum) (rel : BitVec 2),
      fccOf (withFcc fsr n rel) m = (if m = n then rel else fccOf fsr m)
      ∧ ∀ b, b < 10 ∨ (12 ≤ b ∧ b < 32) ∨ 38 ≤ b → (withFcc fsr n rel).getLsbD b = fsr.getLsbD b)
  ∧ ∀ (s : State) (k : Outcome), unlessUnfinished false s k = k
      ∧ (s.tl.val < 2 → ∃ fsr : Word64, unlessUnfinished true s k = .next (takeTrap { s with fsr := fsr } 0x022)
        ∧ ∀ b, fsr.getLsbD b = if 14 ≤ b ∧ b ≤ 16 then decide (b = 15) else s.fsr.getLsbD b)

/-- What FADD, FSUB, FMUL, FDIV, FSQRT and the fused multiply-adds give for every class of operands, bit patterns in and out: the NaN delivered (R1156; which of two is D26, log 24), the cells of R1270 to R1274 for infinities and zeros, and on numbers the exact result, as a rational number, put through `roundTo`; a quotient and a root with more bits than a format keeps and a last one that says whether they are exact (R1179, R1194, R1260). A zero plus or minus a number is the number, without underflow (log 41). -/
def Obligations.ExactArithmetic : Prop :=
  (∀ (f : FpFormat) (s : State) (n m : Nat), n < 2 ^ fpWidth f → m < 2 ^ fpWidth f →
    let op (o : FpOp) := arith o f s (unpack f n) (unpack f m)
    let x := numberValue f n
    let y := numberValue f m
    let sign := negative f n ^^ negative f m
    (∀ r, nanRule f n m = some r → ∀ o, op o = r)
    -- infinities
    ∧ (isInfinity f n = true → isInfinity f m = true →
      op .add = (if sign then (defaultNanOf f, .invalid) else (n, .none))
      ∧ op .sub = (if sign then (n, .none) else (defaultNanOf f, .invalid))
      ∧ op .mul = (infinityOf f sign, .none) ∧ op .div = (defaultNanOf f, .invalid))
    ∧ (isInfinity f n = true → isNumber f m = true → op .add = (n, .none) ∧ op .sub = (n, .none)
      ∧ op .mul = (if y = 0 then (defaultNanOf f, .invalid) else (infinityOf f sign, .none))
      ∧ op .div = (infinityOf f sign, .none))
    ∧ (isNumber f n = true → isInfinity f m = true → op .add = (m, .none) ∧ op .sub = (flipSign f m, .none)
      ∧ op .mul = (if x = 0 then (defaultNanOf f, .invalid) else (infinityOf f sign, .none))
      ∧ op .div = (zeroOf f sign, .none))
    -- numbers
    ∧ (isNumber f n = true → isNumber f m = true →
      SumGives f s x y (negative f n) (negative f m) n m (op .add)
      ∧ SumGives f s x (-y) (negative f n) (!negative f m) n (flipSign f m) (op .sub)
      ∧ (if x * y = 0 then op .mul = (zeroOf f sign, .none) else Delivers f s (x * y) (op .mul))
      ∧ (if y = 0 then op .div = (if x = 0 then (defaultNanOf f, .invalid) else (infinityOf f sign, .divByZero))
        else if x = 0 then op .div = (zeroOf f sign, .none)
        else ∃ (q : Nat) (e : Int), q * (2 : ℚ) ^ e ≤ |x / y| ∧ |x / y| < (q + 1) * (2 : ℚ) ^ e
          ∧ DeliversSticky f s sign q e (decide (q * (2 : ℚ) ^ e = |x / y|)) (op .div))))
  ∧ (∀ (f : FpFormat) (s : State) (n : Nat), n < 2 ^ fpWidth f →
    let r := squareRoot f s (unpack f n)
    let x := numberValue f n
    (isNaN f n = true → r = (quietOf f n, nanFlags f n))
    ∧ (isInfinity f n = true → r = (if negative f n then (defaultNanOf f, .invalid) else (n, .none)))
    ∧ (isNumber f n = true →
      (x = 0 → r = (n, .none)) ∧ (x < 0 → r = (defaultNanOf f, .invalid))
      ∧ (0 < x → ∃ (q : Nat) (e : Int), (q * (2 : ℚ) ^ e) ^ 2 ≤ x ∧ x < ((q + 1) * (2 : ℚ) ^ e) ^ 2
        ∧ DeliversSticky f s false q e (decide ((q * (2 : ℚ) ^ e) ^ 2 = x)) r)))
  ∧ ∀ (f : FpFormat) (s : State) (minus negate : Bool) (a b c : Nat),
      a < 2 ^ fpWidth f → b < 2 ^ fpWidth f → c < 2 ^ fpWidth f →
      FusedGives f s minus negate a b c (fusedMultiplyAdd f s minus negate (unpack f a) (unpack f b) (unpack f c))

/-- `roundTo` is round_to of R1154 on every number `mant * 2^exp` but zero: overflow and the value it delivers in each direction, tininess before rounding, underflow, inexact; the rounding mode is GSR's or FSR's (R1153). A magnitude in units of `2^q`: the multiple chosen, and whether it is exact. A conversion to an integer truncates, and is invalid out of range, for a NaN and for an infinity (R1212). That the range is tested on the truncated value is an inference: R1212 marks it as derived, and log 35 as DEDUCED. The values an overflow delivers are marked in R1154 as general knowledge, not in the source. -/
def Obligations.Rounding : Prop :=
  (∀ (f : FpFormat) (mode : BitVec 2) (ufm neg : Bool) (mant : Nat) (exp : Int), 0 < mant →
    RoundsTo f mode ufm (signedValue neg mant exp) (roundTo f mode ufm neg mant exp))
  ∧ (∀ s : State, roundingMode s = (if s.gsr.getLsbD 27 then s.gsr.extractLsb' 25 2 else s.fsr.extractLsb' 30 2))
  ∧ (∀ (mode : BitVec 2) (neg : Bool) (mant : Nat) (exp q : Int),
    let r := roundMagnitude mode neg mant exp q
    let x : ℚ := mant * (2 : ℚ) ^ (exp - q)
    (r.2 = false ↔ (r.1 : ℚ) = x) ∧ |(r.1 : ℚ) - x| < 1
    ∧ (mode = 0#2 → 2 * |(r.1 : ℚ) - x| ≤ 1 ∧ (2 * |(r.1 : ℚ) - x| = 1 → r.1 % 2 = 0))
    ∧ (mode = 1#2 → (r.1 : ℚ) ≤ x)
    ∧ (mode = 2#2 → if neg then (r.1 : ℚ) ≤ x else x ≤ r.1)
    ∧ (mode = 3#2 → if neg then x ≤ r.1 else (r.1 : ℚ) ≤ x))
  ∧ (∀ (w : Nat) (neg : Bool) (mant : Nat) (exp : Int), w = 32 ∨ w = 64 →
      let x := signedValue neg mant exp
      let r := fpToInt w (.finite neg mant exp)
      if -(2 ^ (w - 1) : ℚ) - 1 < x ∧ x < 2 ^ (w - 1) then
        |(r.1 : ℚ)| ≤ |x| ∧ |x - r.1| < 1 ∧ (r.1 : ℚ) * x ≥ 0
        ∧ r.2 = { FpFlags.none with nx := decide ((r.1 : ℚ) ≠ x) }
      else r = (if neg then -2 ^ (w - 1) else 2 ^ (w - 1) - 1, FpFlags.invalid))
  ∧ ∀ (f : FpFormat) (w n : Nat), n < 2 ^ fpWidth f → w = 32 ∨ w = 64 →
      let r := fpToInt w (unpack f n)
      (isNumber f n = false → r = (if negative f n then -2 ^ (w - 1) else 2 ^ (w - 1) - 1, FpFlags.invalid))
      ∧ (isNumber f n = true → numberValue f n = 0 → r = (0, .none))

/-- The values of bit patterns, and what moves between formats (R1151). Every bit pattern of both formats, NaNs and subnormal numbers too, is the bit pattern of its value, and a number of either is the number of its fields. FsTOd and FdTOs, FsMULd, and the integers to floating point: exact, or put through `roundTo`, NaNs widened or narrowed (R1189, R1199, R1200, R1275). FCMP and FCMPE compare numbers as rational numbers, put infinities at the ends and find a NaN unordered, and detect invalid as R1219 says. -/
def Obligations.UnpackPack : Prop :=
  (∀ n : Nat, n < 2 ^ 32 → pack .single (unpack .single n) = n)
  ∧ (∀ n : Nat, n < 2 ^ 64 → pack .double (unpack .double n) = n)
  ∧ (∀ (f : FpFormat) (n : Nat), n < 2 ^ fpWidth f → isNumber f n = true →
      if numberValue f n = 0 then unpack f n = .zero (negative f n)
      else ∃ mant exp, unpack f n = .finite (negative f n) mant exp ∧ 0 < mant
        ∧ signedValue (negative f n) mant exp = numberValue f n)
  ∧ (∀ n : Nat, n < 2 ^ 32 →
      let r := singleToDouble (unpack .single n)
      (isNaN .single n = true → r = (widenNan (quietOf .single n), nanFlags .single n))
      ∧ (isInfinity .single n = true → r = (infinityOf .double (negative .single n), .none))
      ∧ (isNumber .single n = true → r.1 < 2 ^ 64 ∧ isNumber .double r.1 = true
        ∧ negative .double r.1 = negative .single n ∧ numberValue .double r.1 = numberValue .single n ∧ r.2 = .none))
  ∧ (∀ (s : State) (n : Nat), n < 2 ^ 64 →
      let r := doubleToSingle s (unpack .double n)
      (isNaN .double n = true → r = (narrowNan (quietOf .double n), nanFlags .double n))
      ∧ (isInfinity .double n = true → r = (infinityOf .single (negative .double n), .none))
      ∧ (isNumber .double n = true →
        if numberValue .double n = 0 then r = (zeroOf .single (negative .double n), .none)
        else Delivers .single s (numberValue .double n) r))
  ∧ (∀ n m : Nat, n < 2 ^ 32 → m < 2 ^ 32 →
      let r := singleProduct (unpack .single n) (unpack .single m)
      let x := numberValue .single n
      let y := numberValue .single m
      let sign := negative .single n ^^ negative .single m
      (∀ v, nanRule .single n m = some v → r = (widenNan v.1, v.2))
      ∧ (nanRule .single n m = none → isInfinity .single n = true ∨ isInfinity .single m = true →
        r = (if (isNumber .single n = true ∧ x = 0) ∨ (isNumber .single m = true ∧ y = 0) then (defaultNanOf .double, .invalid)
          else (infinityOf .double sign, .none)))
      ∧ (isNumber .single n = true → isNumber .single m = true →
        r.1 < 2 ^ 64 ∧ isNumber .double r.1 = true ∧ negative .double r.1 = sign ∧ numberValue .double r.1 = x * y
        ∧ r.2 = .none))
  ∧ (∀ (f : FpFormat) (s : State) (i : Int), if i = 0 then intToFp f s i = (0, .none) else Delivers f s i (intToFp f s i))
  ∧ ∀ (f : FpFormat) (n m : Nat), n < 2 ^ fpWidth f → m < 2 ^ fpWidth f →
      let a := unpack f n
      let b := unpack f m
      let x := numberValue f n
      let y := numberValue f m
      (∀ signalling, compareFlags signalling a b
        = if isSignalling f n || isSignalling f m || (signalling && (isNaN f n || isNaN f m)) then .invalid else .none)
      ∧ (isNaN f n = true ∨ isNaN f m = true → fpRelation a b = 3)
      ∧ (isNumber f n = true → isNumber f m = true → fpRelation a b = if x = y then 0 else if x < y then 1 else 2)
      ∧ (isInfinity f n = true → isInfinity f m = true →
        fpRelation a b = if negative f n = negative f m then 0 else if negative f n then 1 else 2)
      ∧ (isInfinity f n = true → isNumber f m = true → fpRelation a b = if negative f n then 1 else 2)
      ∧ (isNumber f n = true → isInfinity f m = true → fpRelation a b = if negative f m then 2 else 1)

/-- Every instruction that needs the FPU raises fp_disabled where one of the enable bits is 0 (R101): those that test them first, and LDBLOCKF, STBLOCKF, LDDFA and STDFA, which have a check of the register, or of the ASI, before that (R961, R976, R985, R986, R221), where these pass. -/
def Obligations.FpDisabledTraps : Prop :=
  ∀ s : State, s.fprs.getLsbD 2 = false ∨ s.pef = false →
    (∀ i : Instr, needsFpu i = true → Traps i s s 0x020)
    ∧ ∀ (rd rs1 rs2 : RegNum) (src : AsiOperand) (asi : Asi),
      let class_ := asiClass (explicitAsi s src)
      ((doubleNumber rd).toNat % 16 = 0 → Traps (.ldblockf rd rs1 rs2 asi) s s 0x020 ∧ Traps (.stblockf rd rs1 rs2 asi) s s 0x020)
      ∧ ((class_ = .block ∨ class_ = .commit → (doubleNumber rd).toNat % 16 = 0) →
        Traps (.lddfa rd rs1 src) s s 0x020 ∧ (class_ ≠ .pst → Traps (.stdfa rd rs1 src) s s 0x020))

/-! ### VIS -/

/-- The 32 logical instructions, the FPU enabled: FSR is not touched (R1400, R1481 to R1512). -/
def Obligations.VisLogical : Prop :=
  ∀ (s : State) (rd rs1 rs2 : RegNum), fpuEnabled s = true →
    (∀ e ∈ logicalDTable, GivesD (e.1 rd rs1 rs2) s s rd (e.2 (readD s rs1) (readD s rs2)))
    ∧ (∀ e ∈ logicalSTable, GivesS (e.1 rd rs1 rs2) s s rd (e.2 (readS s rs1) (readS s rs2)))
    ∧ GivesD (.fzerod rd) s s rd 0 ∧ GivesS (.fzeros rd) s s rd 0
    ∧ GivesD (.foned rd) s s rd (BitVec.ofNat 64 (2 ^ 64 - 1)) ∧ GivesS (.fones rd) s s rd (BitVec.ofNat 32 (2 ^ 32 - 1))
    ∧ GivesD (.fsrc1d rd rs1) s s rd (readD s rs1) ∧ GivesS (.fsrc1s rd rs1) s s rd (readS s rs1)
    ∧ GivesD (.fsrc2d rd rs2) s s rd (readD s rs2) ∧ GivesS (.fsrc2s rd rs2) s s rd (readS s rs2)
    ∧ GivesD (.fnot1d rd rs1) s s rd (~~~readD s rs1) ∧ GivesS (.fnot1s rd rs1) s s rd (~~~readS s rs1)
    ∧ GivesD (.fnot2d rd rs2) s s rd (~~~readD s rs2) ∧ GivesS (.fnot2s rd rs2) s s rd (~~~readS s rs2)

/-- The partitioned adds, subtracts and multiplies, FPMERGE, FEXPAND, the packs, PDIST, FALIGNDATA and BSHUFFLE, the FPU enabled, element by element in integer arithmetic (R1404, R1406, R1450 to R1478, R1520; the rounding of FMUL8x16 and its AU and AL forms is D29, log 34). That PDIST wraps at 2^64 is R1520's own inference, marked "derived: from the 64-bit width of FD[rd]". -/
def Obligations.VisArithmetic : Prop :=
  ∀ (s : State) (rd rs1 rs2 : RegNum), fpuEnabled s = true →
    let x := readD s rs1
    let y := readD s rs2
    (∀ e ∈ halvesTable, ∃ v, GivesD (e.1 rd rs1 rs2) s s rd v ∧ ∀ k, k < 4 → half v k = BitVec.ofInt 16 (e.2 s rs1 rs2 k))
    ∧ (∀ e ∈ wordsTable, ∃ v, GivesD (e.1 rd rs1 rs2) s s rd v ∧ ∀ k, k < 2 → word v k = BitVec.ofInt 32 (e.2 s rs1 rs2 k))
    ∧ (∀ e ∈ halvesSTable, ∃ v, GivesS (e.1 rd rs1 rs2) s s rd v ∧ ∀ k, k < 2 → halfS v k = BitVec.ofInt 16 (e.2 s rs1 rs2 k))
    ∧ GivesS (.fpadd32s rd rs1 rs2) s s rd (readS s rs1 + readS s rs2)
    ∧ GivesS (.fpsub32s rd rs1 rs2) s s rd (readS s rs1 - readS s rs2)
    ∧ (∃ v, GivesD (.fexpand rd rs2) s s rd v
      ∧ ∀ k, k < 4 → half v k = BitVec.ofNat 16 ((byteS (readS s rs2) k).toNat * 16))
    ∧ (∃ v, GivesS (.fpack16 rd rs2) s s rd v
      ∧ ∀ k, k < 4 → byteS v k = BitVec.ofInt 8 (clip 0 255 ((half y k).toInt * 2 ^ (scale s % 16) / 2 ^ 7)))
    ∧ (∃ v, GivesS (.fpackfix rd rs2) s s rd v
      ∧ ∀ k, k < 2 → halfS v k = BitVec.ofInt 16 (clip (-32768) 32767 ((word y k).toInt * 2 ^ scale s / 2 ^ 16)))
    ∧ GivesD (.pdist rd rs1 rs2) s s rd (readD s rd + BitVec.ofNat 64 ((List.range 8).map fun k =>
        (((x.extractLsb' (8 * k) 8).toNat : Int) - (y.extractLsb' (8 * k) 8).toNat).natAbs).sum)
    ∧ GivesD (.faligndata rd rs1 rs2) s s rd
        (BitVec.ofNat 64 ((x.toNat * 2 ^ 64 + y.toNat) / 2 ^ (64 - 8 * (s.gsr.toNat % 8))))
    ∧ ∃ v, GivesD (.bshuffle rd rs1 rs2) s s rd v
      ∧ ∀ k, k < 8 → v.extractLsb' (8 * k) 8
          = BitVec.ofNat 8 ((x.toNat * 2 ^ 64 + y.toNat) / 2 ^ (8 * (15 - s.gsr.toNat / 2 ^ (32 + 4 * k) % 16)))

/-- EDGE, ARRAY, the partitioned compares, ALIGNADDRESS, BMASK and SIAM: results in integer registers, and the fields of GSR they write (R1402, R1403, R1405, R1410 to R1448, R1521; ARRAY with `R[rs2]` above 5 gives a free value, log 11). That EDGE writes 0 above its mask is R1420's own bracketed inference (derived from the sentence that R[rd] is set to the mask), and that ARRAY ignores the fraction fields is R1410's ("derived: from Table 7-5, whose source-bit column never names those bits"). -/
def Obligations.VisIntegerResults : Prop :=
  ∀ (s : State) (rd rs1 rs2 : RegNum),
    let a := readReg s rs1
    let b := readReg s rs2
    let sum := (a.toNat + b.toNat) % 2 ^ 64
    (∀ row ∈ edgeTable, ∃ v, GivesR (row.plain rd rs1 rs2) s s rd v
      ∧ GivesR (row.setsCcr rd rs1 rs2) s { s with ccr := ccSub a b false } rd v
      ∧ ∀ k, v.getLsbD k = edgeBit row s.am a b k)
    ∧ (∀ e ∈ arrayTable,
      (b.toNat ≤ 5 → GivesR (e.1 rd rs1 rs2) s s rd (BitVec.ofNat 64 (blocked a b.toNat * 2 ^ e.2)))
      ∧ (5 < b.toNat → ∃ v f, GivesR (e.1 rd rs1 rs2) s { s with freeCount := f } rd v))
    ∧ (fpuEnabled s = true →
      (∀ e ∈ compareHalfTable, ∃ v, GivesR (e.1 rd rs1 rs2) s s rd v
        ∧ ∀ k, v.getLsbD k = (decide (k < 4) && e.2 (half (readD s rs1) k) (half (readD s rs2) k)))
      ∧ (∀ e ∈ compareWordTable, ∃ v, GivesR (e.1 rd rs1 rs2) s s rd v
        ∧ ∀ k, v.getLsbD k = (decide (k < 2) && e.2 (word (readD s rs1) k) (word (readD s rs2) k)))
      ∧ GivesR (.alignaddress rd rs1 rs2) s { s with gsr := BitVec.ofNat 64 (s.gsr.toNat / 8 * 8 + sum % 8) } rd
          (BitVec.ofNat 64 (sum / 8 * 8))
      ∧ GivesR (.alignaddressLittle rd rs1 rs2) s
          { s with gsr := BitVec.ofNat 64 (s.gsr.toNat / 8 * 8 + (8 - sum % 8) % 8) } rd (BitVec.ofNat 64 (sum / 8 * 8))
      ∧ GivesR (.bmask rd rs1 rs2) s
          { s with gsr := BitVec.ofNat 64 (sum % 2 ^ 32 * 2 ^ 32 + s.gsr.toNat % 2 ^ 32) } rd (BitVec.ofNat 64 sum)
      ∧ ∀ mode, ∃ gsr, exec (.siam mode) s = .next { s with gsr := gsr, pc := s.npc, npc := s.npc + 4 }
          ∧ ∀ k, gsr.getLsbD k = if 25 ≤ k ∧ k ≤ 27 then mode.getLsbD (k - 25) else s.gsr.getLsbD k)

/-! ### The step -/

/-- Which disrupting trap is pending and enabled: none with `PSTATE.ie` 0, none at trap level 2 (the spec's decision D54, log 32); else the first of cpu_mondo, dev_mondo, the highest interrupt level above PIL, resumable_error (R1586, R1665). That a queue trap is pending at every boundary where head and tail differ is the spec's decision D46 (R1586, log 32). -/
def Obligations.PendingTraps : Prop :=
  ∀ s : State,
    (s.ie = false ∨ s.tl = 2 → pendingDisrupting s = none)
    ∧ (s.ie = true → s.tl ≠ 2 →
      (s.cpuMondo.head ≠ s.cpuMondo.tail → pendingDisrupting s = some .cpuMondo)
      ∧ (s.cpuMondo.head = s.cpuMondo.tail →
        (s.devMondo.head ≠ s.devMondo.tail → pendingDisrupting s = some .devMondo)
        ∧ (s.devMondo.head = s.devMondo.tail →
          (∀ n, 1 ≤ n → n ≤ 15 → Pending s n → (∀ m, n < m → m ≤ 15 → ¬Pending s m) → s.pil.toNat < n →
            pendingDisrupting s = some (.interruptLevel (BitVec.ofNat 4 n)))
          ∧ ((∀ n, s.pil.toNat < n → n ≤ 15 → ¬Pending s n) →
            pendingDisrupting s = if s.resError.head ≠ s.resError.tail then some .resumableError else none))))

/-- A step, the environment advanced, runs exactly the instruction whose word lies at the fetch address, big-endian, memory's or a device's: the result is exec's; a pending disrupting trap comes in its place unless the instruction gives an exception. A word that does not decode raises illegal_instruction (R360); a fetch that stops raises what stops it, in the order of R287: the watchpoint, the MMU's event, the page's checks (R301; the exits are log 3). The environment's advance changes only the counters, what they compare with, the queues, the requests, the bytes other agents store and the model's mark (R1585; 20_memory.md R301; 70_reset_and_hazards.md R1772). The choices in it: the order is the spec's decision D47 (log 8); the counters move by one a step and nothing else moves where no input is left (D24, D49, log 7); what another agent stores arrives between two instructions (logs 7, 12 and 42); nonprivileged mode above trap level 0 is refused (U30, D52, log 21); a word of ASR 16 or 17 is illegal too (PERF_ASRS, log 14); a byte nothing has written stops the fetch (log 4); devices are log 42. -/
def Obligations.StepRunsDecoded : Prop :=
  (∀ (s : State) (ra : Nat) (w : Word32), s.priv = true ∨ s.tl = 0 →
    let e := advanceEnvironment s
    let f := seen e ra 4
    fetchAddress e = .ok ra →
    (Sees e ra 4 false (w.setWidth 64) →
      (∀ i, decode w = .ok i →
        (pendingDisrupting f = none → step s = exec i f)
        ∧ (∀ d, pendingDisrupting f = some d →
          step s = if gaveException (exec i f) then exec i f else .next (takeTrap f d.tt)))
      ∧ (∀ r, decode w = .error r → step s = .fault (.exitToHyperprivileged (.trap 0x010) f.pc f.npc none)))
    ∧ ∀ k, k < 4 → (∀ j, j < k → ∃ b, byteSeen e ra 4 (ra + j) = .ok b) → (∃ a, byteSeen e ra 4 (ra + k) = .error a) →
        step s = .fault (.unwrittenMemory (ra + k)))
  ∧ (∀ s : State, s.priv = true ∨ s.tl = 0 →
    let e := advanceEnvironment s
    let va : Word64 := if e.am then BitVec.ofNat 64 (e.pc.toNat % 2 ^ 32) else e.pc
    let at_ : Option AccessInfo := some ⟨va, if e.tl = 0 then 0x80 else 0x04⟩
    let ctx : AsiContext := if e.tl = 0 then .primary else .nucleus
    let leaves (cause : HyperCause) : Prop := step s = .fault (.exitToHyperprivileged cause e.pc e.npc at_)
    (e.insnWatch = some va →
      if e.tl.val < 2 then step s = .next (takeTrap e 0x075) else leaves (.trap 0x075))
    ∧ (e.insnWatch ≠ some va →
      (∀ ev, translate e ctx va = .error ev → leaves (.mmu ev))
      ∧ ∀ ra a, translate e ctx va = .ok ⟨ra, a⟩ →
        (a.p = true ∧ e.priv = false → leaves (.trap 0x008))
        ∧ (¬(a.p = true ∧ e.priv = false) →
          (a.ep = false → leaves (.trap 0x00B))
          ∧ (a.ep = true → (a.nfo = true → leaves (.trap 0x00C)) ∧ (a.nfo = false → fetchAddress e = .ok ra)))))
  ∧ (∀ s : State, s.priv = false → s.tl ≠ 0 → step s = .refused .invalidState)
  ∧ ∀ s : State, let e := advanceEnvironment s
      { e with tick := s.tick, stick := s.stick, softint := s.softint, cpuMondo := s.cpuMondo, devMondo := s.devMondo,
               resError := s.resError, nonresError := s.nonresError, extReq := s.extReq, inputs := s.inputs,
               mem := s.mem, trapped := s.trapped } = s
      ∧ (s.inputs = [] → e.tick.toNat % 2 ^ 63 = (s.tick.toNat + 1) % 2 ^ 63
          ∧ e.stick.toNat % 2 ^ 63 = (s.stick.toNat + 1) % 2 ^ 63
          ∧ e.cpuMondo.head = s.cpuMondo.head ∧ e.cpuMondo.tail = s.cpuMondo.tail ∧ e.extReq = s.extReq
          ∧ e.mem = s.mem)
      ∧ ∀ i rest, s.inputs = i :: rest → e.inputs = rest
          ∧ (∀ a, (∀ c ∈ i.stores, c.1 ≠ a) → e.mem.readByte a = s.mem.readByte a)
          ∧ ∀ l a b, i.stores = l ++ [(a, b)] → e.mem.readByte a = .ok b

/-- The state after reset meets the invariant, and is well formed as an initial state must be (70_reset_and_hazards.md R1751, R1752; its register values are log 1's). -/
def Obligations.ResetInvariant : Prop := State.Inv State.reset ∧ State.WellFormed State.reset

/-- Every step keeps the invariant: word-aligned program counters, reserved bits at what they read as, memory in its canonical form. What the bits read as is in part the model's choice: reserved bits hold 0 and ignore writes (D1, D2, log 20), FSR.ver is 0 (log 18), PSTATE.mm stays 0 (D39, log 20), bits 5:0 of the queue registers are 0 (log 31). The places of the PSTATE fields, and of `ns` and `qne` in FSR, are from general knowledge (R150, R80, log 23). -/
def Obligations.StepKeepsInvariant : Prop :=
  ∀ s t : State, s.Inv → step s = .next t → t.Inv

/-! ### Encoding -/

/-- Decoding the encoding of a well-formed instruction gives it back, with every operand at every value. -/
def Obligations.EncodeDecode : Prop :=
  ∀ i : Instr, i.wellFormed = true → decode (encode i) = .ok i

/-- What a word decodes to is well formed and encodes to that word: no two words are one instruction, and no bit is dropped. Nonzero reserved fields do not decode, on silent pages by the spec's decision D4 (R341, log 40). -/
def Obligations.DecodeEncode : Prop :=
  ∀ (w : Word32) (i : Instr), decode w = .ok i → i.wellFormed = true ∧ encode i = w

/-- Every word of the list in 30_encoding.md R385 decodes to the instruction the list gives it. R385 marks the list as derived from the encoding rules R330 to R368. Positions of fields that no page of the source states are from general knowledge (R330, log 23). -/
def Obligations.DecodeWords : Prop :=
  decode 0x86004002 = .ok (.add 3 1 (.reg 2)) ∧ decode 0x92223FFF = .ok (.sub 9 8 (.imm 0x1FFF))
  ∧ decode 0x11048D15 = .ok (.sethi 8 0x048D15) ∧ decode 0x01000000 = .ok .nop ∧ decode 0x00000000 = .ok (.illtrap 0 0)
  ∧ decode 0x40000010 = .ok (.call 0x10) ∧ decode 0x7FFFFFFE = .ok (.call 0x3FFFFFFE)
  ∧ decode 0x326FFFFC = .ok (.bpne true .xcc true 0x7FFFC) ∧ decode 0x0AF23FF8 = .ok (.brnz false 0xFFF8 false 8)
  ∧ decode 0x20680000 = .ok (.bpn true .xcc true 0) ∧ decode 0xD25A2008 = .ok (.ldx 9 8 (.imm 8))
  ∧ decode 0xD2821000 = .ok (.lduwa 9 8 (.immAsi 0 0x80)) ∧ decode 0xD5F21009 = .ok (.casxa 10 8 9 (.immAsi 0x80))
  ∧ decode 0xC36A2040 = .ok (.prefetch 1 8 (.imm 64)) ∧ decode 0xC0220000 = .ok (.stw 0 8 (.reg 0))
  ∧ decode 0x8328703F = .ok (.sllx 1 1 (.imm 63)) ∧ decode 0x91D02005 = .ok (.ta 0 .icc (.imm 5))
  ∧ decode 0x91D03083 = .ok (.ta 0 .xcc (.imm 0x83)) ∧ decode 0x80A6001A = .ok (.subcc 0 24 (.reg 26))
  ∧ decode 0xB6102000 = .ok (.or 27 0 (.imm 0)) ∧ decode 0xB766B001 = .ok (.movg 27 .xcc (.imm 1))
  ∧ decode 0xBD7E941C = .ok (.movrnz 30 26 (.reg 28)) ∧ decode 0xADA99054 = .ok (.fmovdfcc 22 2 6 20)
  ∧ decode 0xBFA04842 = .ok (.faddd 31 1 2) ∧ decode 0x83A80A42 = .ok (.fcmpd 1 0 2)
  ∧ decode 0x89B84622 = .ok (.fmadds 4 1 3 2) ∧ decode 0x8143E042 = .ok (.membar 4 2) ∧ decode 0x91414000 = .ok (.rdpc 8)
  ∧ decode 0x81802005 = .ok (.wry 0 (.imm 5)) ∧ decode 0x81880000 = .ok .saved ∧ decode 0x83F00000 = .ok .retry
  ∧ decode 0x81C7E008 = .ok (.jmpl 0 31 (.imm 8)) ∧ decode 0x81C3E008 = .ok (.jmpl 0 15 (.imm 8))

end
end

