-- ==== Sys2Proof/Laws/Memory.lean ====
section
/-! SUPPORT. Memory keeps its canonical form and reads back what was written; what an access to I/O locations does (20_memory.md R201, R202, R237). -/

namespace Sys2Proof.Machine

/-- The head of a memory in canonical form lies below the rest, which is in canonical form. -/
theorem Memory.wf_cons {a : Nat} {x : Byte} {rest : Memory} :
    Memory.wf ((a, x) :: rest) = true ↔ (∀ c ∈ rest, a < c.1) ∧ Memory.wf rest = true := by
  induction rest generalizing a x with
  | nil => simp [Memory.wf]
  | cons c rest ih =>
    obtain ⟨b, y⟩ := c
    rw [show Memory.wf ((a, x) :: (b, y) :: rest) = (decide (a < b) && Memory.wf ((b, y) :: rest)) from rfl,
      Bool.and_eq_true, decide_eq_true_iff]
    constructor
    · rintro ⟨h, hw⟩
      refine ⟨fun c hc => ?_, hw⟩
      rcases List.mem_cons.1 hc with rfl | hc
      · exact h
      · exact Nat.lt_trans h ((ih.1 hw).1 c hc)
    · rintro ⟨h, hw⟩
      exact ⟨h (b, y) List.mem_cons_self, hw⟩

/-- Every cell after a write was there before, or is the one written. -/
theorem Memory.mem_writeByte {m : Memory} {a : Nat} {b : Byte} {c : Host.Cell} (h : c ∈ m.writeByte a b) :
    c = (a, b) ∨ c ∈ m := by
  induction m with
  | nil => exact Or.inl (List.mem_singleton.1 h)
  | cons d rest ih =>
    obtain ⟨k, v⟩ := d
    unfold Memory.writeByte at h
    split at h
    · exact (List.mem_cons.1 h)
    · split at h
      · rcases List.mem_cons.1 h with h | h
        · exact Or.inl h
        · exact Or.inr (List.mem_cons_of_mem _ h)
      · rcases List.mem_cons.1 h with h | h
        · exact Or.inr (h ▸ List.mem_cons_self)
        · exact (ih h).imp_right (List.mem_cons_of_mem _)

/-- A write of a byte keeps the canonical form. -/
theorem Memory.wf_writeByte {m : Memory} (a : Nat) (b : Byte) (h : m.wf = true) : (m.writeByte a b).wf = true := by
  induction m with
  | nil => rfl
  | cons d rest ih =>
    obtain ⟨k, v⟩ := d
    have hk := Memory.wf_cons.1 h
    unfold Memory.writeByte
    split
    · rename_i hlt
      refine Memory.wf_cons.2 ⟨fun c hc => ?_, h⟩
      rcases List.mem_cons.1 hc with rfl | hc
      · exact hlt
      · exact Nat.lt_trans hlt (hk.1 c hc)
    · split
      · rename_i _ heq
        subst heq
        exact Memory.wf_cons.2 hk
      · refine Memory.wf_cons.2 ⟨fun c hc => ?_, ih hk.2⟩
        rcases Memory.mem_writeByte hc with rfl | hc
        · show k < a
          omega
        · exact hk.1 c hc

/-- A byte reads as what was written to it. -/
theorem Memory.readByte_writeByte_same (m : Memory) (a : Nat) (b : Byte) : (m.writeByte a b).readByte a = .ok b := by
  induction m with
  | nil => simp [Memory.writeByte, Memory.readByte]
  | cons d rest ih =>
    obtain ⟨k, v⟩ := d
    unfold Memory.writeByte
    split
    · simp [Memory.readByte]
    · split
      · simp [Memory.readByte]
      · rename_i _ h
        simp only [Memory.readByte]
        rw [if_neg (by omega), ih]

/-- A write leaves every other byte alone. -/
theorem Memory.readByte_writeByte_ne (m : Memory) {a c : Nat} (b : Byte) (h : c ≠ a) :
    (m.writeByte a b).readByte c = m.readByte c := by
  induction m with
  | nil => simp [Memory.writeByte, Memory.readByte, h.symm]
  | cons d rest ih =>
    obtain ⟨k, v⟩ := d
    unfold Memory.writeByte
    split
    · simp [Memory.readByte, h.symm]
    · split
      · rename_i _ e
        subst e
        simp [Memory.readByte, h.symm]
      · simp only [Memory.readByte, ih]

/-- A byte after a write of a byte. -/
theorem Memory.readByte_writeByte (m : Memory) (a c : Nat) (b : Byte) :
    (m.writeByte a b).readByte c = if c = a then .ok b else m.readByte c := by
  split
  · rename_i h
    rw [h, Memory.readByte_writeByte_same]
  · rename_i h
    exact Memory.readByte_writeByte_ne m b h

/-! ### Stores of several bytes -/

theorem Memory.wf_writeBytes {m : Memory} (cells : List Host.Cell) (h : m.wf = true) :
    (m.writeBytes cells).wf = true := by
  induction cells generalizing m with
  | nil => exact h
  | cons c rest ih => exact ih (Memory.wf_writeByte c.1 c.2 h)

/-- The last cell written is read back. -/
theorem Memory.readByte_writeBytes_last (m : Memory) (cells : List Host.Cell) (a : Nat) (b : Byte) :
    (m.writeBytes (cells ++ [(a, b)])).readByte a = .ok b := by
  induction cells generalizing m with
  | nil => exact Memory.readByte_writeByte_same m a b
  | cons c rest ih => exact ih _

/-- A byte no cell names reads as before. -/
theorem Memory.readByte_writeBytes_ne (m : Memory) {cells : List Host.Cell} {a : Nat} (h : ∀ c ∈ cells, a ≠ c.1) :
    (m.writeBytes cells).readByte a = m.readByte a := by
  induction cells generalizing m with
  | nil => rfl
  | cons c rest ih =>
    rw [show m.writeBytes (c :: rest) = (m.writeByte c.1 c.2).writeBytes rest from rfl,
      ih _ fun d hd => h d (List.mem_cons_of_mem _ hd),
      Memory.readByte_writeByte_ne m _ (h c List.mem_cons_self)]

/-- Of cells at different addresses, each is read back. -/
theorem Memory.readByte_writeBytes_mem (m : Memory) {cells : List Host.Cell} (hd : (cells.map Prod.fst).Nodup)
    {c : Host.Cell} (h : c ∈ cells) : (m.writeBytes cells).readByte c.1 = .ok c.2 := by
  induction cells generalizing m with
  | nil => cases h
  | cons d rest ih =>
    rw [List.map_cons, List.nodup_cons] at hd
    rw [show m.writeBytes (d :: rest) = (m.writeByte d.1 d.2).writeBytes rest from rfl]
    rcases List.mem_cons.1 h with rfl | h
    · rw [Memory.readByte_writeBytes_ne _ fun e he hc => hd.1 (List.mem_map.2 ⟨e, he, hc.symm⟩),
        Memory.readByte_writeByte_same]
    · exact ih _ hd.2 h

/-! ### The bytes of a value (20_memory.md R237) -/

theorem mem_placed {w : Nat} {l : Bool} {n a : Nat} {v : BitVec w} {c : Host.Cell} :
    c ∈ placed l n a v ↔ ∃ k, k < n ∧ c = (a + k, v.extractLsb' (8 * (if l then k else n - 1 - k)) 8) := by
  simp [placed, eq_comm]

/-- The addresses of a value's bytes are those from its own on. -/
@[simp] theorem map_fst_placed {w : Nat} (l : Bool) (n a : Nat) (v : BitVec w) :
    (placed l n a v).map Prod.fst = (List.range n).map (a + ·) := by
  simp [placed, Function.comp_def]

theorem nodup_addresses (a n : Nat) : ((List.range n).map (a + ·)).Nodup :=
  List.nodup_range.map fun _ _ h => by simpa using h

/-- Two halves of a value, joined. -/
theorem joinReads_halves {w : Nat} (l : Bool) (v : BitVec (w + w)) :
    joinReads l (.ok (if l then v.extractLsb' 0 w else v.extractLsb' w w) : Except Nat (BitVec w))
      (.ok (if l then v.extractLsb' w w else v.extractLsb' 0 w)) = .ok v := by
  have e : v.extractLsb' w w ++ v.extractLsb' 0 w = v :=
    (BitVec.extractLsb'_append_extractLsb'_eq_extractLsb' (by simp)).trans BitVec.extractLsb'_eq_self
  cases l <;> simp [joinReads, e]

/-- A byte of a part of a value is a byte of the value. -/
theorem extract_byte {w n : Nat} (v : BitVec w) (i j : Nat) (h : j + 8 ≤ n) :
    (v.extractLsb' i n).extractLsb' j 8 = v.extractLsb' (i + j) 8 := by
  ext k hk
  simp only [BitVec.getElem_extractLsb', BitVec.getLsbD_extractLsb', decide_eq_true (show j + k < n by omega),
    Bool.true_and, Nat.add_assoc]

/-- A halfword whose bytes are in place reads as it. -/
theorem Memory.readHalf_of_bytes {m : Memory} {l : Bool} {a : Nat} {v : Half}
    (h : ∀ k, k < 2 → m.readByte (a + k) = .ok (v.extractLsb' (8 * (if l then k else 1 - k)) 8)) :
    m.readHalf l a = .ok v := by
  have h0 := h 0 (by omega)
  have h1 := h 1 (by omega)
  rw [Nat.add_zero] at h0
  rw [← joinReads_halves (w := 8) l v, Memory.readHalf, h0, h1]
  cases l <;> rfl

/-- A word whose bytes are in place reads as it. -/
theorem Memory.readWord_of_bytes {m : Memory} {l : Bool} {a : Nat} {v : Word32}
    (h : ∀ k, k < 4 → m.readByte (a + k) = .ok (v.extractLsb' (8 * (if l then k else 3 - k)) 8)) :
    m.readWord l a = .ok v := by
  rw [← joinReads_halves (w := 16) l v, Memory.readWord]
  congr 1
  · refine Memory.readHalf_of_bytes fun k hk => (h k (by omega)).trans (congrArg _ ?_)
    cases l <;> obtain rfl | rfl : k = 0 ∨ k = 1 := by omega
    all_goals simp [extract_byte]
  · refine Memory.readHalf_of_bytes fun k hk => ?_
    rw [Nat.add_assoc]
    refine (h (2 + k) (by omega)).trans (congrArg _ ?_)
    cases l <;> obtain rfl | rfl : k = 0 ∨ k = 1 := by omega
    all_goals simp [extract_byte]

/-- An extended word whose bytes are in place reads as it. -/
theorem Memory.readDouble_of_bytes {m : Memory} {l : Bool} {a : Nat} {v : Word64}
    (h : ∀ k, k < 8 → m.readByte (a + k) = .ok (v.extractLsb' (8 * (if l then k else 7 - k)) 8)) :
    m.readDouble l a = .ok v := by
  rw [← joinReads_halves (w := 32) l v, Memory.readDouble]
  congr 1
  · refine Memory.readWord_of_bytes fun k hk => (h k (by omega)).trans (congrArg _ ?_)
    cases l <;> obtain rfl | rfl | rfl | rfl : k = 0 ∨ k = 1 ∨ k = 2 ∨ k = 3 := by omega
    all_goals simp [extract_byte]
  · refine Memory.readWord_of_bytes fun k hk => ?_
    rw [Nat.add_assoc]
    refine (h (4 + k) (by omega)).trans (congrArg _ ?_)
    cases l <;> obtain rfl | rfl | rfl | rfl : k = 0 ∨ k = 1 ∨ k = 2 ∨ k = 3 := by omega
    all_goals simp [extract_byte]

/-! ### I/O locations (20_memory.md R202) -/

theorem mem_ioAddresses {s : State} {a n c : Nat} :
    c ∈ ioAddresses s a n ↔ a ≤ c ∧ c < a + n ∧ isIo s c = true := by
  simp only [ioAddresses, List.mem_filter, List.mem_map, List.mem_range]
  constructor
  · rintro ⟨⟨k, hk, rfl⟩, h⟩
    exact ⟨by omega, by omega, h⟩
  · rintro ⟨h1, h2, h⟩
    exact ⟨⟨c - a, by omega, by omega⟩, h⟩

/-- Bytes none of which is an I/O location. -/
theorem ioAddresses_eq_nil {s : State} {a n : Nat} (h : ∀ c, a ≤ c → c < a + n → isIo s c = false) :
    ioAddresses s a n = [] := by
  refine List.eq_nil_iff_forall_not_mem.2 fun c hc => ?_
  obtain ⟨h1, h2, h3⟩ := mem_ioAddresses.1 hc
  rw [h c h1 h2] at h3
  cases h3

/-- A read of real memory sees memory. -/
theorem readView_of_memory {s : State} {a n : Nat} (h : ∀ c, a ≤ c → c < a + n → isIo s c = false) :
    readView s a n = s.mem := by
  rw [readView, ioAddresses_eq_nil h]
  rfl

/-- A read of real memory reaches no device. -/
theorem afterRead_of_memory {s : State} {a n : Nat} (h : ∀ c, a ≤ c → c < a + n → isIo s c = false) :
    afterRead s a n = s := by
  rw [afterRead, ioAddresses_eq_nil h]
  rfl

/-- A read of an I/O location reaches its device. -/
theorem afterRead_of_io {s : State} {a n c : Nat} (h1 : a ≤ c) (h2 : c < a + n) (h3 : isIo s c = true) :
    afterRead s a n = { s with ioLog := .read a n :: s.ioLog } :=
  if_neg fun h => by
    rw [List.isEmpty_iff] at h
    exact absurd (mem_ioAddresses.2 ⟨h1, h2, h3⟩) (h ▸ List.not_mem_nil)

/-- What each byte reads as in an access. -/
theorem readByte_readView (s : State) (a n c : Nat) :
    (readView s a n).readByte c
      = if a ≤ c ∧ c < a + n ∧ isIo s c = true then .ok (Config.ioRead (.read a n :: s.ioLog) c)
        else s.mem.readByte c := by
  split
  · rename_i h
    refine Memory.readByte_writeBytes_mem (c := (c, Config.ioRead (.read a n :: s.ioLog) c)) _ ?_
      (List.mem_map_of_mem (mem_ioAddresses.2 h))
    rw [List.map_map]
    show ((ioAddresses s a n).map id).Nodup
    rw [List.map_id]
    exact (nodup_addresses a n).filter _
  · rename_i h
    refine Memory.readByte_writeBytes_ne _ fun d hd => ?_
    obtain ⟨e, he, rfl⟩ := List.mem_map.1 hd
    rintro rfl
    exact h (mem_ioAddresses.1 he)

/-- A store keeps the canonical form. -/
theorem wf_storeBytes {s : State} (cells : List Host.Cell) (h : s.mem.wf = true) :
    (storeBytes s cells).mem.wf = true :=
  Memory.wf_writeBytes _ h

/-- A byte that no cell of a store names, or an I/O location, reads in memory as before. -/
theorem readByte_storeBytes_ne {s : State} {cells : List Host.Cell} {a : Nat}
    (h : (∀ c ∈ cells, a ≠ c.1) ∨ isIo s a = true) : (storeBytes s cells).mem.readByte a = s.mem.readByte a := by
  refine Memory.readByte_writeBytes_ne _ fun c hc e => ?_
  obtain ⟨hc, hi⟩ := List.mem_filter.1 hc
  rcases h with h | h
  · exact h c hc e
  · rw [← e, h] at hi
    cases hi

/-- Of cells at different addresses, each one of real memory is read back after a store. -/
theorem readByte_storeBytes_mem {s : State} {cells : List Host.Cell} (hd : (cells.map Prod.fst).Nodup)
    {c : Host.Cell} (h : c ∈ cells) (hm : isIo s c.1 = false) : (storeBytes s cells).mem.readByte c.1 = .ok c.2 :=
  Memory.readByte_writeBytes_mem _ ((List.filter_sublist.map _).nodup hd) (List.mem_filter.2 ⟨h, by simp [hm]⟩)

/-- A store of real memory reaches no device. -/
theorem ioWrites_of_memory {s : State} {cells : List Host.Cell} (h : ∀ c ∈ cells, isIo s c.1 = false) :
    ioWrites s cells = [] := by
  unfold ioWrites
  rw [List.filter_eq_nil_iff.2 fun c hc => by simp [h c hc]]

end Sys2Proof.Machine
end

