-- ==== Sys2Proof/Laws/State.lean ====
section
/-! SUPPORT. What each update of the state leaves in each field. -/

namespace Sys2Proof.Machine

/-! ### the end of an instruction -/

@[simp] theorem advance_globals (s : State) : (advance s).globals = s.globals := rfl
@[simp] theorem advance_windows (s : State) : (advance s).windows = s.windows := rfl
@[simp] theorem advance_pc (s : State) : (advance s).pc = s.npc := rfl
@[simp] theorem advance_npc (s : State) : (advance s).npc = s.npc + 4 := rfl
@[simp] theorem advance_fregs (s : State) : (advance s).fregs = s.fregs := rfl
@[simp] theorem advance_fsr (s : State) : (advance s).fsr = s.fsr := rfl
@[simp] theorem advance_fprs (s : State) : (advance s).fprs = s.fprs := rfl
@[simp] theorem advance_gsr (s : State) : (advance s).gsr = s.gsr := rfl
@[simp] theorem advance_y (s : State) : (advance s).y = s.y := rfl
@[simp] theorem advance_ccr (s : State) : (advance s).ccr = s.ccr := rfl
@[simp] theorem advance_asi (s : State) : (advance s).asi = s.asi := rfl
@[simp] theorem advance_tick (s : State) : (advance s).tick = s.tick := rfl
@[simp] theorem advance_softint (s : State) : (advance s).softint = s.softint := rfl
@[simp] theorem advance_tickCmpr (s : State) : (advance s).tickCmpr = s.tickCmpr := rfl
@[simp] theorem advance_stick (s : State) : (advance s).stick = s.stick := rfl
@[simp] theorem advance_stickCmpr (s : State) : (advance s).stickCmpr = s.stickCmpr := rfl
@[simp] theorem advance_cwp (s : State) : (advance s).cwp = s.cwp := rfl
@[simp] theorem advance_cansave (s : State) : (advance s).cansave = s.cansave := rfl
@[simp] theorem advance_canrestore (s : State) : (advance s).canrestore = s.canrestore := rfl
@[simp] theorem advance_cleanwin (s : State) : (advance s).cleanwin = s.cleanwin := rfl
@[simp] theorem advance_otherwin (s : State) : (advance s).otherwin = s.otherwin := rfl
@[simp] theorem advance_wstate (s : State) : (advance s).wstate = s.wstate := rfl
@[simp] theorem advance_trapStack (s : State) : (advance s).trapStack = s.trapStack := rfl
@[simp] theorem advance_tba (s : State) : (advance s).tba = s.tba := rfl
@[simp] theorem advance_pstate (s : State) : (advance s).pstate = s.pstate := rfl
@[simp] theorem advance_tl (s : State) : (advance s).tl = s.tl := rfl
@[simp] theorem advance_pil (s : State) : (advance s).pil = s.pil := rfl
@[simp] theorem advance_gl (s : State) : (advance s).gl = s.gl := rfl
@[simp] theorem advance_scratchpad (s : State) : (advance s).scratchpad = s.scratchpad := rfl
@[simp] theorem advance_primaryContext0 (s : State) : (advance s).primaryContext0 = s.primaryContext0 := rfl
@[simp] theorem advance_primaryContext1 (s : State) : (advance s).primaryContext1 = s.primaryContext1 := rfl
@[simp] theorem advance_secondaryContext0 (s : State) : (advance s).secondaryContext0 = s.secondaryContext0 := rfl
@[simp] theorem advance_secondaryContext1 (s : State) : (advance s).secondaryContext1 = s.secondaryContext1 := rfl
@[simp] theorem advance_cpuMondo (s : State) : (advance s).cpuMondo = s.cpuMondo := rfl
@[simp] theorem advance_devMondo (s : State) : (advance s).devMondo = s.devMondo := rfl
@[simp] theorem advance_resError (s : State) : (advance s).resError = s.resError := rfl
@[simp] theorem advance_nonresError (s : State) : (advance s).nonresError = s.nonresError := rfl
@[simp] theorem advance_mem (s : State) : (advance s).mem = s.mem := rfl
@[simp] theorem advance_ioRegion (s : State) : (advance s).ioRegion = s.ioRegion := rfl
@[simp] theorem advance_ioLog (s : State) : (advance s).ioLog = s.ioLog := rfl
@[simp] theorem advance_tlb (s : State) : (advance s).tlb = s.tlb := rfl
@[simp] theorem advance_extReq (s : State) : (advance s).extReq = s.extReq := rfl
@[simp] theorem advance_inputs (s : State) : (advance s).inputs = s.inputs := rfl
@[simp] theorem advance_insnWatch (s : State) : (advance s).insnWatch = s.insnWatch := rfl
@[simp] theorem advance_dataWatch (s : State) : (advance s).dataWatch = s.dataWatch := rfl
@[simp] theorem advance_freeCount (s : State) : (advance s).freeCount = s.freeCount := rfl
@[simp] theorem advance_trapped (s : State) : (advance s).trapped = s.trapped := rfl

/-! ### both program counters -/

@[simp] theorem setPcs_globals (s : State) (p n : Word64) : (setPcs s p n).globals = s.globals := rfl
@[simp] theorem setPcs_windows (s : State) (p n : Word64) : (setPcs s p n).windows = s.windows := rfl
@[simp] theorem setPcs_pc (s : State) (p n : Word64) : (setPcs s p n).pc = p := rfl
@[simp] theorem setPcs_npc (s : State) (p n : Word64) : (setPcs s p n).npc = n := rfl
@[simp] theorem setPcs_fregs (s : State) (p n : Word64) : (setPcs s p n).fregs = s.fregs := rfl
@[simp] theorem setPcs_fsr (s : State) (p n : Word64) : (setPcs s p n).fsr = s.fsr := rfl
@[simp] theorem setPcs_fprs (s : State) (p n : Word64) : (setPcs s p n).fprs = s.fprs := rfl
@[simp] theorem setPcs_gsr (s : State) (p n : Word64) : (setPcs s p n).gsr = s.gsr := rfl
@[simp] theorem setPcs_y (s : State) (p n : Word64) : (setPcs s p n).y = s.y := rfl
@[simp] theorem setPcs_ccr (s : State) (p n : Word64) : (setPcs s p n).ccr = s.ccr := rfl
@[simp] theorem setPcs_asi (s : State) (p n : Word64) : (setPcs s p n).asi = s.asi := rfl
@[simp] theorem setPcs_tick (s : State) (p n : Word64) : (setPcs s p n).tick = s.tick := rfl
@[simp] theorem setPcs_softint (s : State) (p n : Word64) : (setPcs s p n).softint = s.softint := rfl
@[simp] theorem setPcs_tickCmpr (s : State) (p n : Word64) : (setPcs s p n).tickCmpr = s.tickCmpr := rfl
@[simp] theorem setPcs_stick (s : State) (p n : Word64) : (setPcs s p n).stick = s.stick := rfl
@[simp] theorem setPcs_stickCmpr (s : State) (p n : Word64) : (setPcs s p n).stickCmpr = s.stickCmpr := rfl
@[simp] theorem setPcs_cwp (s : State) (p n : Word64) : (setPcs s p n).cwp = s.cwp := rfl
@[simp] theorem setPcs_cansave (s : State) (p n : Word64) : (setPcs s p n).cansave = s.cansave := rfl
@[simp] theorem setPcs_canrestore (s : State) (p n : Word64) : (setPcs s p n).canrestore = s.canrestore := rfl
@[simp] theorem setPcs_cleanwin (s : State) (p n : Word64) : (setPcs s p n).cleanwin = s.cleanwin := rfl
@[simp] theorem setPcs_otherwin (s : State) (p n : Word64) : (setPcs s p n).otherwin = s.otherwin := rfl
@[simp] theorem setPcs_wstate (s : State) (p n : Word64) : (setPcs s p n).wstate = s.wstate := rfl
@[simp] theorem setPcs_trapStack (s : State) (p n : Word64) : (setPcs s p n).trapStack = s.trapStack := rfl
@[simp] theorem setPcs_tba (s : State) (p n : Word64) : (setPcs s p n).tba = s.tba := rfl
@[simp] theorem setPcs_pstate (s : State) (p n : Word64) : (setPcs s p n).pstate = s.pstate := rfl
@[simp] theorem setPcs_tl (s : State) (p n : Word64) : (setPcs s p n).tl = s.tl := rfl
@[simp] theorem setPcs_pil (s : State) (p n : Word64) : (setPcs s p n).pil = s.pil := rfl
@[simp] theorem setPcs_gl (s : State) (p n : Word64) : (setPcs s p n).gl = s.gl := rfl
@[simp] theorem setPcs_scratchpad (s : State) (p n : Word64) : (setPcs s p n).scratchpad = s.scratchpad := rfl
@[simp] theorem setPcs_primaryContext0 (s : State) (p n : Word64) : (setPcs s p n).primaryContext0 = s.primaryContext0 := rfl
@[simp] theorem setPcs_primaryContext1 (s : State) (p n : Word64) : (setPcs s p n).primaryContext1 = s.primaryContext1 := rfl
@[simp] theorem setPcs_secondaryContext0 (s : State) (p n : Word64) : (setPcs s p n).secondaryContext0 = s.secondaryContext0 := rfl
@[simp] theorem setPcs_secondaryContext1 (s : State) (p n : Word64) : (setPcs s p n).secondaryContext1 = s.secondaryContext1 := rfl
@[simp] theorem setPcs_cpuMondo (s : State) (p n : Word64) : (setPcs s p n).cpuMondo = s.cpuMondo := rfl
@[simp] theorem setPcs_devMondo (s : State) (p n : Word64) : (setPcs s p n).devMondo = s.devMondo := rfl
@[simp] theorem setPcs_resError (s : State) (p n : Word64) : (setPcs s p n).resError = s.resError := rfl
@[simp] theorem setPcs_nonresError (s : State) (p n : Word64) : (setPcs s p n).nonresError = s.nonresError := rfl
@[simp] theorem setPcs_mem (s : State) (p n : Word64) : (setPcs s p n).mem = s.mem := rfl
@[simp] theorem setPcs_ioRegion (s : State) (p n : Word64) : (setPcs s p n).ioRegion = s.ioRegion := rfl
@[simp] theorem setPcs_ioLog (s : State) (p n : Word64) : (setPcs s p n).ioLog = s.ioLog := rfl
@[simp] theorem setPcs_tlb (s : State) (p n : Word64) : (setPcs s p n).tlb = s.tlb := rfl
@[simp] theorem setPcs_extReq (s : State) (p n : Word64) : (setPcs s p n).extReq = s.extReq := rfl
@[simp] theorem setPcs_inputs (s : State) (p n : Word64) : (setPcs s p n).inputs = s.inputs := rfl
@[simp] theorem setPcs_insnWatch (s : State) (p n : Word64) : (setPcs s p n).insnWatch = s.insnWatch := rfl
@[simp] theorem setPcs_dataWatch (s : State) (p n : Word64) : (setPcs s p n).dataWatch = s.dataWatch := rfl
@[simp] theorem setPcs_freeCount (s : State) (p n : Word64) : (setPcs s p n).freeCount = s.freeCount := rfl
@[simp] theorem setPcs_trapped (s : State) (p n : Word64) : (setPcs s p n).trapped = s.trapped := rfl

/-! ### the free-value counter -/

@[simp] theorem drawFree_globals (s : State) : (drawFree s).globals = s.globals := rfl
@[simp] theorem drawFree_windows (s : State) : (drawFree s).windows = s.windows := rfl
@[simp] theorem drawFree_pc (s : State) : (drawFree s).pc = s.pc := rfl
@[simp] theorem drawFree_npc (s : State) : (drawFree s).npc = s.npc := rfl
@[simp] theorem drawFree_fregs (s : State) : (drawFree s).fregs = s.fregs := rfl
@[simp] theorem drawFree_fsr (s : State) : (drawFree s).fsr = s.fsr := rfl
@[simp] theorem drawFree_fprs (s : State) : (drawFree s).fprs = s.fprs := rfl
@[simp] theorem drawFree_gsr (s : State) : (drawFree s).gsr = s.gsr := rfl
@[simp] theorem drawFree_y (s : State) : (drawFree s).y = s.y := rfl
@[simp] theorem drawFree_ccr (s : State) : (drawFree s).ccr = s.ccr := rfl
@[simp] theorem drawFree_asi (s : State) : (drawFree s).asi = s.asi := rfl
@[simp] theorem drawFree_tick (s : State) : (drawFree s).tick = s.tick := rfl
@[simp] theorem drawFree_softint (s : State) : (drawFree s).softint = s.softint := rfl
@[simp] theorem drawFree_tickCmpr (s : State) : (drawFree s).tickCmpr = s.tickCmpr := rfl
@[simp] theorem drawFree_stick (s : State) : (drawFree s).stick = s.stick := rfl
@[simp] theorem drawFree_stickCmpr (s : State) : (drawFree s).stickCmpr = s.stickCmpr := rfl
@[simp] theorem drawFree_cwp (s : State) : (drawFree s).cwp = s.cwp := rfl
@[simp] theorem drawFree_cansave (s : State) : (drawFree s).cansave = s.cansave := rfl
@[simp] theorem drawFree_canrestore (s : State) : (drawFree s).canrestore = s.canrestore := rfl
@[simp] theorem drawFree_cleanwin (s : State) : (drawFree s).cleanwin = s.cleanwin := rfl
@[simp] theorem drawFree_otherwin (s : State) : (drawFree s).otherwin = s.otherwin := rfl
@[simp] theorem drawFree_wstate (s : State) : (drawFree s).wstate = s.wstate := rfl
@[simp] theorem drawFree_trapStack (s : State) : (drawFree s).trapStack = s.trapStack := rfl
@[simp] theorem drawFree_tba (s : State) : (drawFree s).tba = s.tba := rfl
@[simp] theorem drawFree_pstate (s : State) : (drawFree s).pstate = s.pstate := rfl
@[simp] theorem drawFree_tl (s : State) : (drawFree s).tl = s.tl := rfl
@[simp] theorem drawFree_pil (s : State) : (drawFree s).pil = s.pil := rfl
@[simp] theorem drawFree_gl (s : State) : (drawFree s).gl = s.gl := rfl
@[simp] theorem drawFree_scratchpad (s : State) : (drawFree s).scratchpad = s.scratchpad := rfl
@[simp] theorem drawFree_primaryContext0 (s : State) : (drawFree s).primaryContext0 = s.primaryContext0 := rfl
@[simp] theorem drawFree_primaryContext1 (s : State) : (drawFree s).primaryContext1 = s.primaryContext1 := rfl
@[simp] theorem drawFree_secondaryContext0 (s : State) : (drawFree s).secondaryContext0 = s.secondaryContext0 := rfl
@[simp] theorem drawFree_secondaryContext1 (s : State) : (drawFree s).secondaryContext1 = s.secondaryContext1 := rfl
@[simp] theorem drawFree_cpuMondo (s : State) : (drawFree s).cpuMondo = s.cpuMondo := rfl
@[simp] theorem drawFree_devMondo (s : State) : (drawFree s).devMondo = s.devMondo := rfl
@[simp] theorem drawFree_resError (s : State) : (drawFree s).resError = s.resError := rfl
@[simp] theorem drawFree_nonresError (s : State) : (drawFree s).nonresError = s.nonresError := rfl
@[simp] theorem drawFree_mem (s : State) : (drawFree s).mem = s.mem := rfl
@[simp] theorem drawFree_ioRegion (s : State) : (drawFree s).ioRegion = s.ioRegion := rfl
@[simp] theorem drawFree_ioLog (s : State) : (drawFree s).ioLog = s.ioLog := rfl
@[simp] theorem drawFree_tlb (s : State) : (drawFree s).tlb = s.tlb := rfl
@[simp] theorem drawFree_extReq (s : State) : (drawFree s).extReq = s.extReq := rfl
@[simp] theorem drawFree_inputs (s : State) : (drawFree s).inputs = s.inputs := rfl
@[simp] theorem drawFree_insnWatch (s : State) : (drawFree s).insnWatch = s.insnWatch := rfl
@[simp] theorem drawFree_dataWatch (s : State) : (drawFree s).dataWatch = s.dataWatch := rfl
@[simp] theorem drawFree_freeCount (s : State) : (drawFree s).freeCount = s.freeCount + 1 := rfl
@[simp] theorem drawFree_trapped (s : State) : (drawFree s).trapped = s.trapped := rfl

/-! ### a store -/

@[simp] theorem storeBytes_globals (s : State) (cells : List Host.Cell) : (storeBytes s cells).globals = s.globals := rfl
@[simp] theorem storeBytes_windows (s : State) (cells : List Host.Cell) : (storeBytes s cells).windows = s.windows := rfl
@[simp] theorem storeBytes_pc (s : State) (cells : List Host.Cell) : (storeBytes s cells).pc = s.pc := rfl
@[simp] theorem storeBytes_npc (s : State) (cells : List Host.Cell) : (storeBytes s cells).npc = s.npc := rfl
@[simp] theorem storeBytes_fregs (s : State) (cells : List Host.Cell) : (storeBytes s cells).fregs = s.fregs := rfl
@[simp] theorem storeBytes_fsr (s : State) (cells : List Host.Cell) : (storeBytes s cells).fsr = s.fsr := rfl
@[simp] theorem storeBytes_fprs (s : State) (cells : List Host.Cell) : (storeBytes s cells).fprs = s.fprs := rfl
@[simp] theorem storeBytes_gsr (s : State) (cells : List Host.Cell) : (storeBytes s cells).gsr = s.gsr := rfl
@[simp] theorem storeBytes_y (s : State) (cells : List Host.Cell) : (storeBytes s cells).y = s.y := rfl
@[simp] theorem storeBytes_ccr (s : State) (cells : List Host.Cell) : (storeBytes s cells).ccr = s.ccr := rfl
@[simp] theorem storeBytes_asi (s : State) (cells : List Host.Cell) : (storeBytes s cells).asi = s.asi := rfl
@[simp] theorem storeBytes_tick (s : State) (cells : List Host.Cell) : (storeBytes s cells).tick = s.tick := rfl
@[simp] theorem storeBytes_softint (s : State) (cells : List Host.Cell) : (storeBytes s cells).softint = s.softint := rfl
@[simp] theorem storeBytes_tickCmpr (s : State) (cells : List Host.Cell) : (storeBytes s cells).tickCmpr = s.tickCmpr := rfl
@[simp] theorem storeBytes_stick (s : State) (cells : List Host.Cell) : (storeBytes s cells).stick = s.stick := rfl
@[simp] theorem storeBytes_stickCmpr (s : State) (cells : List Host.Cell) : (storeBytes s cells).stickCmpr = s.stickCmpr := rfl
@[simp] theorem storeBytes_cwp (s : State) (cells : List Host.Cell) : (storeBytes s cells).cwp = s.cwp := rfl
@[simp] theorem storeBytes_cansave (s : State) (cells : List Host.Cell) : (storeBytes s cells).cansave = s.cansave := rfl
@[simp] theorem storeBytes_canrestore (s : State) (cells : List Host.Cell) : (storeBytes s cells).canrestore = s.canrestore := rfl
@[simp] theorem storeBytes_cleanwin (s : State) (cells : List Host.Cell) : (storeBytes s cells).cleanwin = s.cleanwin := rfl
@[simp] theorem storeBytes_otherwin (s : State) (cells : List Host.Cell) : (storeBytes s cells).otherwin = s.otherwin := rfl
@[simp] theorem storeBytes_wstate (s : State) (cells : List Host.Cell) : (storeBytes s cells).wstate = s.wstate := rfl
@[simp] theorem storeBytes_trapStack (s : State) (cells : List Host.Cell) : (storeBytes s cells).trapStack = s.trapStack := rfl
@[simp] theorem storeBytes_tba (s : State) (cells : List Host.Cell) : (storeBytes s cells).tba = s.tba := rfl
@[simp] theorem storeBytes_pstate (s : State) (cells : List Host.Cell) : (storeBytes s cells).pstate = s.pstate := rfl
@[simp] theorem storeBytes_tl (s : State) (cells : List Host.Cell) : (storeBytes s cells).tl = s.tl := rfl
@[simp] theorem storeBytes_pil (s : State) (cells : List Host.Cell) : (storeBytes s cells).pil = s.pil := rfl
@[simp] theorem storeBytes_gl (s : State) (cells : List Host.Cell) : (storeBytes s cells).gl = s.gl := rfl
@[simp] theorem storeBytes_scratchpad (s : State) (cells : List Host.Cell) : (storeBytes s cells).scratchpad = s.scratchpad := rfl
@[simp] theorem storeBytes_primaryContext0 (s : State) (cells : List Host.Cell) : (storeBytes s cells).primaryContext0 = s.primaryContext0 := rfl
@[simp] theorem storeBytes_primaryContext1 (s : State) (cells : List Host.Cell) : (storeBytes s cells).primaryContext1 = s.primaryContext1 := rfl
@[simp] theorem storeBytes_secondaryContext0 (s : State) (cells : List Host.Cell) : (storeBytes s cells).secondaryContext0 = s.secondaryContext0 := rfl
@[simp] theorem storeBytes_secondaryContext1 (s : State) (cells : List Host.Cell) : (storeBytes s cells).secondaryContext1 = s.secondaryContext1 := rfl
@[simp] theorem storeBytes_cpuMondo (s : State) (cells : List Host.Cell) : (storeBytes s cells).cpuMondo = s.cpuMondo := rfl
@[simp] theorem storeBytes_devMondo (s : State) (cells : List Host.Cell) : (storeBytes s cells).devMondo = s.devMondo := rfl
@[simp] theorem storeBytes_resError (s : State) (cells : List Host.Cell) : (storeBytes s cells).resError = s.resError := rfl
@[simp] theorem storeBytes_nonresError (s : State) (cells : List Host.Cell) : (storeBytes s cells).nonresError = s.nonresError := rfl
@[simp] theorem storeBytes_mem (s : State) (cells : List Host.Cell) : (storeBytes s cells).mem = s.mem.writeBytes (cells.filter fun c => !isIo s c.1) := rfl
@[simp] theorem storeBytes_ioRegion (s : State) (cells : List Host.Cell) : (storeBytes s cells).ioRegion = s.ioRegion := rfl
@[simp] theorem storeBytes_ioLog (s : State) (cells : List Host.Cell) : (storeBytes s cells).ioLog = ioWrites s cells ++ s.ioLog := rfl
@[simp] theorem storeBytes_tlb (s : State) (cells : List Host.Cell) : (storeBytes s cells).tlb = s.tlb := rfl
@[simp] theorem storeBytes_extReq (s : State) (cells : List Host.Cell) : (storeBytes s cells).extReq = s.extReq := rfl
@[simp] theorem storeBytes_inputs (s : State) (cells : List Host.Cell) : (storeBytes s cells).inputs = s.inputs := rfl
@[simp] theorem storeBytes_insnWatch (s : State) (cells : List Host.Cell) : (storeBytes s cells).insnWatch = s.insnWatch := rfl
@[simp] theorem storeBytes_dataWatch (s : State) (cells : List Host.Cell) : (storeBytes s cells).dataWatch = s.dataWatch := rfl
@[simp] theorem storeBytes_freeCount (s : State) (cells : List Host.Cell) : (storeBytes s cells).freeCount = s.freeCount := rfl
@[simp] theorem storeBytes_trapped (s : State) (cells : List Host.Cell) : (storeBytes s cells).trapped = s.trapped := rfl

/-! ### a read -/

@[simp] theorem afterRead_globals (s : State) (a n : Nat) : (afterRead s a n).globals = s.globals := by unfold afterRead; split <;> rfl
@[simp] theorem afterRead_windows (s : State) (a n : Nat) : (afterRead s a n).windows = s.windows := by unfold afterRead; split <;> rfl
@[simp] theorem afterRead_pc (s : State) (a n : Nat) : (afterRead s a n).pc = s.pc := by unfold afterRead; split <;> rfl
@[simp] theorem afterRead_npc (s : State) (a n : Nat) : (afterRead s a n).npc = s.npc := by unfold afterRead; split <;> rfl
@[simp] theorem afterRead_fregs (s : State) (a n : Nat) : (afterRead s a n).fregs = s.fregs := by unfold afterRead; split <;> rfl
@[simp] theorem afterRead_fsr (s : State) (a n : Nat) : (afterRead s a n).fsr = s.fsr := by unfold afterRead; split <;> rfl
@[simp] theorem afterRead_fprs (s : State) (a n : Nat) : (afterRead s a n).fprs = s.fprs := by unfold afterRead; split <;> rfl
@[simp] theorem afterRead_gsr (s : State) (a n : Nat) : (afterRead s a n).gsr = s.gsr := by unfold afterRead; split <;> rfl
@[simp] theorem afterRead_y (s : State) (a n : Nat) : (afterRead s a n).y = s.y := by unfold afterRead; split <;> rfl
@[simp] theorem afterRead_ccr (s : State) (a n : Nat) : (afterRead s a n).ccr = s.ccr := by unfold afterRead; split <;> rfl
@[simp] theorem afterRead_asi (s : State) (a n : Nat) : (afterRead s a n).asi = s.asi := by unfold afterRead; split <;> rfl
@[simp] theorem afterRead_tick (s : State) (a n : Nat) : (afterRead s a n).tick = s.tick := by unfold afterRead; split <;> rfl
@[simp] theorem afterRead_softint (s : State) (a n : Nat) : (afterRead s a n).softint = s.softint := by unfold afterRead; split <;> rfl
@[simp] theorem afterRead_tickCmpr (s : State) (a n : Nat) : (afterRead s a n).tickCmpr = s.tickCmpr := by unfold afterRead; split <;> rfl
@[simp] theorem afterRead_stick (s : State) (a n : Nat) : (afterRead s a n).stick = s.stick := by unfold afterRead; split <;> rfl
@[simp] theorem afterRead_stickCmpr (s : State) (a n : Nat) : (afterRead s a n).stickCmpr = s.stickCmpr := by unfold afterRead; split <;> rfl
@[simp] theorem afterRead_cwp (s : State) (a n : Nat) : (afterRead s a n).cwp = s.cwp := by unfold afterRead; split <;> rfl
@[simp] theorem afterRead_cansave (s : State) (a n : Nat) : (afterRead s a n).cansave = s.cansave := by unfold afterRead; split <;> rfl
@[simp] theorem afterRead_canrestore (s : State) (a n : Nat) : (afterRead s a n).canrestore = s.canrestore := by unfold afterRead; split <;> rfl
@[simp] theorem afterRead_cleanwin (s : State) (a n : Nat) : (afterRead s a n).cleanwin = s.cleanwin := by unfold afterRead; split <;> rfl
@[simp] theorem afterRead_otherwin (s : State) (a n : Nat) : (afterRead s a n).otherwin = s.otherwin := by unfold afterRead; split <;> rfl
@[simp] theorem afterRead_wstate (s : State) (a n : Nat) : (afterRead s a n).wstate = s.wstate := by unfold afterRead; split <;> rfl
@[simp] theorem afterRead_trapStack (s : State) (a n : Nat) : (afterRead s a n).trapStack = s.trapStack := by unfold afterRead; split <;> rfl
@[simp] theorem afterRead_tba (s : State) (a n : Nat) : (afterRead s a n).tba = s.tba := by unfold afterRead; split <;> rfl
@[simp] theorem afterRead_pstate (s : State) (a n : Nat) : (afterRead s a n).pstate = s.pstate := by unfold afterRead; split <;> rfl
@[simp] theorem afterRead_tl (s : State) (a n : Nat) : (afterRead s a n).tl = s.tl := by unfold afterRead; split <;> rfl
@[simp] theorem afterRead_pil (s : State) (a n : Nat) : (afterRead s a n).pil = s.pil := by unfold afterRead; split <;> rfl
@[simp] theorem afterRead_gl (s : State) (a n : Nat) : (afterRead s a n).gl = s.gl := by unfold afterRead; split <;> rfl
@[simp] theorem afterRead_scratchpad (s : State) (a n : Nat) : (afterRead s a n).scratchpad = s.scratchpad := by unfold afterRead; split <;> rfl
@[simp] theorem afterRead_primaryContext0 (s : State) (a n : Nat) : (afterRead s a n).primaryContext0 = s.primaryContext0 := by unfold afterRead; split <;> rfl
@[simp] theorem afterRead_primaryContext1 (s : State) (a n : Nat) : (afterRead s a n).primaryContext1 = s.primaryContext1 := by unfold afterRead; split <;> rfl
@[simp] theorem afterRead_secondaryContext0 (s : State) (a n : Nat) : (afterRead s a n).secondaryContext0 = s.secondaryContext0 := by unfold afterRead; split <;> rfl
@[simp] theorem afterRead_secondaryContext1 (s : State) (a n : Nat) : (afterRead s a n).secondaryContext1 = s.secondaryContext1 := by unfold afterRead; split <;> rfl
@[simp] theorem afterRead_cpuMondo (s : State) (a n : Nat) : (afterRead s a n).cpuMondo = s.cpuMondo := by unfold afterRead; split <;> rfl
@[simp] theorem afterRead_devMondo (s : State) (a n : Nat) : (afterRead s a n).devMondo = s.devMondo := by unfold afterRead; split <;> rfl
@[simp] theorem afterRead_resError (s : State) (a n : Nat) : (afterRead s a n).resError = s.resError := by unfold afterRead; split <;> rfl
@[simp] theorem afterRead_nonresError (s : State) (a n : Nat) : (afterRead s a n).nonresError = s.nonresError := by unfold afterRead; split <;> rfl
@[simp] theorem afterRead_mem (s : State) (a n : Nat) : (afterRead s a n).mem = s.mem := by unfold afterRead; split <;> rfl
@[simp] theorem afterRead_ioRegion (s : State) (a n : Nat) : (afterRead s a n).ioRegion = s.ioRegion := by unfold afterRead; split <;> rfl
@[simp] theorem afterRead_tlb (s : State) (a n : Nat) : (afterRead s a n).tlb = s.tlb := by unfold afterRead; split <;> rfl
@[simp] theorem afterRead_extReq (s : State) (a n : Nat) : (afterRead s a n).extReq = s.extReq := by unfold afterRead; split <;> rfl
@[simp] theorem afterRead_inputs (s : State) (a n : Nat) : (afterRead s a n).inputs = s.inputs := by unfold afterRead; split <;> rfl
@[simp] theorem afterRead_insnWatch (s : State) (a n : Nat) : (afterRead s a n).insnWatch = s.insnWatch := by unfold afterRead; split <;> rfl
@[simp] theorem afterRead_dataWatch (s : State) (a n : Nat) : (afterRead s a n).dataWatch = s.dataWatch := by unfold afterRead; split <;> rfl
@[simp] theorem afterRead_freeCount (s : State) (a n : Nat) : (afterRead s a n).freeCount = s.freeCount := by unfold afterRead; split <;> rfl
@[simp] theorem afterRead_trapped (s : State) (a n : Nat) : (afterRead s a n).trapped = s.trapped := by unfold afterRead; split <;> rfl

/-! ### a piece of register storage -/

@[simp] theorem writePhys_pc (s : State) (p : PhysReg) (v : Word64) : (writePhys s p v).pc = s.pc := by cases p <;> rfl
@[simp] theorem writePhys_npc (s : State) (p : PhysReg) (v : Word64) : (writePhys s p v).npc = s.npc := by cases p <;> rfl
@[simp] theorem writePhys_fregs (s : State) (p : PhysReg) (v : Word64) : (writePhys s p v).fregs = s.fregs := by cases p <;> rfl
@[simp] theorem writePhys_fsr (s : State) (p : PhysReg) (v : Word64) : (writePhys s p v).fsr = s.fsr := by cases p <;> rfl
@[simp] theorem writePhys_fprs (s : State) (p : PhysReg) (v : Word64) : (writePhys s p v).fprs = s.fprs := by cases p <;> rfl
@[simp] theorem writePhys_gsr (s : State) (p : PhysReg) (v : Word64) : (writePhys s p v).gsr = s.gsr := by cases p <;> rfl
@[simp] theorem writePhys_y (s : State) (p : PhysReg) (v : Word64) : (writePhys s p v).y = s.y := by cases p <;> rfl
@[simp] theorem writePhys_ccr (s : State) (p : PhysReg) (v : Word64) : (writePhys s p v).ccr = s.ccr := by cases p <;> rfl
@[simp] theorem writePhys_asi (s : State) (p : PhysReg) (v : Word64) : (writePhys s p v).asi = s.asi := by cases p <;> rfl
@[simp] theorem writePhys_tick (s : State) (p : PhysReg) (v : Word64) : (writePhys s p v).tick = s.tick := by cases p <;> rfl
@[simp] theorem writePhys_softint (s : State) (p : PhysReg) (v : Word64) : (writePhys s p v).softint = s.softint := by cases p <;> rfl
@[simp] theorem writePhys_tickCmpr (s : State) (p : PhysReg) (v : Word64) : (writePhys s p v).tickCmpr = s.tickCmpr := by cases p <;> rfl
@[simp] theorem writePhys_stick (s : State) (p : PhysReg) (v : Word64) : (writePhys s p v).stick = s.stick := by cases p <;> rfl
@[simp] theorem writePhys_stickCmpr (s : State) (p : PhysReg) (v : Word64) : (writePhys s p v).stickCmpr = s.stickCmpr := by cases p <;> rfl
@[simp] theorem writePhys_cwp (s : State) (p : PhysReg) (v : Word64) : (writePhys s p v).cwp = s.cwp := by cases p <;> rfl
@[simp] theorem writePhys_cansave (s : State) (p : PhysReg) (v : Word64) : (writePhys s p v).cansave = s.cansave := by cases p <;> rfl
@[simp] theorem writePhys_canrestore (s : State) (p : PhysReg) (v : Word64) : (writePhys s p v).canrestore = s.canrestore := by cases p <;> rfl
@[simp] theorem writePhys_cleanwin (s : State) (p : PhysReg) (v : Word64) : (writePhys s p v).cleanwin = s.cleanwin := by cases p <;> rfl
@[simp] theorem writePhys_otherwin (s : State) (p : PhysReg) (v : Word64) : (writePhys s p v).otherwin = s.otherwin := by cases p <;> rfl
@[simp] theorem writePhys_wstate (s : State) (p : PhysReg) (v : Word64) : (writePhys s p v).wstate = s.wstate := by cases p <;> rfl
@[simp] theorem writePhys_trapStack (s : State) (p : PhysReg) (v : Word64) : (writePhys s p v).trapStack = s.trapStack := by cases p <;> rfl
@[simp] theorem writePhys_tba (s : State) (p : PhysReg) (v : Word64) : (writePhys s p v).tba = s.tba := by cases p <;> rfl
@[simp] theorem writePhys_pstate (s : State) (p : PhysReg) (v : Word64) : (writePhys s p v).pstate = s.pstate := by cases p <;> rfl
@[simp] theorem writePhys_tl (s : State) (p : PhysReg) (v : Word64) : (writePhys s p v).tl = s.tl := by cases p <;> rfl
@[simp] theorem writePhys_pil (s : State) (p : PhysReg) (v : Word64) : (writePhys s p v).pil = s.pil := by cases p <;> rfl
@[simp] theorem writePhys_gl (s : State) (p : PhysReg) (v : Word64) : (writePhys s p v).gl = s.gl := by cases p <;> rfl
@[simp] theorem writePhys_scratchpad (s : State) (p : PhysReg) (v : Word64) : (writePhys s p v).scratchpad = s.scratchpad := by cases p <;> rfl
@[simp] theorem writePhys_primaryContext0 (s : State) (p : PhysReg) (v : Word64) : (writePhys s p v).primaryContext0 = s.primaryContext0 := by cases p <;> rfl
@[simp] theorem writePhys_primaryContext1 (s : State) (p : PhysReg) (v : Word64) : (writePhys s p v).primaryContext1 = s.primaryContext1 := by cases p <;> rfl
@[simp] theorem writePhys_secondaryContext0 (s : State) (p : PhysReg) (v : Word64) : (writePhys s p v).secondaryContext0 = s.secondaryContext0 := by cases p <;> rfl
@[simp] theorem writePhys_secondaryContext1 (s : State) (p : PhysReg) (v : Word64) : (writePhys s p v).secondaryContext1 = s.secondaryContext1 := by cases p <;> rfl
@[simp] theorem writePhys_cpuMondo (s : State) (p : PhysReg) (v : Word64) : (writePhys s p v).cpuMondo = s.cpuMondo := by cases p <;> rfl
@[simp] theorem writePhys_devMondo (s : State) (p : PhysReg) (v : Word64) : (writePhys s p v).devMondo = s.devMondo := by cases p <;> rfl
@[simp] theorem writePhys_resError (s : State) (p : PhysReg) (v : Word64) : (writePhys s p v).resError = s.resError := by cases p <;> rfl
@[simp] theorem writePhys_nonresError (s : State) (p : PhysReg) (v : Word64) : (writePhys s p v).nonresError = s.nonresError := by cases p <;> rfl
@[simp] theorem writePhys_mem (s : State) (p : PhysReg) (v : Word64) : (writePhys s p v).mem = s.mem := by cases p <;> rfl
@[simp] theorem writePhys_ioRegion (s : State) (p : PhysReg) (v : Word64) : (writePhys s p v).ioRegion = s.ioRegion := by cases p <;> rfl
@[simp] theorem writePhys_ioLog (s : State) (p : PhysReg) (v : Word64) : (writePhys s p v).ioLog = s.ioLog := by cases p <;> rfl
@[simp] theorem writePhys_tlb (s : State) (p : PhysReg) (v : Word64) : (writePhys s p v).tlb = s.tlb := by cases p <;> rfl
@[simp] theorem writePhys_extReq (s : State) (p : PhysReg) (v : Word64) : (writePhys s p v).extReq = s.extReq := by cases p <;> rfl
@[simp] theorem writePhys_inputs (s : State) (p : PhysReg) (v : Word64) : (writePhys s p v).inputs = s.inputs := by cases p <;> rfl
@[simp] theorem writePhys_insnWatch (s : State) (p : PhysReg) (v : Word64) : (writePhys s p v).insnWatch = s.insnWatch := by cases p <;> rfl
@[simp] theorem writePhys_dataWatch (s : State) (p : PhysReg) (v : Word64) : (writePhys s p v).dataWatch = s.dataWatch := by cases p <;> rfl
@[simp] theorem writePhys_freeCount (s : State) (p : PhysReg) (v : Word64) : (writePhys s p v).freeCount = s.freeCount := by cases p <;> rfl
@[simp] theorem writePhys_trapped (s : State) (p : PhysReg) (v : Word64) : (writePhys s p v).trapped = s.trapped := by cases p <;> rfl

/-! ### an R register -/

@[simp] theorem writeReg_pc (s : State) (rd : RegNum) (v : Word64) : (writeReg s rd v).pc = s.pc := writePhys_pc s _ v
@[simp] theorem writeReg_npc (s : State) (rd : RegNum) (v : Word64) : (writeReg s rd v).npc = s.npc := writePhys_npc s _ v
@[simp] theorem writeReg_fregs (s : State) (rd : RegNum) (v : Word64) : (writeReg s rd v).fregs = s.fregs := writePhys_fregs s _ v
@[simp] theorem writeReg_fsr (s : State) (rd : RegNum) (v : Word64) : (writeReg s rd v).fsr = s.fsr := writePhys_fsr s _ v
@[simp] theorem writeReg_fprs (s : State) (rd : RegNum) (v : Word64) : (writeReg s rd v).fprs = s.fprs := writePhys_fprs s _ v
@[simp] theorem writeReg_gsr (s : State) (rd : RegNum) (v : Word64) : (writeReg s rd v).gsr = s.gsr := writePhys_gsr s _ v
@[simp] theorem writeReg_y (s : State) (rd : RegNum) (v : Word64) : (writeReg s rd v).y = s.y := writePhys_y s _ v
@[simp] theorem writeReg_ccr (s : State) (rd : RegNum) (v : Word64) : (writeReg s rd v).ccr = s.ccr := writePhys_ccr s _ v
@[simp] theorem writeReg_asi (s : State) (rd : RegNum) (v : Word64) : (writeReg s rd v).asi = s.asi := writePhys_asi s _ v
@[simp] theorem writeReg_tick (s : State) (rd : RegNum) (v : Word64) : (writeReg s rd v).tick = s.tick := writePhys_tick s _ v
@[simp] theorem writeReg_softint (s : State) (rd : RegNum) (v : Word64) : (writeReg s rd v).softint = s.softint := writePhys_softint s _ v
@[simp] theorem writeReg_tickCmpr (s : State) (rd : RegNum) (v : Word64) : (writeReg s rd v).tickCmpr = s.tickCmpr := writePhys_tickCmpr s _ v
@[simp] theorem writeReg_stick (s : State) (rd : RegNum) (v : Word64) : (writeReg s rd v).stick = s.stick := writePhys_stick s _ v
@[simp] theorem writeReg_stickCmpr (s : State) (rd : RegNum) (v : Word64) : (writeReg s rd v).stickCmpr = s.stickCmpr := writePhys_stickCmpr s _ v
@[simp] theorem writeReg_cwp (s : State) (rd : RegNum) (v : Word64) : (writeReg s rd v).cwp = s.cwp := writePhys_cwp s _ v
@[simp] theorem writeReg_cansave (s : State) (rd : RegNum) (v : Word64) : (writeReg s rd v).cansave = s.cansave := writePhys_cansave s _ v
@[simp] theorem writeReg_canrestore (s : State) (rd : RegNum) (v : Word64) : (writeReg s rd v).canrestore = s.canrestore := writePhys_canrestore s _ v
@[simp] theorem writeReg_cleanwin (s : State) (rd : RegNum) (v : Word64) : (writeReg s rd v).cleanwin = s.cleanwin := writePhys_cleanwin s _ v
@[simp] theorem writeReg_otherwin (s : State) (rd : RegNum) (v : Word64) : (writeReg s rd v).otherwin = s.otherwin := writePhys_otherwin s _ v
@[simp] theorem writeReg_wstate (s : State) (rd : RegNum) (v : Word64) : (writeReg s rd v).wstate = s.wstate := writePhys_wstate s _ v
@[simp] theorem writeReg_trapStack (s : State) (rd : RegNum) (v : Word64) : (writeReg s rd v).trapStack = s.trapStack := writePhys_trapStack s _ v
@[simp] theorem writeReg_tba (s : State) (rd : RegNum) (v : Word64) : (writeReg s rd v).tba = s.tba := writePhys_tba s _ v
@[simp] theorem writeReg_pstate (s : State) (rd : RegNum) (v : Word64) : (writeReg s rd v).pstate = s.pstate := writePhys_pstate s _ v
@[simp] theorem writeReg_tl (s : State) (rd : RegNum) (v : Word64) : (writeReg s rd v).tl = s.tl := writePhys_tl s _ v
@[simp] theorem writeReg_pil (s : State) (rd : RegNum) (v : Word64) : (writeReg s rd v).pil = s.pil := writePhys_pil s _ v
@[simp] theorem writeReg_gl (s : State) (rd : RegNum) (v : Word64) : (writeReg s rd v).gl = s.gl := writePhys_gl s _ v
@[simp] theorem writeReg_scratchpad (s : State) (rd : RegNum) (v : Word64) : (writeReg s rd v).scratchpad = s.scratchpad := writePhys_scratchpad s _ v
@[simp] theorem writeReg_primaryContext0 (s : State) (rd : RegNum) (v : Word64) : (writeReg s rd v).primaryContext0 = s.primaryContext0 := writePhys_primaryContext0 s _ v
@[simp] theorem writeReg_primaryContext1 (s : State) (rd : RegNum) (v : Word64) : (writeReg s rd v).primaryContext1 = s.primaryContext1 := writePhys_primaryContext1 s _ v
@[simp] theorem writeReg_secondaryContext0 (s : State) (rd : RegNum) (v : Word64) : (writeReg s rd v).secondaryContext0 = s.secondaryContext0 := writePhys_secondaryContext0 s _ v
@[simp] theorem writeReg_secondaryContext1 (s : State) (rd : RegNum) (v : Word64) : (writeReg s rd v).secondaryContext1 = s.secondaryContext1 := writePhys_secondaryContext1 s _ v
@[simp] theorem writeReg_cpuMondo (s : State) (rd : RegNum) (v : Word64) : (writeReg s rd v).cpuMondo = s.cpuMondo := writePhys_cpuMondo s _ v
@[simp] theorem writeReg_devMondo (s : State) (rd : RegNum) (v : Word64) : (writeReg s rd v).devMondo = s.devMondo := writePhys_devMondo s _ v
@[simp] theorem writeReg_resError (s : State) (rd : RegNum) (v : Word64) : (writeReg s rd v).resError = s.resError := writePhys_resError s _ v
@[simp] theorem writeReg_nonresError (s : State) (rd : RegNum) (v : Word64) : (writeReg s rd v).nonresError = s.nonresError := writePhys_nonresError s _ v
@[simp] theorem writeReg_mem (s : State) (rd : RegNum) (v : Word64) : (writeReg s rd v).mem = s.mem := writePhys_mem s _ v
@[simp] theorem writeReg_ioRegion (s : State) (rd : RegNum) (v : Word64) : (writeReg s rd v).ioRegion = s.ioRegion := writePhys_ioRegion s _ v
@[simp] theorem writeReg_ioLog (s : State) (rd : RegNum) (v : Word64) : (writeReg s rd v).ioLog = s.ioLog := writePhys_ioLog s _ v
@[simp] theorem writeReg_tlb (s : State) (rd : RegNum) (v : Word64) : (writeReg s rd v).tlb = s.tlb := writePhys_tlb s _ v
@[simp] theorem writeReg_extReq (s : State) (rd : RegNum) (v : Word64) : (writeReg s rd v).extReq = s.extReq := writePhys_extReq s _ v
@[simp] theorem writeReg_inputs (s : State) (rd : RegNum) (v : Word64) : (writeReg s rd v).inputs = s.inputs := writePhys_inputs s _ v
@[simp] theorem writeReg_insnWatch (s : State) (rd : RegNum) (v : Word64) : (writeReg s rd v).insnWatch = s.insnWatch := writePhys_insnWatch s _ v
@[simp] theorem writeReg_dataWatch (s : State) (rd : RegNum) (v : Word64) : (writeReg s rd v).dataWatch = s.dataWatch := writePhys_dataWatch s _ v
@[simp] theorem writeReg_freeCount (s : State) (rd : RegNum) (v : Word64) : (writeReg s rd v).freeCount = s.freeCount := writePhys_freeCount s _ v
@[simp] theorem writeReg_trapped (s : State) (rd : RegNum) (v : Word64) : (writeReg s rd v).trapped = s.trapped := writePhys_trapped s _ v

/-! ### a single F register -/

@[simp] theorem writeS_globals (s : State) (f : RegNum) (v : Word32) : (writeS s f v).globals = s.globals := rfl
@[simp] theorem writeS_windows (s : State) (f : RegNum) (v : Word32) : (writeS s f v).windows = s.windows := rfl
@[simp] theorem writeS_pc (s : State) (f : RegNum) (v : Word32) : (writeS s f v).pc = s.pc := rfl
@[simp] theorem writeS_npc (s : State) (f : RegNum) (v : Word32) : (writeS s f v).npc = s.npc := rfl
@[simp] theorem writeS_fsr (s : State) (f : RegNum) (v : Word32) : (writeS s f v).fsr = s.fsr := rfl
@[simp] theorem writeS_gsr (s : State) (f : RegNum) (v : Word32) : (writeS s f v).gsr = s.gsr := rfl
@[simp] theorem writeS_y (s : State) (f : RegNum) (v : Word32) : (writeS s f v).y = s.y := rfl
@[simp] theorem writeS_ccr (s : State) (f : RegNum) (v : Word32) : (writeS s f v).ccr = s.ccr := rfl
@[simp] theorem writeS_asi (s : State) (f : RegNum) (v : Word32) : (writeS s f v).asi = s.asi := rfl
@[simp] theorem writeS_tick (s : State) (f : RegNum) (v : Word32) : (writeS s f v).tick = s.tick := rfl
@[simp] theorem writeS_softint (s : State) (f : RegNum) (v : Word32) : (writeS s f v).softint = s.softint := rfl
@[simp] theorem writeS_tickCmpr (s : State) (f : RegNum) (v : Word32) : (writeS s f v).tickCmpr = s.tickCmpr := rfl
@[simp] theorem writeS_stick (s : State) (f : RegNum) (v : Word32) : (writeS s f v).stick = s.stick := rfl
@[simp] theorem writeS_stickCmpr (s : State) (f : RegNum) (v : Word32) : (writeS s f v).stickCmpr = s.stickCmpr := rfl
@[simp] theorem writeS_cwp (s : State) (f : RegNum) (v : Word32) : (writeS s f v).cwp = s.cwp := rfl
@[simp] theorem writeS_cansave (s : State) (f : RegNum) (v : Word32) : (writeS s f v).cansave = s.cansave := rfl
@[simp] theorem writeS_canrestore (s : State) (f : RegNum) (v : Word32) : (writeS s f v).canrestore = s.canrestore := rfl
@[simp] theorem writeS_cleanwin (s : State) (f : RegNum) (v : Word32) : (writeS s f v).cleanwin = s.cleanwin := rfl
@[simp] theorem writeS_otherwin (s : State) (f : RegNum) (v : Word32) : (writeS s f v).otherwin = s.otherwin := rfl
@[simp] theorem writeS_wstate (s : State) (f : RegNum) (v : Word32) : (writeS s f v).wstate = s.wstate := rfl
@[simp] theorem writeS_trapStack (s : State) (f : RegNum) (v : Word32) : (writeS s f v).trapStack = s.trapStack := rfl
@[simp] theorem writeS_tba (s : State) (f : RegNum) (v : Word32) : (writeS s f v).tba = s.tba := rfl
@[simp] theorem writeS_pstate (s : State) (f : RegNum) (v : Word32) : (writeS s f v).pstate = s.pstate := rfl
@[simp] theorem writeS_tl (s : State) (f : RegNum) (v : Word32) : (writeS s f v).tl = s.tl := rfl
@[simp] theorem writeS_pil (s : State) (f : RegNum) (v : Word32) : (writeS s f v).pil = s.pil := rfl
@[simp] theorem writeS_gl (s : State) (f : RegNum) (v : Word32) : (writeS s f v).gl = s.gl := rfl
@[simp] theorem writeS_scratchpad (s : State) (f : RegNum) (v : Word32) : (writeS s f v).scratchpad = s.scratchpad := rfl
@[simp] theorem writeS_primaryContext0 (s : State) (f : RegNum) (v : Word32) : (writeS s f v).primaryContext0 = s.primaryContext0 := rfl
@[simp] theorem writeS_primaryContext1 (s : State) (f : RegNum) (v : Word32) : (writeS s f v).primaryContext1 = s.primaryContext1 := rfl
@[simp] theorem writeS_secondaryContext0 (s : State) (f : RegNum) (v : Word32) : (writeS s f v).secondaryContext0 = s.secondaryContext0 := rfl
@[simp] theorem writeS_secondaryContext1 (s : State) (f : RegNum) (v : Word32) : (writeS s f v).secondaryContext1 = s.secondaryContext1 := rfl
@[simp] theorem writeS_cpuMondo (s : State) (f : RegNum) (v : Word32) : (writeS s f v).cpuMondo = s.cpuMondo := rfl
@[simp] theorem writeS_devMondo (s : State) (f : RegNum) (v : Word32) : (writeS s f v).devMondo = s.devMondo := rfl
@[simp] theorem writeS_resError (s : State) (f : RegNum) (v : Word32) : (writeS s f v).resError = s.resError := rfl
@[simp] theorem writeS_nonresError (s : State) (f : RegNum) (v : Word32) : (writeS s f v).nonresError = s.nonresError := rfl
@[simp] theorem writeS_mem (s : State) (f : RegNum) (v : Word32) : (writeS s f v).mem = s.mem := rfl
@[simp] theorem writeS_ioRegion (s : State) (f : RegNum) (v : Word32) : (writeS s f v).ioRegion = s.ioRegion := rfl
@[simp] theorem writeS_ioLog (s : State) (f : RegNum) (v : Word32) : (writeS s f v).ioLog = s.ioLog := rfl
@[simp] theorem writeS_tlb (s : State) (f : RegNum) (v : Word32) : (writeS s f v).tlb = s.tlb := rfl
@[simp] theorem writeS_extReq (s : State) (f : RegNum) (v : Word32) : (writeS s f v).extReq = s.extReq := rfl
@[simp] theorem writeS_inputs (s : State) (f : RegNum) (v : Word32) : (writeS s f v).inputs = s.inputs := rfl
@[simp] theorem writeS_insnWatch (s : State) (f : RegNum) (v : Word32) : (writeS s f v).insnWatch = s.insnWatch := rfl
@[simp] theorem writeS_dataWatch (s : State) (f : RegNum) (v : Word32) : (writeS s f v).dataWatch = s.dataWatch := rfl
@[simp] theorem writeS_freeCount (s : State) (f : RegNum) (v : Word32) : (writeS s f v).freeCount = s.freeCount := rfl
@[simp] theorem writeS_trapped (s : State) (f : RegNum) (v : Word32) : (writeS s f v).trapped = s.trapped := rfl

/-! ### a double F register -/

@[simp] theorem writeFd_globals (s : State) (n : BitVec 6) (v : Word64) : (writeFd s n v).globals = s.globals := rfl
@[simp] theorem writeFd_windows (s : State) (n : BitVec 6) (v : Word64) : (writeFd s n v).windows = s.windows := rfl
@[simp] theorem writeFd_pc (s : State) (n : BitVec 6) (v : Word64) : (writeFd s n v).pc = s.pc := rfl
@[simp] theorem writeFd_npc (s : State) (n : BitVec 6) (v : Word64) : (writeFd s n v).npc = s.npc := rfl
@[simp] theorem writeFd_fsr (s : State) (n : BitVec 6) (v : Word64) : (writeFd s n v).fsr = s.fsr := rfl
@[simp] theorem writeFd_gsr (s : State) (n : BitVec 6) (v : Word64) : (writeFd s n v).gsr = s.gsr := rfl
@[simp] theorem writeFd_y (s : State) (n : BitVec 6) (v : Word64) : (writeFd s n v).y = s.y := rfl
@[simp] theorem writeFd_ccr (s : State) (n : BitVec 6) (v : Word64) : (writeFd s n v).ccr = s.ccr := rfl
@[simp] theorem writeFd_asi (s : State) (n : BitVec 6) (v : Word64) : (writeFd s n v).asi = s.asi := rfl
@[simp] theorem writeFd_tick (s : State) (n : BitVec 6) (v : Word64) : (writeFd s n v).tick = s.tick := rfl
@[simp] theorem writeFd_softint (s : State) (n : BitVec 6) (v : Word64) : (writeFd s n v).softint = s.softint := rfl
@[simp] theorem writeFd_tickCmpr (s : State) (n : BitVec 6) (v : Word64) : (writeFd s n v).tickCmpr = s.tickCmpr := rfl
@[simp] theorem writeFd_stick (s : State) (n : BitVec 6) (v : Word64) : (writeFd s n v).stick = s.stick := rfl
@[simp] theorem writeFd_stickCmpr (s : State) (n : BitVec 6) (v : Word64) : (writeFd s n v).stickCmpr = s.stickCmpr := rfl
@[simp] theorem writeFd_cwp (s : State) (n : BitVec 6) (v : Word64) : (writeFd s n v).cwp = s.cwp := rfl
@[simp] theorem writeFd_cansave (s : State) (n : BitVec 6) (v : Word64) : (writeFd s n v).cansave = s.cansave := rfl
@[simp] theorem writeFd_canrestore (s : State) (n : BitVec 6) (v : Word64) : (writeFd s n v).canrestore = s.canrestore := rfl
@[simp] theorem writeFd_cleanwin (s : State) (n : BitVec 6) (v : Word64) : (writeFd s n v).cleanwin = s.cleanwin := rfl
@[simp] theorem writeFd_otherwin (s : State) (n : BitVec 6) (v : Word64) : (writeFd s n v).otherwin = s.otherwin := rfl
@[simp] theorem writeFd_wstate (s : State) (n : BitVec 6) (v : Word64) : (writeFd s n v).wstate = s.wstate := rfl
@[simp] theorem writeFd_trapStack (s : State) (n : BitVec 6) (v : Word64) : (writeFd s n v).trapStack = s.trapStack := rfl
@[simp] theorem writeFd_tba (s : State) (n : BitVec 6) (v : Word64) : (writeFd s n v).tba = s.tba := rfl
@[simp] theorem writeFd_pstate (s : State) (n : BitVec 6) (v : Word64) : (writeFd s n v).pstate = s.pstate := rfl
@[simp] theorem writeFd_tl (s : State) (n : BitVec 6) (v : Word64) : (writeFd s n v).tl = s.tl := rfl
@[simp] theorem writeFd_pil (s : State) (n : BitVec 6) (v : Word64) : (writeFd s n v).pil = s.pil := rfl
@[simp] theorem writeFd_gl (s : State) (n : BitVec 6) (v : Word64) : (writeFd s n v).gl = s.gl := rfl
@[simp] theorem writeFd_scratchpad (s : State) (n : BitVec 6) (v : Word64) : (writeFd s n v).scratchpad = s.scratchpad := rfl
@[simp] theorem writeFd_primaryContext0 (s : State) (n : BitVec 6) (v : Word64) : (writeFd s n v).primaryContext0 = s.primaryContext0 := rfl
@[simp] theorem writeFd_primaryContext1 (s : State) (n : BitVec 6) (v : Word64) : (writeFd s n v).primaryContext1 = s.primaryContext1 := rfl
@[simp] theorem writeFd_secondaryContext0 (s : State) (n : BitVec 6) (v : Word64) : (writeFd s n v).secondaryContext0 = s.secondaryContext0 := rfl
@[simp] theorem writeFd_secondaryContext1 (s : State) (n : BitVec 6) (v : Word64) : (writeFd s n v).secondaryContext1 = s.secondaryContext1 := rfl
@[simp] theorem writeFd_cpuMondo (s : State) (n : BitVec 6) (v : Word64) : (writeFd s n v).cpuMondo = s.cpuMondo := rfl
@[simp] theorem writeFd_devMondo (s : State) (n : BitVec 6) (v : Word64) : (writeFd s n v).devMondo = s.devMondo := rfl
@[simp] theorem writeFd_resError (s : State) (n : BitVec 6) (v : Word64) : (writeFd s n v).resError = s.resError := rfl
@[simp] theorem writeFd_nonresError (s : State) (n : BitVec 6) (v : Word64) : (writeFd s n v).nonresError = s.nonresError := rfl
@[simp] theorem writeFd_mem (s : State) (n : BitVec 6) (v : Word64) : (writeFd s n v).mem = s.mem := rfl
@[simp] theorem writeFd_ioRegion (s : State) (n : BitVec 6) (v : Word64) : (writeFd s n v).ioRegion = s.ioRegion := rfl
@[simp] theorem writeFd_ioLog (s : State) (n : BitVec 6) (v : Word64) : (writeFd s n v).ioLog = s.ioLog := rfl
@[simp] theorem writeFd_tlb (s : State) (n : BitVec 6) (v : Word64) : (writeFd s n v).tlb = s.tlb := rfl
@[simp] theorem writeFd_extReq (s : State) (n : BitVec 6) (v : Word64) : (writeFd s n v).extReq = s.extReq := rfl
@[simp] theorem writeFd_inputs (s : State) (n : BitVec 6) (v : Word64) : (writeFd s n v).inputs = s.inputs := rfl
@[simp] theorem writeFd_insnWatch (s : State) (n : BitVec 6) (v : Word64) : (writeFd s n v).insnWatch = s.insnWatch := rfl
@[simp] theorem writeFd_dataWatch (s : State) (n : BitVec 6) (v : Word64) : (writeFd s n v).dataWatch = s.dataWatch := rfl
@[simp] theorem writeFd_freeCount (s : State) (n : BitVec 6) (v : Word64) : (writeFd s n v).freeCount = s.freeCount := rfl
@[simp] theorem writeFd_trapped (s : State) (n : BitVec 6) (v : Word64) : (writeFd s n v).trapped = s.trapped := rfl

/-! ### a double F register by its field -/

@[simp] theorem writeD_globals (s : State) (f : RegNum) (v : Word64) : (writeD s f v).globals = s.globals := rfl
@[simp] theorem writeD_windows (s : State) (f : RegNum) (v : Word64) : (writeD s f v).windows = s.windows := rfl
@[simp] theorem writeD_pc (s : State) (f : RegNum) (v : Word64) : (writeD s f v).pc = s.pc := rfl
@[simp] theorem writeD_npc (s : State) (f : RegNum) (v : Word64) : (writeD s f v).npc = s.npc := rfl
@[simp] theorem writeD_fsr (s : State) (f : RegNum) (v : Word64) : (writeD s f v).fsr = s.fsr := rfl
@[simp] theorem writeD_gsr (s : State) (f : RegNum) (v : Word64) : (writeD s f v).gsr = s.gsr := rfl
@[simp] theorem writeD_y (s : State) (f : RegNum) (v : Word64) : (writeD s f v).y = s.y := rfl
@[simp] theorem writeD_ccr (s : State) (f : RegNum) (v : Word64) : (writeD s f v).ccr = s.ccr := rfl
@[simp] theorem writeD_asi (s : State) (f : RegNum) (v : Word64) : (writeD s f v).asi = s.asi := rfl
@[simp] theorem writeD_tick (s : State) (f : RegNum) (v : Word64) : (writeD s f v).tick = s.tick := rfl
@[simp] theorem writeD_softint (s : State) (f : RegNum) (v : Word64) : (writeD s f v).softint = s.softint := rfl
@[simp] theorem writeD_tickCmpr (s : State) (f : RegNum) (v : Word64) : (writeD s f v).tickCmpr = s.tickCmpr := rfl
@[simp] theorem writeD_stick (s : State) (f : RegNum) (v : Word64) : (writeD s f v).stick = s.stick := rfl
@[simp] theorem writeD_stickCmpr (s : State) (f : RegNum) (v : Word64) : (writeD s f v).stickCmpr = s.stickCmpr := rfl
@[simp] theorem writeD_cwp (s : State) (f : RegNum) (v : Word64) : (writeD s f v).cwp = s.cwp := rfl
@[simp] theorem writeD_cansave (s : State) (f : RegNum) (v : Word64) : (writeD s f v).cansave = s.cansave := rfl
@[simp] theorem writeD_canrestore (s : State) (f : RegNum) (v : Word64) : (writeD s f v).canrestore = s.canrestore := rfl
@[simp] theorem writeD_cleanwin (s : State) (f : RegNum) (v : Word64) : (writeD s f v).cleanwin = s.cleanwin := rfl
@[simp] theorem writeD_otherwin (s : State) (f : RegNum) (v : Word64) : (writeD s f v).otherwin = s.otherwin := rfl
@[simp] theorem writeD_wstate (s : State) (f : RegNum) (v : Word64) : (writeD s f v).wstate = s.wstate := rfl
@[simp] theorem writeD_trapStack (s : State) (f : RegNum) (v : Word64) : (writeD s f v).trapStack = s.trapStack := rfl
@[simp] theorem writeD_tba (s : State) (f : RegNum) (v : Word64) : (writeD s f v).tba = s.tba := rfl
@[simp] theorem writeD_pstate (s : State) (f : RegNum) (v : Word64) : (writeD s f v).pstate = s.pstate := rfl
@[simp] theorem writeD_tl (s : State) (f : RegNum) (v : Word64) : (writeD s f v).tl = s.tl := rfl
@[simp] theorem writeD_pil (s : State) (f : RegNum) (v : Word64) : (writeD s f v).pil = s.pil := rfl
@[simp] theorem writeD_gl (s : State) (f : RegNum) (v : Word64) : (writeD s f v).gl = s.gl := rfl
@[simp] theorem writeD_scratchpad (s : State) (f : RegNum) (v : Word64) : (writeD s f v).scratchpad = s.scratchpad := rfl
@[simp] theorem writeD_primaryContext0 (s : State) (f : RegNum) (v : Word64) : (writeD s f v).primaryContext0 = s.primaryContext0 := rfl
@[simp] theorem writeD_primaryContext1 (s : State) (f : RegNum) (v : Word64) : (writeD s f v).primaryContext1 = s.primaryContext1 := rfl
@[simp] theorem writeD_secondaryContext0 (s : State) (f : RegNum) (v : Word64) : (writeD s f v).secondaryContext0 = s.secondaryContext0 := rfl
@[simp] theorem writeD_secondaryContext1 (s : State) (f : RegNum) (v : Word64) : (writeD s f v).secondaryContext1 = s.secondaryContext1 := rfl
@[simp] theorem writeD_cpuMondo (s : State) (f : RegNum) (v : Word64) : (writeD s f v).cpuMondo = s.cpuMondo := rfl
@[simp] theorem writeD_devMondo (s : State) (f : RegNum) (v : Word64) : (writeD s f v).devMondo = s.devMondo := rfl
@[simp] theorem writeD_resError (s : State) (f : RegNum) (v : Word64) : (writeD s f v).resError = s.resError := rfl
@[simp] theorem writeD_nonresError (s : State) (f : RegNum) (v : Word64) : (writeD s f v).nonresError = s.nonresError := rfl
@[simp] theorem writeD_mem (s : State) (f : RegNum) (v : Word64) : (writeD s f v).mem = s.mem := rfl
@[simp] theorem writeD_ioRegion (s : State) (f : RegNum) (v : Word64) : (writeD s f v).ioRegion = s.ioRegion := rfl
@[simp] theorem writeD_ioLog (s : State) (f : RegNum) (v : Word64) : (writeD s f v).ioLog = s.ioLog := rfl
@[simp] theorem writeD_tlb (s : State) (f : RegNum) (v : Word64) : (writeD s f v).tlb = s.tlb := rfl
@[simp] theorem writeD_extReq (s : State) (f : RegNum) (v : Word64) : (writeD s f v).extReq = s.extReq := rfl
@[simp] theorem writeD_inputs (s : State) (f : RegNum) (v : Word64) : (writeD s f v).inputs = s.inputs := rfl
@[simp] theorem writeD_insnWatch (s : State) (f : RegNum) (v : Word64) : (writeD s f v).insnWatch = s.insnWatch := rfl
@[simp] theorem writeD_dataWatch (s : State) (f : RegNum) (v : Word64) : (writeD s f v).dataWatch = s.dataWatch := rfl
@[simp] theorem writeD_freeCount (s : State) (f : RegNum) (v : Word64) : (writeD s f v).freeCount = s.freeCount := rfl
@[simp] theorem writeD_trapped (s : State) (f : RegNum) (v : Word64) : (writeD s f v).trapped = s.trapped := rfl

/-! ### the window of SAVE -/

@[simp] theorem saveWindow_globals (s : State) : (saveWindow s).globals = s.globals := rfl
@[simp] theorem saveWindow_windows (s : State) : (saveWindow s).windows = s.windows := rfl
@[simp] theorem saveWindow_pc (s : State) : (saveWindow s).pc = s.pc := rfl
@[simp] theorem saveWindow_npc (s : State) : (saveWindow s).npc = s.npc := rfl
@[simp] theorem saveWindow_fregs (s : State) : (saveWindow s).fregs = s.fregs := rfl
@[simp] theorem saveWindow_fsr (s : State) : (saveWindow s).fsr = s.fsr := rfl
@[simp] theorem saveWindow_fprs (s : State) : (saveWindow s).fprs = s.fprs := rfl
@[simp] theorem saveWindow_gsr (s : State) : (saveWindow s).gsr = s.gsr := rfl
@[simp] theorem saveWindow_y (s : State) : (saveWindow s).y = s.y := rfl
@[simp] theorem saveWindow_ccr (s : State) : (saveWindow s).ccr = s.ccr := rfl
@[simp] theorem saveWindow_asi (s : State) : (saveWindow s).asi = s.asi := rfl
@[simp] theorem saveWindow_tick (s : State) : (saveWindow s).tick = s.tick := rfl
@[simp] theorem saveWindow_softint (s : State) : (saveWindow s).softint = s.softint := rfl
@[simp] theorem saveWindow_tickCmpr (s : State) : (saveWindow s).tickCmpr = s.tickCmpr := rfl
@[simp] theorem saveWindow_stick (s : State) : (saveWindow s).stick = s.stick := rfl
@[simp] theorem saveWindow_stickCmpr (s : State) : (saveWindow s).stickCmpr = s.stickCmpr := rfl
@[simp] theorem saveWindow_cwp (s : State) : (saveWindow s).cwp = s.cwp + 1 := rfl
@[simp] theorem saveWindow_cansave (s : State) : (saveWindow s).cansave = s.cansave - 1 := rfl
@[simp] theorem saveWindow_canrestore (s : State) : (saveWindow s).canrestore = s.canrestore + 1 := rfl
@[simp] theorem saveWindow_cleanwin (s : State) : (saveWindow s).cleanwin = s.cleanwin := rfl
@[simp] theorem saveWindow_otherwin (s : State) : (saveWindow s).otherwin = s.otherwin := rfl
@[simp] theorem saveWindow_wstate (s : State) : (saveWindow s).wstate = s.wstate := rfl
@[simp] theorem saveWindow_trapStack (s : State) : (saveWindow s).trapStack = s.trapStack := rfl
@[simp] theorem saveWindow_tba (s : State) : (saveWindow s).tba = s.tba := rfl
@[simp] theorem saveWindow_pstate (s : State) : (saveWindow s).pstate = s.pstate := rfl
@[simp] theorem saveWindow_tl (s : State) : (saveWindow s).tl = s.tl := rfl
@[simp] theorem saveWindow_pil (s : State) : (saveWindow s).pil = s.pil := rfl
@[simp] theorem saveWindow_gl (s : State) : (saveWindow s).gl = s.gl := rfl
@[simp] theorem saveWindow_scratchpad (s : State) : (saveWindow s).scratchpad = s.scratchpad := rfl
@[simp] theorem saveWindow_primaryContext0 (s : State) : (saveWindow s).primaryContext0 = s.primaryContext0 := rfl
@[simp] theorem saveWindow_primaryContext1 (s : State) : (saveWindow s).primaryContext1 = s.primaryContext1 := rfl
@[simp] theorem saveWindow_secondaryContext0 (s : State) : (saveWindow s).secondaryContext0 = s.secondaryContext0 := rfl
@[simp] theorem saveWindow_secondaryContext1 (s : State) : (saveWindow s).secondaryContext1 = s.secondaryContext1 := rfl
@[simp] theorem saveWindow_cpuMondo (s : State) : (saveWindow s).cpuMondo = s.cpuMondo := rfl
@[simp] theorem saveWindow_devMondo (s : State) : (saveWindow s).devMondo = s.devMondo := rfl
@[simp] theorem saveWindow_resError (s : State) : (saveWindow s).resError = s.resError := rfl
@[simp] theorem saveWindow_nonresError (s : State) : (saveWindow s).nonresError = s.nonresError := rfl
@[simp] theorem saveWindow_mem (s : State) : (saveWindow s).mem = s.mem := rfl
@[simp] theorem saveWindow_ioRegion (s : State) : (saveWindow s).ioRegion = s.ioRegion := rfl
@[simp] theorem saveWindow_ioLog (s : State) : (saveWindow s).ioLog = s.ioLog := rfl
@[simp] theorem saveWindow_tlb (s : State) : (saveWindow s).tlb = s.tlb := rfl
@[simp] theorem saveWindow_extReq (s : State) : (saveWindow s).extReq = s.extReq := rfl
@[simp] theorem saveWindow_inputs (s : State) : (saveWindow s).inputs = s.inputs := rfl
@[simp] theorem saveWindow_insnWatch (s : State) : (saveWindow s).insnWatch = s.insnWatch := rfl
@[simp] theorem saveWindow_dataWatch (s : State) : (saveWindow s).dataWatch = s.dataWatch := rfl
@[simp] theorem saveWindow_freeCount (s : State) : (saveWindow s).freeCount = s.freeCount := rfl
@[simp] theorem saveWindow_trapped (s : State) : (saveWindow s).trapped = s.trapped := rfl

/-! ### the window of RESTORE -/

@[simp] theorem restoreWindow_globals (s : State) : (restoreWindow s).globals = s.globals := rfl
@[simp] theorem restoreWindow_windows (s : State) : (restoreWindow s).windows = s.windows := rfl
@[simp] theorem restoreWindow_pc (s : State) : (restoreWindow s).pc = s.pc := rfl
@[simp] theorem restoreWindow_npc (s : State) : (restoreWindow s).npc = s.npc := rfl
@[simp] theorem restoreWindow_fregs (s : State) : (restoreWindow s).fregs = s.fregs := rfl
@[simp] theorem restoreWindow_fsr (s : State) : (restoreWindow s).fsr = s.fsr := rfl
@[simp] theorem restoreWindow_fprs (s : State) : (restoreWindow s).fprs = s.fprs := rfl
@[simp] theorem restoreWindow_gsr (s : State) : (restoreWindow s).gsr = s.gsr := rfl
@[simp] theorem restoreWindow_y (s : State) : (restoreWindow s).y = s.y := rfl
@[simp] theorem restoreWindow_ccr (s : State) : (restoreWindow s).ccr = s.ccr := rfl
@[simp] theorem restoreWindow_asi (s : State) : (restoreWindow s).asi = s.asi := rfl
@[simp] theorem restoreWindow_tick (s : State) : (restoreWindow s).tick = s.tick := rfl
@[simp] theorem restoreWindow_softint (s : State) : (restoreWindow s).softint = s.softint := rfl
@[simp] theorem restoreWindow_tickCmpr (s : State) : (restoreWindow s).tickCmpr = s.tickCmpr := rfl
@[simp] theorem restoreWindow_stick (s : State) : (restoreWindow s).stick = s.stick := rfl
@[simp] theorem restoreWindow_stickCmpr (s : State) : (restoreWindow s).stickCmpr = s.stickCmpr := rfl
@[simp] theorem restoreWindow_cwp (s : State) : (restoreWindow s).cwp = s.cwp - 1 := rfl
@[simp] theorem restoreWindow_cansave (s : State) : (restoreWindow s).cansave = s.cansave + 1 := rfl
@[simp] theorem restoreWindow_canrestore (s : State) : (restoreWindow s).canrestore = s.canrestore - 1 := rfl
@[simp] theorem restoreWindow_cleanwin (s : State) : (restoreWindow s).cleanwin = s.cleanwin := rfl
@[simp] theorem restoreWindow_otherwin (s : State) : (restoreWindow s).otherwin = s.otherwin := rfl
@[simp] theorem restoreWindow_wstate (s : State) : (restoreWindow s).wstate = s.wstate := rfl
@[simp] theorem restoreWindow_trapStack (s : State) : (restoreWindow s).trapStack = s.trapStack := rfl
@[simp] theorem restoreWindow_tba (s : State) : (restoreWindow s).tba = s.tba := rfl
@[simp] theorem restoreWindow_pstate (s : State) : (restoreWindow s).pstate = s.pstate := rfl
@[simp] theorem restoreWindow_tl (s : State) : (restoreWindow s).tl = s.tl := rfl
@[simp] theorem restoreWindow_pil (s : State) : (restoreWindow s).pil = s.pil := rfl
@[simp] theorem restoreWindow_gl (s : State) : (restoreWindow s).gl = s.gl := rfl
@[simp] theorem restoreWindow_scratchpad (s : State) : (restoreWindow s).scratchpad = s.scratchpad := rfl
@[simp] theorem restoreWindow_primaryContext0 (s : State) : (restoreWindow s).primaryContext0 = s.primaryContext0 := rfl
@[simp] theorem restoreWindow_primaryContext1 (s : State) : (restoreWindow s).primaryContext1 = s.primaryContext1 := rfl
@[simp] theorem restoreWindow_secondaryContext0 (s : State) : (restoreWindow s).secondaryContext0 = s.secondaryContext0 := rfl
@[simp] theorem restoreWindow_secondaryContext1 (s : State) : (restoreWindow s).secondaryContext1 = s.secondaryContext1 := rfl
@[simp] theorem restoreWindow_cpuMondo (s : State) : (restoreWindow s).cpuMondo = s.cpuMondo := rfl
@[simp] theorem restoreWindow_devMondo (s : State) : (restoreWindow s).devMondo = s.devMondo := rfl
@[simp] theorem restoreWindow_resError (s : State) : (restoreWindow s).resError = s.resError := rfl
@[simp] theorem restoreWindow_nonresError (s : State) : (restoreWindow s).nonresError = s.nonresError := rfl
@[simp] theorem restoreWindow_mem (s : State) : (restoreWindow s).mem = s.mem := rfl
@[simp] theorem restoreWindow_ioRegion (s : State) : (restoreWindow s).ioRegion = s.ioRegion := rfl
@[simp] theorem restoreWindow_ioLog (s : State) : (restoreWindow s).ioLog = s.ioLog := rfl
@[simp] theorem restoreWindow_tlb (s : State) : (restoreWindow s).tlb = s.tlb := rfl
@[simp] theorem restoreWindow_extReq (s : State) : (restoreWindow s).extReq = s.extReq := rfl
@[simp] theorem restoreWindow_inputs (s : State) : (restoreWindow s).inputs = s.inputs := rfl
@[simp] theorem restoreWindow_insnWatch (s : State) : (restoreWindow s).insnWatch = s.insnWatch := rfl
@[simp] theorem restoreWindow_dataWatch (s : State) : (restoreWindow s).dataWatch = s.dataWatch := rfl
@[simp] theorem restoreWindow_freeCount (s : State) : (restoreWindow s).freeCount = s.freeCount := rfl
@[simp] theorem restoreWindow_trapped (s : State) : (restoreWindow s).trapped = s.trapped := rfl

/-! ### trap entry -/

@[simp] theorem takeTrap_globals (s : State) (tt : BitVec 9) : (takeTrap s tt).globals = s.globals := rfl
@[simp] theorem takeTrap_windows (s : State) (tt : BitVec 9) : (takeTrap s tt).windows = s.windows := rfl
@[simp] theorem takeTrap_pc (s : State) (tt : BitVec 9) : (takeTrap s tt).pc = trapVector s tt := rfl
@[simp] theorem takeTrap_npc (s : State) (tt : BitVec 9) : (takeTrap s tt).npc = trapVector s tt + 4 := rfl
@[simp] theorem takeTrap_fregs (s : State) (tt : BitVec 9) : (takeTrap s tt).fregs = s.fregs := rfl
@[simp] theorem takeTrap_fsr (s : State) (tt : BitVec 9) : (takeTrap s tt).fsr = s.fsr := rfl
@[simp] theorem takeTrap_fprs (s : State) (tt : BitVec 9) : (takeTrap s tt).fprs = s.fprs := rfl
@[simp] theorem takeTrap_gsr (s : State) (tt : BitVec 9) : (takeTrap s tt).gsr = s.gsr := rfl
@[simp] theorem takeTrap_y (s : State) (tt : BitVec 9) : (takeTrap s tt).y = s.y := rfl
@[simp] theorem takeTrap_ccr (s : State) (tt : BitVec 9) : (takeTrap s tt).ccr = s.ccr := rfl
@[simp] theorem takeTrap_asi (s : State) (tt : BitVec 9) : (takeTrap s tt).asi = s.asi := rfl
@[simp] theorem takeTrap_tick (s : State) (tt : BitVec 9) : (takeTrap s tt).tick = s.tick := rfl
@[simp] theorem takeTrap_softint (s : State) (tt : BitVec 9) : (takeTrap s tt).softint = s.softint := rfl
@[simp] theorem takeTrap_tickCmpr (s : State) (tt : BitVec 9) : (takeTrap s tt).tickCmpr = s.tickCmpr := rfl
@[simp] theorem takeTrap_stick (s : State) (tt : BitVec 9) : (takeTrap s tt).stick = s.stick := rfl
@[simp] theorem takeTrap_stickCmpr (s : State) (tt : BitVec 9) : (takeTrap s tt).stickCmpr = s.stickCmpr := rfl
@[simp] theorem takeTrap_cwp (s : State) (tt : BitVec 9) : (takeTrap s tt).cwp = trapCwp s tt := rfl
@[simp] theorem takeTrap_cansave (s : State) (tt : BitVec 9) : (takeTrap s tt).cansave = s.cansave := rfl
@[simp] theorem takeTrap_canrestore (s : State) (tt : BitVec 9) : (takeTrap s tt).canrestore = s.canrestore := rfl
@[simp] theorem takeTrap_cleanwin (s : State) (tt : BitVec 9) : (takeTrap s tt).cleanwin = s.cleanwin := rfl
@[simp] theorem takeTrap_otherwin (s : State) (tt : BitVec 9) : (takeTrap s tt).otherwin = s.otherwin := rfl
@[simp] theorem takeTrap_wstate (s : State) (tt : BitVec 9) : (takeTrap s tt).wstate = s.wstate := rfl
@[simp] theorem takeTrap_trapStack (s : State) (tt : BitVec 9) : (takeTrap s tt).trapStack = s.trapStack.setIfInBounds s.tl.val (savedFrame s tt) := rfl
@[simp] theorem takeTrap_tba (s : State) (tt : BitVec 9) : (takeTrap s tt).tba = s.tba := rfl
@[simp] theorem takeTrap_pstate (s : State) (tt : BitVec 9) : (takeTrap s tt).pstate = trapPstate s := rfl
@[simp] theorem takeTrap_tl (s : State) (tt : BitVec 9) : (takeTrap s tt).tl = nextLevel s.tl := rfl
@[simp] theorem takeTrap_pil (s : State) (tt : BitVec 9) : (takeTrap s tt).pil = s.pil := rfl
@[simp] theorem takeTrap_gl (s : State) (tt : BitVec 9) : (takeTrap s tt).gl = nextLevel s.gl := rfl
@[simp] theorem takeTrap_scratchpad (s : State) (tt : BitVec 9) : (takeTrap s tt).scratchpad = s.scratchpad := rfl
@[simp] theorem takeTrap_primaryContext0 (s : State) (tt : BitVec 9) : (takeTrap s tt).primaryContext0 = s.primaryContext0 := rfl
@[simp] theorem takeTrap_primaryContext1 (s : State) (tt : BitVec 9) : (takeTrap s tt).primaryContext1 = s.primaryContext1 := rfl
@[simp] theorem takeTrap_secondaryContext0 (s : State) (tt : BitVec 9) : (takeTrap s tt).secondaryContext0 = s.secondaryContext0 := rfl
@[simp] theorem takeTrap_secondaryContext1 (s : State) (tt : BitVec 9) : (takeTrap s tt).secondaryContext1 = s.secondaryContext1 := rfl
@[simp] theorem takeTrap_cpuMondo (s : State) (tt : BitVec 9) : (takeTrap s tt).cpuMondo = s.cpuMondo := rfl
@[simp] theorem takeTrap_devMondo (s : State) (tt : BitVec 9) : (takeTrap s tt).devMondo = s.devMondo := rfl
@[simp] theorem takeTrap_resError (s : State) (tt : BitVec 9) : (takeTrap s tt).resError = s.resError := rfl
@[simp] theorem takeTrap_nonresError (s : State) (tt : BitVec 9) : (takeTrap s tt).nonresError = s.nonresError := rfl
@[simp] theorem takeTrap_mem (s : State) (tt : BitVec 9) : (takeTrap s tt).mem = s.mem := rfl
@[simp] theorem takeTrap_ioRegion (s : State) (tt : BitVec 9) : (takeTrap s tt).ioRegion = s.ioRegion := rfl
@[simp] theorem takeTrap_ioLog (s : State) (tt : BitVec 9) : (takeTrap s tt).ioLog = s.ioLog := rfl
@[simp] theorem takeTrap_tlb (s : State) (tt : BitVec 9) : (takeTrap s tt).tlb = s.tlb := rfl
@[simp] theorem takeTrap_extReq (s : State) (tt : BitVec 9) : (takeTrap s tt).extReq = s.extReq := rfl
@[simp] theorem takeTrap_inputs (s : State) (tt : BitVec 9) : (takeTrap s tt).inputs = s.inputs := rfl
@[simp] theorem takeTrap_insnWatch (s : State) (tt : BitVec 9) : (takeTrap s tt).insnWatch = s.insnWatch := rfl
@[simp] theorem takeTrap_dataWatch (s : State) (tt : BitVec 9) : (takeTrap s tt).dataWatch = s.dataWatch := rfl
@[simp] theorem takeTrap_freeCount (s : State) (tt : BitVec 9) : (takeTrap s tt).freeCount = s.freeCount := rfl
@[simp] theorem takeTrap_trapped (s : State) (tt : BitVec 9) : (takeTrap s tt).trapped = true := rfl

/-! ### return from a trap -/

@[simp] theorem returnFromTrap_globals (s : State) : (returnFromTrap s).globals = s.globals := rfl
@[simp] theorem returnFromTrap_windows (s : State) : (returnFromTrap s).windows = s.windows := rfl
@[simp] theorem returnFromTrap_pc (s : State) : (returnFromTrap s).pc = s.pc := rfl
@[simp] theorem returnFromTrap_npc (s : State) : (returnFromTrap s).npc = s.npc := rfl
@[simp] theorem returnFromTrap_fregs (s : State) : (returnFromTrap s).fregs = s.fregs := rfl
@[simp] theorem returnFromTrap_fsr (s : State) : (returnFromTrap s).fsr = s.fsr := rfl
@[simp] theorem returnFromTrap_fprs (s : State) : (returnFromTrap s).fprs = s.fprs := rfl
@[simp] theorem returnFromTrap_gsr (s : State) : (returnFromTrap s).gsr = s.gsr := rfl
@[simp] theorem returnFromTrap_y (s : State) : (returnFromTrap s).y = s.y := rfl
@[simp] theorem returnFromTrap_ccr (s : State) : (returnFromTrap s).ccr = (currentFrame s).tstate.extractLsb' 32 8 := rfl
@[simp] theorem returnFromTrap_asi (s : State) : (returnFromTrap s).asi = (currentFrame s).tstate.extractLsb' 24 8 := rfl
@[simp] theorem returnFromTrap_tick (s : State) : (returnFromTrap s).tick = s.tick := rfl
@[simp] theorem returnFromTrap_softint (s : State) : (returnFromTrap s).softint = s.softint := rfl
@[simp] theorem returnFromTrap_tickCmpr (s : State) : (returnFromTrap s).tickCmpr = s.tickCmpr := rfl
@[simp] theorem returnFromTrap_stick (s : State) : (returnFromTrap s).stick = s.stick := rfl
@[simp] theorem returnFromTrap_stickCmpr (s : State) : (returnFromTrap s).stickCmpr = s.stickCmpr := rfl
@[simp] theorem returnFromTrap_cwp (s : State) : (returnFromTrap s).cwp = (currentFrame s).tstate.extractLsb' 0 3 := rfl
@[simp] theorem returnFromTrap_cansave (s : State) : (returnFromTrap s).cansave = s.cansave := rfl
@[simp] theorem returnFromTrap_canrestore (s : State) : (returnFromTrap s).canrestore = s.canrestore := rfl
@[simp] theorem returnFromTrap_cleanwin (s : State) : (returnFromTrap s).cleanwin = s.cleanwin := rfl
@[simp] theorem returnFromTrap_otherwin (s : State) : (returnFromTrap s).otherwin = s.otherwin := rfl
@[simp] theorem returnFromTrap_wstate (s : State) : (returnFromTrap s).wstate = s.wstate := rfl
@[simp] theorem returnFromTrap_trapStack (s : State) : (returnFromTrap s).trapStack = s.trapStack := rfl
@[simp] theorem returnFromTrap_tba (s : State) : (returnFromTrap s).tba = s.tba := rfl
@[simp] theorem returnFromTrap_pstate (s : State) : (returnFromTrap s).pstate = (currentFrame s).tstate.extractLsb' 8 13 &&& pstateMask := rfl
@[simp] theorem returnFromTrap_tl (s : State) : (returnFromTrap s).tl = prevLevel s.tl := rfl
@[simp] theorem returnFromTrap_pil (s : State) : (returnFromTrap s).pil = s.pil := rfl
@[simp] theorem returnFromTrap_gl (s : State) : (returnFromTrap s).gl = restoredGl (currentFrame s).tstate := rfl
@[simp] theorem returnFromTrap_scratchpad (s : State) : (returnFromTrap s).scratchpad = s.scratchpad := rfl
@[simp] theorem returnFromTrap_primaryContext0 (s : State) : (returnFromTrap s).primaryContext0 = s.primaryContext0 := rfl
@[simp] theorem returnFromTrap_primaryContext1 (s : State) : (returnFromTrap s).primaryContext1 = s.primaryContext1 := rfl
@[simp] theorem returnFromTrap_secondaryContext0 (s : State) : (returnFromTrap s).secondaryContext0 = s.secondaryContext0 := rfl
@[simp] theorem returnFromTrap_secondaryContext1 (s : State) : (returnFromTrap s).secondaryContext1 = s.secondaryContext1 := rfl
@[simp] theorem returnFromTrap_cpuMondo (s : State) : (returnFromTrap s).cpuMondo = s.cpuMondo := rfl
@[simp] theorem returnFromTrap_devMondo (s : State) : (returnFromTrap s).devMondo = s.devMondo := rfl
@[simp] theorem returnFromTrap_resError (s : State) : (returnFromTrap s).resError = s.resError := rfl
@[simp] theorem returnFromTrap_nonresError (s : State) : (returnFromTrap s).nonresError = s.nonresError := rfl
@[simp] theorem returnFromTrap_mem (s : State) : (returnFromTrap s).mem = s.mem := rfl
@[simp] theorem returnFromTrap_ioRegion (s : State) : (returnFromTrap s).ioRegion = s.ioRegion := rfl
@[simp] theorem returnFromTrap_ioLog (s : State) : (returnFromTrap s).ioLog = s.ioLog := rfl
@[simp] theorem returnFromTrap_tlb (s : State) : (returnFromTrap s).tlb = s.tlb := rfl
@[simp] theorem returnFromTrap_extReq (s : State) : (returnFromTrap s).extReq = s.extReq := rfl
@[simp] theorem returnFromTrap_inputs (s : State) : (returnFromTrap s).inputs = s.inputs := rfl
@[simp] theorem returnFromTrap_insnWatch (s : State) : (returnFromTrap s).insnWatch = s.insnWatch := rfl
@[simp] theorem returnFromTrap_dataWatch (s : State) : (returnFromTrap s).dataWatch = s.dataWatch := rfl
@[simp] theorem returnFromTrap_freeCount (s : State) : (returnFromTrap s).freeCount = s.freeCount := rfl
@[simp] theorem returnFromTrap_trapped (s : State) : (returnFromTrap s).trapped = s.trapped := rfl

/-! ### the frame of the trap level -/

@[simp] theorem setCurrentFrame_globals (s : State) (f : TrapFrame) : (setCurrentFrame s f).globals = s.globals := rfl
@[simp] theorem setCurrentFrame_windows (s : State) (f : TrapFrame) : (setCurrentFrame s f).windows = s.windows := rfl
@[simp] theorem setCurrentFrame_pc (s : State) (f : TrapFrame) : (setCurrentFrame s f).pc = s.pc := rfl
@[simp] theorem setCurrentFrame_npc (s : State) (f : TrapFrame) : (setCurrentFrame s f).npc = s.npc := rfl
@[simp] theorem setCurrentFrame_fregs (s : State) (f : TrapFrame) : (setCurrentFrame s f).fregs = s.fregs := rfl
@[simp] theorem setCurrentFrame_fsr (s : State) (f : TrapFrame) : (setCurrentFrame s f).fsr = s.fsr := rfl
@[simp] theorem setCurrentFrame_fprs (s : State) (f : TrapFrame) : (setCurrentFrame s f).fprs = s.fprs := rfl
@[simp] theorem setCurrentFrame_gsr (s : State) (f : TrapFrame) : (setCurrentFrame s f).gsr = s.gsr := rfl
@[simp] theorem setCurrentFrame_y (s : State) (f : TrapFrame) : (setCurrentFrame s f).y = s.y := rfl
@[simp] theorem setCurrentFrame_ccr (s : State) (f : TrapFrame) : (setCurrentFrame s f).ccr = s.ccr := rfl
@[simp] theorem setCurrentFrame_asi (s : State) (f : TrapFrame) : (setCurrentFrame s f).asi = s.asi := rfl
@[simp] theorem setCurrentFrame_tick (s : State) (f : TrapFrame) : (setCurrentFrame s f).tick = s.tick := rfl
@[simp] theorem setCurrentFrame_softint (s : State) (f : TrapFrame) : (setCurrentFrame s f).softint = s.softint := rfl
@[simp] theorem setCurrentFrame_tickCmpr (s : State) (f : TrapFrame) : (setCurrentFrame s f).tickCmpr = s.tickCmpr := rfl
@[simp] theorem setCurrentFrame_stick (s : State) (f : TrapFrame) : (setCurrentFrame s f).stick = s.stick := rfl
@[simp] theorem setCurrentFrame_stickCmpr (s : State) (f : TrapFrame) : (setCurrentFrame s f).stickCmpr = s.stickCmpr := rfl
@[simp] theorem setCurrentFrame_cwp (s : State) (f : TrapFrame) : (setCurrentFrame s f).cwp = s.cwp := rfl
@[simp] theorem setCurrentFrame_cansave (s : State) (f : TrapFrame) : (setCurrentFrame s f).cansave = s.cansave := rfl
@[simp] theorem setCurrentFrame_canrestore (s : State) (f : TrapFrame) : (setCurrentFrame s f).canrestore = s.canrestore := rfl
@[simp] theorem setCurrentFrame_cleanwin (s : State) (f : TrapFrame) : (setCurrentFrame s f).cleanwin = s.cleanwin := rfl
@[simp] theorem setCurrentFrame_otherwin (s : State) (f : TrapFrame) : (setCurrentFrame s f).otherwin = s.otherwin := rfl
@[simp] theorem setCurrentFrame_wstate (s : State) (f : TrapFrame) : (setCurrentFrame s f).wstate = s.wstate := rfl
@[simp] theorem setCurrentFrame_trapStack (s : State) (f : TrapFrame) : (setCurrentFrame s f).trapStack = s.trapStack.setIfInBounds (s.tl.val - 1) f := rfl
@[simp] theorem setCurrentFrame_tba (s : State) (f : TrapFrame) : (setCurrentFrame s f).tba = s.tba := rfl
@[simp] theorem setCurrentFrame_pstate (s : State) (f : TrapFrame) : (setCurrentFrame s f).pstate = s.pstate := rfl
@[simp] theorem setCurrentFrame_tl (s : State) (f : TrapFrame) : (setCurrentFrame s f).tl = s.tl := rfl
@[simp] theorem setCurrentFrame_pil (s : State) (f : TrapFrame) : (setCurrentFrame s f).pil = s.pil := rfl
@[simp] theorem setCurrentFrame_gl (s : State) (f : TrapFrame) : (setCurrentFrame s f).gl = s.gl := rfl
@[simp] theorem setCurrentFrame_scratchpad (s : State) (f : TrapFrame) : (setCurrentFrame s f).scratchpad = s.scratchpad := rfl
@[simp] theorem setCurrentFrame_primaryContext0 (s : State) (f : TrapFrame) : (setCurrentFrame s f).primaryContext0 = s.primaryContext0 := rfl
@[simp] theorem setCurrentFrame_primaryContext1 (s : State) (f : TrapFrame) : (setCurrentFrame s f).primaryContext1 = s.primaryContext1 := rfl
@[simp] theorem setCurrentFrame_secondaryContext0 (s : State) (f : TrapFrame) : (setCurrentFrame s f).secondaryContext0 = s.secondaryContext0 := rfl
@[simp] theorem setCurrentFrame_secondaryContext1 (s : State) (f : TrapFrame) : (setCurrentFrame s f).secondaryContext1 = s.secondaryContext1 := rfl
@[simp] theorem setCurrentFrame_cpuMondo (s : State) (f : TrapFrame) : (setCurrentFrame s f).cpuMondo = s.cpuMondo := rfl
@[simp] theorem setCurrentFrame_devMondo (s : State) (f : TrapFrame) : (setCurrentFrame s f).devMondo = s.devMondo := rfl
@[simp] theorem setCurrentFrame_resError (s : State) (f : TrapFrame) : (setCurrentFrame s f).resError = s.resError := rfl
@[simp] theorem setCurrentFrame_nonresError (s : State) (f : TrapFrame) : (setCurrentFrame s f).nonresError = s.nonresError := rfl
@[simp] theorem setCurrentFrame_mem (s : State) (f : TrapFrame) : (setCurrentFrame s f).mem = s.mem := rfl
@[simp] theorem setCurrentFrame_ioRegion (s : State) (f : TrapFrame) : (setCurrentFrame s f).ioRegion = s.ioRegion := rfl
@[simp] theorem setCurrentFrame_ioLog (s : State) (f : TrapFrame) : (setCurrentFrame s f).ioLog = s.ioLog := rfl
@[simp] theorem setCurrentFrame_tlb (s : State) (f : TrapFrame) : (setCurrentFrame s f).tlb = s.tlb := rfl
@[simp] theorem setCurrentFrame_extReq (s : State) (f : TrapFrame) : (setCurrentFrame s f).extReq = s.extReq := rfl
@[simp] theorem setCurrentFrame_inputs (s : State) (f : TrapFrame) : (setCurrentFrame s f).inputs = s.inputs := rfl
@[simp] theorem setCurrentFrame_insnWatch (s : State) (f : TrapFrame) : (setCurrentFrame s f).insnWatch = s.insnWatch := rfl
@[simp] theorem setCurrentFrame_dataWatch (s : State) (f : TrapFrame) : (setCurrentFrame s f).dataWatch = s.dataWatch := rfl
@[simp] theorem setCurrentFrame_freeCount (s : State) (f : TrapFrame) : (setCurrentFrame s f).freeCount = s.freeCount := rfl
@[simp] theorem setCurrentFrame_trapped (s : State) (f : TrapFrame) : (setCurrentFrame s f).trapped = s.trapped := rfl

end Sys2Proof.Machine
end

