-- ==== Sys2Proof/Laws/Outcome.lean ====
section
/-! SUPPORT. What each shared operation can answer, said once: its next states, and when it has one. -/

namespace Sys2Proof.Machine

/-! ### Raising an exception (60_exceptions.md R1600, R1610) -/

/-- A raised exception goes on exactly where it is delivered in privileged mode, and there it is trap entry. -/
theorem raiseAt_eq_next_iff {s t : State} {e : Exception} {info : Option AccessInfo} :
    raiseAt s e info = .next t ↔ e.toPrivileged = true ∧ s.tl.val < 2 ∧ t = takeTrap s e.tt := by
  have hd : (e.toPrivileged && decide (s.tl.val < Config.maxPtl)) = true ↔ e.toPrivileged = true ∧ s.tl.val < 2 := by
    rw [Bool.and_eq_true]
    exact and_congr_right fun _ => decide_eq_true_iff
  unfold raiseAt leave
  split
  · rename_i h
    obtain ⟨h1, h2⟩ := hd.1 h
    rw [Host.Outcome.next.injEq]
    exact ⟨fun e => ⟨h1, h2, e.symm⟩, fun e => e.2.2.symm⟩
  · rename_i h
    exact ⟨fun e => (by cases e), fun e => absurd (hd.2 ⟨e.1, e.2.1⟩) h⟩

theorem raise_eq_next_iff {s t : State} {e : Exception} :
    raise s e = .next t ↔ e.toPrivileged = true ∧ s.tl.val < 2 ∧ t = takeTrap s e.tt :=
  raiseAt_eq_next_iff

/-- Elsewhere it leaves to hyperprivileged mode. -/
theorem raiseAt_eq_fault {s : State} {e : Exception} {info : Option AccessInfo}
    (h : e.toPrivileged = false ∨ s.tl = 2) :
    raiseAt s e info = .fault (.exitToHyperprivileged (.trap e.tt) s.pc s.npc info) := by
  unfold raiseAt leave
  rw [if_neg]
  rcases h with h | h <;> simp [h, Config.maxPtl]

/-- The address an exit reports: the low half under `PSTATE.am` through a translating ASI, else the effective address (20_memory.md R205). -/
theorem faultAddress_eq (s : State) (g : Target) :
    faultAddress s g
      = if (asiInfo g.asi).kind = .translating ∧ s.am = true then BitVec.ofNat 64 (g.ea.toNat % 2 ^ 32) else g.ea := by
  unfold faultAddress accessVa amMask
  split
  · rename_i h
    rw [h]
    by_cases ha : s.am = true
    · simp only [ha, if_true, and_self]
      apply BitVec.eq_of_toNat_eq
      simp
    · simp [ha]
  · rename_i h
    simp [h]
  · rename_i h
    simp [h]

/-- An access that stops goes on only by a trap to privileged mode. -/
theorem stopAccess_eq_next {s t : State} {g : Target} {stop : AccessStop} (h : stopAccess s g stop = .next t) :
    ∃ e, stop = .exception e ∧ e.toPrivileged = true ∧ s.tl.val < 2 ∧ t = takeTrap s e.tt := by
  cases stop with
  | exception e => exact ⟨e, rfl, raiseAt_eq_next_iff.1 h⟩
  | mmu ev => cases h

/-! ### Checks -/

@[simp] theorem requireFpu_of_enabled {s : State} (k : Outcome) (h : fpuEnabled s = true) : requireFpu s k = k :=
  if_pos h

theorem requireFpu_eq_next {s t : State} {k : Outcome} (h : requireFpu s k = .next t) :
    k = .next t ∨ (s.tl.val < 2 ∧ t = takeTrap s 0x020) := by
  unfold requireFpu at h
  split at h
  · exact Or.inl h
  · exact Or.inr (raise_eq_next_iff.1 h).2

@[simp] theorem requirePriv_of_priv {s : State} (k : Outcome) (h : s.priv = true) : requirePriv s k = k :=
  if_pos h

theorem requirePriv_eq_next {s t : State} {k : Outcome} (h : requirePriv s k = .next t) :
    k = .next t ∨ (s.tl.val < 2 ∧ t = takeTrap s 0x011) := by
  unfold requirePriv at h
  split at h
  · exact Or.inl h
  · exact Or.inr (raise_eq_next_iff.1 h).2

@[simp] theorem tctCheck_of_clear {s : State} (k : Outcome) (h : s.tct = false) : tctCheck s k = k := by
  simp [tctCheck, h]

theorem tctCheck_eq_next {s t : State} {k : Outcome} (h : tctCheck s k = .next t) :
    k = .next t ∨ (s.tl.val < 2 ∧ t = takeTrap s 0x074) := by
  unfold tctCheck at h
  split at h
  · exact Or.inr (raise_eq_next_iff.1 h).2
  · exact Or.inl h

/-! ### TICK and STICK (44_window_and_state.md R1060) -/

/-- At the parameter's default `npt` alone bars nonprivileged software from a counter (log 14). -/
@[simp] theorem counterDenied_default (s : State) (counter : Word64) :
    counterDenied Config.stickPrivAccessDisabled s counter = (!s.priv && counter.msb) := by
  simp [counterDenied, Config.stickPrivAccessDisabled]

/-- At the parameter's default STICK is read as TICK is. -/
@[simp] theorem stickDenied_default (s : State) :
    stickDenied Config.stickPrivAccessDisabled s = (!s.priv && s.stick.msb) := by
  simp [stickDenied, counterDenied, Config.stickPrivAccessDisabled]

theorem readCounter_eq_next {s t : State} {rd : RegNum} {counter : Word64} {denied : Bool}
    (h : readCounter s rd counter denied = .next t) : denied = false ∧ finishReg s rd counter = .next t := by
  cases denied with
  | false => exact ⟨rfl, h⟩
  | true => exact absurd (raise_eq_next_iff (e := .privilegedAction).1 h).1 (by decide)

/-! ### Memory -/

@[simp] theorem withRead_ok {α : Type} (v : α) (k : α → Outcome) : withRead (.ok v) k = k v := rfl

theorem withRead_eq_next {α : Type} {r : Except Nat α} {k : α → Outcome} {t : State} (h : withRead r k = .next t) :
    ∃ v, r = .ok v ∧ k v = .next t := by
  cases r with
  | error a => cases h
  | ok v => exact ⟨v, rfl, h⟩

theorem withData_of_memory {s : State} {acc : Access} {g : Target} {ra : Nat} {little : Bool}
    (k : Nat → Bool → Outcome) (h : dataAccess s acc g = .ok (.memory ra little)) :
    withData s acc g k = k ra little := by
  simp [withData, h]

theorem withData_eq_next {s t : State} {acc : Access} {g : Target} {k : Nat → Bool → Outcome}
    (h : withData s acc g k = .next t) :
    (∃ ra little, dataAccess s acc g = .ok (.memory ra little) ∧ k ra little = .next t)
      ∨ ∃ e, t = takeTrap s e := by
  unfold withData at h
  split at h
  · obtain ⟨e, -, -, -, rfl⟩ := stopAccess_eq_next h
    exact Or.inr ⟨_, rfl⟩
  · rename_i ra little e
    exact Or.inl ⟨ra, little, e, h⟩
  · obtain ⟨e, -, -, -, rfl⟩ := stopAccess_eq_next h
    exact Or.inr ⟨_, rfl⟩

/-- A load of real memory goes on with the state as it is, and reads memory. -/
theorem withLoad_of_memory {s : State} {acc : Access} {g : Target} {ra : Nat} {little : Bool}
    (k : State → Memory → Nat → Bool → Outcome) (h : dataAccess s acc g = .ok (.memory ra little))
    (hm : ∀ a, ra ≤ a → a < ra + acc.width → isIo s a = false) : withLoad s acc g k = k s s.mem ra little := by
  rw [withLoad, withData_of_memory _ h, afterRead_of_memory hm, readView_of_memory hm]

theorem withLoad_eq_next {s t : State} {acc : Access} {g : Target} {k : State → Memory → Nat → Bool → Outcome}
    (h : withLoad s acc g k = .next t) :
    (∃ ra little, dataAccess s acc g = .ok (.memory ra little)
        ∧ k (afterRead s ra acc.width) (readView s ra acc.width) ra little = .next t)
      ∨ ∃ e, t = takeTrap s e :=
  withData_eq_next h

/-! ### Translation (20_memory.md R206) -/

/-- At the default of `VA_BITS` every virtual address is in range (log 6). -/
@[simp] theorem virtualAddressOk_eq_true (va : Word64) : virtualAddressOk va = true := by
  have h1 := va.le_toInt
  have h2 := va.toInt_lt
  simp only [virtualAddressOk, Config.vaBits, Bool.or_eq_true, beq_iff_eq]
  omega

/-- Translation is the lookup, its real address held against `RA_BITS` (20_memory.md R285, R206). -/
theorem translate_eq (s : State) (ctx : AsiContext) (va : Word64) :
    translate s ctx va = match lookup s ctx va with
      | .error ev => .error ev
      | .ok t => if realAddressOk t.ra then .ok t else .error .realAddressRange := by
  rw [translate, virtualAddressOk_eq_true]
  rfl

/-! ### Floating-point operations (45_floating_point.md R1155) -/

/-- An FPop completes, or traps with `ftt` 1. -/
theorem fpFinish_eq_next {s t : State} {e : FpFlags} {write : State → State} (h : fpFinish s e write = .next t) :
    t = advance (write { s with
        fsr := accrue (withFttCexc s.fsr 0 (ieeeDecision (trapEnable s.fsr) e).1) (ieeeDecision (trapEnable s.fsr) e).1 })
      ∨ (s.tl.val < 2
        ∧ t = takeTrap { s with fsr := withFttCexc s.fsr 1 (ieeeDecision (trapEnable s.fsr) e).1 } 0x021) := by
  unfold fpFinish at h
  simp only at h
  split at h
  · exact Or.inr (raise_eq_next_iff.1 h).2
  · exact Or.inl (by cases h; rfl)

/-- Where the parameter says so, an FPop traps with `ftt` 2 and changes nothing else (45_floating_point.md R1157). -/
theorem unlessUnfinished_true (s : State) (k : Outcome) :
    unlessUnfinished true s k
      = raise { s with fsr := withFttCexc s.fsr 2 (s.fsr.extractLsb' 0 5) } .fpExceptionOther := rfl

@[simp] theorem unlessUnfinished_false (s : State) (k : Outcome) : unlessUnfinished false s k = k := rfl

theorem unlessUnfinished_eq_next {u : Bool} {s t : State} {k : Outcome} (h : unlessUnfinished u s k = .next t) :
    k = .next t
      ∨ (s.tl.val < 2 ∧ t = takeTrap { s with fsr := withFttCexc s.fsr 2 (s.fsr.extractLsb' 0 5) } 0x022) := by
  cases u with
  | false => exact Or.inl h
  | true => exact Or.inr (raise_eq_next_iff.1 h).2

/-- At the parameter's default, `unfinished` adds no check to that for the FPU (log 26). -/
@[simp] theorem requireFinished_eq (s : State) (insn : Config.UnfinishedOp) (operands : List Word64) (k : Outcome) :
    requireFinished s insn operands k = requireFpu s k := rfl

theorem requireFinished_eq_next {s t : State} {insn : Config.UnfinishedOp} {operands : List Word64} {k : Outcome}
    (h : requireFinished s insn operands k = .next t) :
    k = .next t ∨ (s.tl.val < 2
      ∧ (t = takeTrap s 0x020
        ∨ t = takeTrap { s with fsr := withFttCexc s.fsr 2 (s.fsr.extractLsb' 0 5) } 0x022)) := by
  rcases requireFpu_eq_next h with h | ⟨hl, ht⟩
  · rcases unlessUnfinished_eq_next h with h | ⟨hl, ht⟩
    · exact Or.inl h
    · exact Or.inr ⟨hl, Or.inr ht⟩
  · exact Or.inr ⟨hl, Or.inl ht⟩

/-- Nothing detected, nothing trapped. -/
@[simp] theorem ieeeDecision_none (tem : BitVec 5) : ieeeDecision tem .none = (0, false) := by
  simp [ieeeDecision, FpFlags.none, FpFlags.mask, bit]

/-! ### A step (60_exceptions.md R1585) -/

/-- What a move of the environment leaves of memory: the stores of other strands, made (70_reset_and_hazards.md R1772). -/
@[simp] theorem applyInput_mem (s : State) (i : EnvInput) : (applyInput s i).mem = s.mem.writeBytes i.stores := rfl

/-- With no move left to read, the environment stores nothing. -/
theorem advanceEnvironment_mem_of_quiet {s : State} (h : s.inputs = []) : (advanceEnvironment s).mem = s.mem := by
  simp only [advanceEnvironment, h]
  rfl

/-- A step's result is the instruction's own, or a disrupting trap. -/
theorem commit_eq_next {s t : State} {o : Outcome} (h : commit s o = .next t) :
    o = .next t ∨ ∃ d, pendingDisrupting s = some d ∧ t = takeTrap s d.tt := by
  unfold commit at h
  split at h
  · exact Or.inl h
  · split at h
    · rename_i d hd
      exact Or.inr ⟨d, hd, by cases h; rfl⟩
    · exact Or.inl h

theorem withFetch_eq_next {s t : State} {k : State → Word32 → Outcome} (h : withFetch s k = .next t) :
    (∃ ra w, fetchAddress s = .ok ra ∧ (readView s ra 4).readWord false ra = .ok w ∧ k (afterRead s ra 4) w = .next t)
      ∨ ∃ e, t = takeTrap s e := by
  unfold withFetch at h
  split at h
  · obtain ⟨e, -, -, -, rfl⟩ := stopAccess_eq_next h
    exact Or.inr ⟨_, rfl⟩
  · rename_i ra e
    obtain ⟨w, hw, hk⟩ := withRead_eq_next h
    exact Or.inl ⟨ra, w, e, hw, hk⟩

end Sys2Proof.Machine
end

