-- ==== Sys2Proof/Laws/Access.lean ====
section
/-! SUPPORT. The access procedure of 20_memory.md R300, said once: what an admitted access does, what one that reaches a real address has passed, and what may stop one. -/

namespace Sys2Proof.Machine

/-! ### The checks it is made of -/

/-- The ASIs a mode may use (20_memory.md R212). -/
theorem asiAllowed_eq_true_iff {s : State} {asi : Asi} :
    asiAllowed s asi = true
      ↔ ¬((s.priv = false ∧ asi.toNat ≤ 0x7F) ∨ (s.priv = true ∧ 0x30 ≤ asi.toNat ∧ asi.toNat ≤ 0x7F)) := by
  cases h : s.priv <;> simp [asiAllowed, h] <;> omega

/-- The watchpoint matches where it is set for accesses of the kind and is one of the bytes accessed (20_memory.md R296). -/
theorem dataWatchHit_eq_true_iff {s : State} {va : Word64} {width : Nat} {writes : Bool} :
    dataWatchHit s va width writes = true
      ↔ ∃ w ∈ s.dataWatch, (if writes then w.onStore else w.onLoad) = true
          ∧ va.toNat ≤ w.address.toNat ∧ w.address.toNat < va.toNat + width := by
  unfold dataWatchHit
  cases s.dataWatch <;> simp [and_assoc]

/-- What check_data may find (20_memory.md R286). -/
theorem checkData_mem {s : State} {attr : PageAttr} {asi : Asi} {writes cacheableOnly : Bool} {stop : AccessStop}
    (h : checkData s attr asi writes cacheableOnly = some stop) :
    stop ∈ [.exception .daePrivilegeViolation, .exception .daeNcPage, .exception .daeNfoPage,
      .exception .daeSideEffectPage, .mmu .writeProtection] := by
  unfold checkData at h
  split_ifs at h <;> cases h <;> simp

/-- What misaligned addresses raise (20_memory.md R245, R246). -/
theorem Alignment.check_mem {a : Alignment} {ea : Word64} {e : Exception} (h : a.check ea = some e) :
    e ∈ [.memAddressNotAligned, .lddfMemAddressNotAligned, .stdfMemAddressNotAligned] := by
  unfold Alignment.check at h
  split at h <;> split_ifs at h <;> cases h <;> simp

/-! ### The procedure -/

/-- An access that is aligned and whose ASI, where it is explicit, the mode and the instruction may use goes by the kind of its ASI (20_memory.md R300 steps 6 and 8). -/
theorem dataAccess_of_admitted {s : State} {acc : Access} {g : Target} (ha : acc.align.check g.ea = none)
    (he : g.explicit = true → asiAllowed s g.asi = true ∧ acc.use.valid (asiClass g.asi) = true) :
    dataAccess s acc g = match (asiInfo g.asi).kind with
      | .translating =>
        if dataWatchHit s (accessVa s g) acc.width acc.writes then .error (.exception .vaWatchpoint)
        else translatedPlace s acc g
      | .real => realPlace acc g
      | .nontranslating => .ok .register := by
  unfold dataAccess
  rw [ha]
  cases hx : g.explicit with
  | false => rfl
  | true =>
    obtain ⟨h1, h2⟩ := he hx
    simp only [AsiUse.misuses, h1, h2, Bool.not_true, Bool.and_false, Bool.false_and]
    rfl

/-- An access that is not stopped has passed the alignment and ASI checks (20_memory.md R300 steps 3, 4, 5 and 7). -/
theorem admitted_of_dataAccess {s : State} {acc : Access} {g : Target} {p : Place} (h : dataAccess s acc g = .ok p) :
    acc.align.check g.ea = none
      ∧ (g.explicit = true → asiAllowed s g.asi = true ∧ acc.use.valid (asiClass g.asi) = true) := by
  unfold dataAccess at h
  split at h
  · cases h
  · split at h
    · cases h
    · rename_i ha
      split at h
      · cases h
      · rename_i h1
        split at h
        · cases h
        · rename_i h2
          exact ⟨ha, fun hx => by simpa [hx] using And.intro h1 h2⟩

/-- The exceptions of an access that are delivered in hyperprivileged mode (60_exceptions.md R1570). -/
def accessExceptions : List Exception :=
  [.daeInvalidAsi, .daePrivilegeViolation, .daeNcPage, .daeNfoPage, .daeSideEffectPage, .memAddressNotAligned,
   .lddfMemAddressNotAligned, .stdfMemAddressNotAligned, .privilegedAction]

/-- What stops an access: an event of the MMU, VA_watchpoint, or one of those. -/
def IsAccessStop (stop : AccessStop) : Prop :=
  (∃ ev, stop = .mmu ev) ∨ stop = .exception .vaWatchpoint ∨ ∃ e ∈ accessExceptions, stop = .exception e

theorem isAccessStop_exception {e : Exception} (h : e ∈ accessExceptions) : IsAccessStop (.exception e) :=
  .inr (.inr ⟨e, h, rfl⟩)

theorem translatedPlace_eq_error {s : State} {acc : Access} {g : Target} {stop : AccessStop}
    (h : translatedPlace s acc g = .error stop) : IsAccessStop stop := by
  unfold translatedPlace at h
  split at h
  · cases h
    exact .inl ⟨_, rfl⟩
  · split at h
    · rename_i hc
      cases h
      have := checkData_mem hc
      simp only [List.mem_cons, List.not_mem_nil, or_false] at this
      rcases this with rfl | rfl | rfl | rfl | rfl
      case inr.inr.inr.inr => exact .inl ⟨_, rfl⟩
      all_goals exact isAccessStop_exception (by simp [accessExceptions])
    · cases h

theorem realPlace_eq_error {acc : Access} {g : Target} {stop : AccessStop} (h : realPlace acc g = .error stop) :
    IsAccessStop stop := by
  unfold realPlace at h
  simp only at h
  split at h
  · cases h
    exact .inl ⟨_, rfl⟩
  · split at h <;> cases h
    exact isAccessStop_exception (by simp [accessExceptions])

/-- What may stop an access (20_memory.md R300). -/
theorem dataAccess_eq_error {s : State} {acc : Access} {g : Target} {stop : AccessStop}
    (h : dataAccess s acc g = .error stop) : IsAccessStop stop := by
  unfold dataAccess at h
  split at h
  · cases h
    exact isAccessStop_exception (by split <;> simp [accessExceptions])
  · split at h
    · rename_i e he
      cases h
      have := Alignment.check_mem he
      refine isAccessStop_exception ?_
      simp only [accessExceptions, List.mem_cons, List.not_mem_nil, or_false] at this ⊢
      tauto
    · split at h
      · cases h
        exact isAccessStop_exception (by simp [accessExceptions])
      · split at h
        · cases h
          exact isAccessStop_exception (by simp [accessExceptions])
        · split at h
          · split at h
            · cases h
              exact .inr (.inl rfl)
            · exact translatedPlace_eq_error h
          · exact realPlace_eq_error h
          · cases h

/-! ### What stops an access stops the instruction -/

theorem withData_of_error {s : State} {acc : Access} {g : Target} {stop : AccessStop} (k : Nat → Bool → Outcome)
    (h : dataAccess s acc g = .error stop) : withData s acc g k = stopAccess s g stop := by
  simp [withData, h]

theorem withLoad_of_error {s : State} {acc : Access} {g : Target} {stop : AccessStop}
    (k : State → Memory → Nat → Bool → Outcome) (h : dataAccess s acc g = .error stop) :
    withLoad s acc g k = stopAccess s g stop :=
  withData_of_error _ h

end Sys2Proof.Machine
end

