-- ==== Sys2Proof/Laws/Encoding.lean ====
section
/-! SUPPORT. The fields of an encoded word: each form written, then read (30_encoding.md R331 to R345). -/

namespace Sys2Proof

/-! ### Fields of the formats -/

@[simp] theorem fieldOp_format3 (op : BitVec 2) (rd : RegNum) (op3 : BitVec 6) (rs1 : RegNum) (low : BitVec 14) : fieldOp (format3 op rd op3 rs1 low) = op := by
  refine (BitVec.extractLsb'_append_eq_of_le (by decide)).trans ?_
  refine (BitVec.extractLsb'_append_eq_of_le (by decide)).trans ?_
  refine (BitVec.extractLsb'_append_eq_of_le (by decide)).trans ?_
  refine (BitVec.extractLsb'_append_eq_of_le (by decide)).trans ?_
  exact BitVec.extractLsb'_eq_self

@[simp] theorem fieldRd_format3 (op : BitVec 2) (rd : RegNum) (op3 : BitVec 6) (rs1 : RegNum) (low : BitVec 14) : fieldRd (format3 op rd op3 rs1 low) = rd := by
  refine (BitVec.extractLsb'_append_eq_of_le (by decide)).trans ?_
  refine (BitVec.extractLsb'_append_eq_of_le (by decide)).trans ?_
  refine (BitVec.extractLsb'_append_eq_of_le (by decide)).trans ?_
  refine (BitVec.extractLsb'_append_eq_of_add_le (by decide)).trans ?_
  exact BitVec.extractLsb'_eq_self

@[simp] theorem fieldOp3_format3 (op : BitVec 2) (rd : RegNum) (op3 : BitVec 6) (rs1 : RegNum) (low : BitVec 14) : fieldOp3 (format3 op rd op3 rs1 low) = op3 := by
  refine (BitVec.extractLsb'_append_eq_of_le (by decide)).trans ?_
  refine (BitVec.extractLsb'_append_eq_of_le (by decide)).trans ?_
  refine (BitVec.extractLsb'_append_eq_of_add_le (by decide)).trans ?_
  exact BitVec.extractLsb'_eq_self

@[simp] theorem fieldRs1_format3 (op : BitVec 2) (rd : RegNum) (op3 : BitVec 6) (rs1 : RegNum) (low : BitVec 14) : fieldRs1 (format3 op rd op3 rs1 low) = rs1 := by
  refine (BitVec.extractLsb'_append_eq_of_le (by decide)).trans ?_
  refine (BitVec.extractLsb'_append_eq_of_add_le (by decide)).trans ?_
  exact BitVec.extractLsb'_eq_self

@[simp] theorem fieldLow_format3 (op : BitVec 2) (rd : RegNum) (op3 : BitVec 6) (rs1 : RegNum) (low : BitVec 14) : fieldLow (format3 op rd op3 rs1 low) = low := by
  refine (BitVec.extractLsb'_append_eq_of_add_le (by decide)).trans ?_
  exact BitVec.extractLsb'_eq_self

@[simp] theorem fieldOp_format2 (top : BitVec 5) (op2 : BitVec 3) (low22 : BitVec 22) : fieldOp (format2 top op2 low22) = 0#2 := by
  refine (BitVec.extractLsb'_append_eq_of_le (by decide)).trans ?_
  refine (BitVec.extractLsb'_append_eq_of_le (by decide)).trans ?_
  refine (BitVec.extractLsb'_append_eq_of_le (by decide)).trans ?_
  exact BitVec.extractLsb'_eq_self

@[simp] theorem fieldRd_format2 (top : BitVec 5) (op2 : BitVec 3) (low22 : BitVec 22) : fieldRd (format2 top op2 low22) = top := by
  refine (BitVec.extractLsb'_append_eq_of_le (by decide)).trans ?_
  refine (BitVec.extractLsb'_append_eq_of_le (by decide)).trans ?_
  refine (BitVec.extractLsb'_append_eq_of_add_le (by decide)).trans ?_
  exact BitVec.extractLsb'_eq_self

@[simp] theorem fieldOp2_format2 (top : BitVec 5) (op2 : BitVec 3) (low22 : BitVec 22) : fieldOp2 (format2 top op2 low22) = op2 := by
  refine (BitVec.extractLsb'_append_eq_of_le (by decide)).trans ?_
  refine (BitVec.extractLsb'_append_eq_of_add_le (by decide)).trans ?_
  exact BitVec.extractLsb'_eq_self

@[simp] theorem fieldLow22_format2 (top : BitVec 5) (op2 : BitVec 3) (low22 : BitVec 22) : fieldLow22 (format2 top op2 low22) = low22 := by
  refine (BitVec.extractLsb'_append_eq_of_add_le (by decide)).trans ?_
  exact BitVec.extractLsb'_eq_self

@[simp] theorem fieldOp_format1 (disp30 : BitVec 30) : fieldOp (format1 disp30) = 1#2 := by
  refine (BitVec.extractLsb'_append_eq_of_le (by decide)).trans ?_
  exact BitVec.extractLsb'_eq_self

@[simp] theorem fieldDisp30_format1 (disp30 : BitVec 30) : fieldDisp30 (format1 disp30) = disp30 := by
  refine (BitVec.extractLsb'_append_eq_of_add_le (by decide)).trans ?_
  exact BitVec.extractLsb'_eq_self

/-! ### Fields of bits 13:0 -/

@[simp] theorem lowFpop_lowOpf (opf : BitVec 9) (rs2 : RegNum) : lowOpf (lowFpop opf rs2) = opf := by
  refine (BitVec.extractLsb'_append_eq_of_le (by decide)).trans ?_
  exact BitVec.extractLsb'_eq_self

@[simp] theorem lowFpop_lowRs2 (opf : BitVec 9) (rs2 : RegNum) : lowRs2 (lowFpop opf rs2) = rs2 := by
  refine (BitVec.extractLsb'_append_eq_of_add_le (by decide)).trans ?_
  exact BitVec.extractLsb'_eq_self

@[simp] theorem lowFma_lowRs3 (rs3 : RegNum) (op5 : BitVec 4) (rs2 : RegNum) : lowRs3 (lowFma rs3 op5 rs2) = rs3 := by
  refine (BitVec.extractLsb'_append_eq_of_le (by decide)).trans ?_
  refine (BitVec.extractLsb'_append_eq_of_le (by decide)).trans ?_
  exact BitVec.extractLsb'_eq_self

@[simp] theorem lowFma_lowOp5 (rs3 : RegNum) (op5 : BitVec 4) (rs2 : RegNum) : lowOp5 (lowFma rs3 op5 rs2) = op5 := by
  refine (BitVec.extractLsb'_append_eq_of_le (by decide)).trans ?_
  refine (BitVec.extractLsb'_append_eq_of_add_le (by decide)).trans ?_
  exact BitVec.extractLsb'_eq_self

@[simp] theorem lowFma_lowRs2 (rs3 : RegNum) (op5 : BitVec 4) (rs2 : RegNum) : lowRs2 (lowFma rs3 op5 rs2) = rs2 := by
  refine (BitVec.extractLsb'_append_eq_of_add_le (by decide)).trans ?_
  exact BitVec.extractLsb'_eq_self

/-! ### Operands: written, then read -/

/-- An append, its lower part read. -/
theorem extract_low {v w : Nat} (x : BitVec v) (y : BitVec w) : (x ++ y).extractLsb' 0 w = y :=
  (BitVec.extractLsb'_append_eq_of_add_le (by simp)).trans BitVec.extractLsb'_eq_self

/-- An append, its upper part read. -/
theorem extract_high {v w : Nat} (x : BitVec v) (y : BitVec w) : (x ++ y).extractLsb' w v = x := by
  refine (BitVec.extractLsb'_append_eq_of_le (Nat.le_refl w)).trans ?_
  simp

/-- Part of the lower part of an append. -/
theorem extract_within_low {v w s l : Nat} (x : BitVec v) (y : BitVec w) (h : s + l ≤ w) :
    (x ++ y).extractLsb' s l = y.extractLsb' s l :=
  BitVec.extractLsb'_append_eq_of_add_le h

/-- Part of the upper part of an append. -/
theorem extract_within_high {v w s l : Nat} (x : BitVec v) (y : BitVec w) (h : w ≤ s) :
    (x ++ y).extractLsb' s l = x.extractLsb' (s - w) l :=
  BitVec.extractLsb'_append_eq_of_le h

@[simp] theorem readRegImm13_low (o : RegOrImm 13) : readRegImm13 (lowRegImm13 o) = some o := by
  cases o with
  | reg r =>
    have h0 : (lowRegImm13 (.reg r)).extractLsb' 13 1 = 0#1 := extract_within_high _ _ (by decide)
    have h1 : (lowRegImm13 (.reg r)).extractLsb' 5 8 = 0#8 := extract_within_high _ _ (by decide)
    have h2 : (lowRegImm13 (.reg r)).extractLsb' 0 5 = r := extract_low _ _
    simp [readRegImm13, h0, h1, h2]
  | imm v =>
    have h0 : (lowRegImm13 (.imm v)).extractLsb' 13 1 = 1#1 := (extract_within_high _ _ (by decide)).trans (BitVec.extractLsb'_eq_self)
    have h1 : (lowRegImm13 (.imm v)).extractLsb' 0 13 = v := extract_low _ _
    simp [readRegImm13, h0, h1]

@[simp] theorem readShift32_low (o : RegOrImm 5) : readShift32 (lowShift32 o) = some o := by
  cases o with
  | reg r =>
    have h0 : (lowShift32 (.reg r)).extractLsb' 5 7 = 0#7 := extract_within_high _ _ (by decide)
    have h1 : (lowShift32 (.reg r)).extractLsb' 13 1 = 0#1 := extract_within_high _ _ (by decide)
    have h2 : (lowShift32 (.reg r)).extractLsb' 0 5 = r := extract_low _ _
    simp [readShift32, h0, h1, h2]
  | imm v =>
    have h0 : (lowShift32 (.imm v)).extractLsb' 5 7 = 0#7 := extract_within_high _ _ (by decide)
    have h1 : (lowShift32 (.imm v)).extractLsb' 13 1 = 1#1 := extract_within_high _ _ (by decide)
    have h2 : (lowShift32 (.imm v)).extractLsb' 0 5 = v := extract_low _ _
    simp [readShift32, h0, h1, h2]

@[simp] theorem readShift64_low (o : RegOrImm 6) : readShift64 (lowShift64 o) = some o := by
  cases o with
  | reg r =>
    have h0 : (lowShift64 (.reg r)).extractLsb' 5 7 = 0#7 := extract_within_high _ _ (by decide)
    have h1 : (lowShift64 (.reg r)).extractLsb' 13 1 = 0#1 := extract_within_high _ _ (by decide)
    have h2 : (lowShift64 (.reg r)).extractLsb' 0 5 = r := extract_low _ _
    simp [readShift64, h0, h1, h2]
  | imm v =>
    have h0 : (lowShift64 (.imm v)).extractLsb' 6 6 = 0#6 := extract_within_high _ _ (by decide)
    have h1 : (lowShift64 (.imm v)).extractLsb' 13 1 = 1#1 := extract_within_high _ _ (by decide)
    have h2 : (lowShift64 (.imm v)).extractLsb' 0 6 = v := extract_low _ _
    simp [readShift64, h0, h1, h2]

@[simp] theorem lowShift32_x (o : RegOrImm 5) : (lowShift32 o).extractLsb' 12 1 = 0#1 := by
  cases o <;> exact extract_within_high _ _ (by decide)

@[simp] theorem lowShift64_x (o : RegOrImm 6) : (lowShift64 o).extractLsb' 12 1 = 1#1 := by
  cases o <;> exact extract_within_high _ _ (by decide)

@[simp] theorem readAsi_low (o : AsiOperand) : readAsi (lowAsi o) = o := by
  cases o with
  | immAsi r a =>
    have h0 : (lowAsi (.immAsi r a)).extractLsb' 13 1 = 0#1 := (extract_within_high _ _ (by decide)).trans ((extract_within_high _ _ (by decide)).trans (BitVec.extractLsb'_eq_self))
    have h1 : (lowAsi (.immAsi r a)).extractLsb' 5 8 = a := (extract_within_high _ _ (by decide)).trans (extract_low _ _)
    have h2 : (lowAsi (.immAsi r a)).extractLsb' 0 5 = r := extract_low _ _
    simp [readAsi, h0, h1, h2]
  | asiReg v =>
    have h0 : (lowAsi (.asiReg v)).extractLsb' 13 1 = 1#1 := (extract_within_high _ _ (by decide)).trans (BitVec.extractLsb'_eq_self)
    have h1 : (lowAsi (.asiReg v)).extractLsb' 0 13 = v := extract_low _ _
    simp [readAsi, h0, h1]

@[simp] theorem readCas_low (rs2 : RegNum) (o : CasAsi) : readCas (lowCas rs2 o) = some o := by
  cases o with
  | immAsi a =>
    have h0 : (lowCas rs2 (.immAsi a)).extractLsb' 13 1 = 0#1 := (extract_within_high _ _ (by decide)).trans ((extract_within_high _ _ (by decide)).trans (BitVec.extractLsb'_eq_self))
    have h1 : (lowCas rs2 (.immAsi a)).extractLsb' 5 8 = a := (extract_within_high _ _ (by decide)).trans (extract_low _ _)
    simp [readCas, h0, h1]
  | asiReg =>
    have h0 : (lowCas rs2 .asiReg).extractLsb' 13 1 = 1#1 := extract_within_high _ _ (by decide)
    have h1 : (lowCas rs2 .asiReg).extractLsb' 5 8 = 0#8 := extract_within_high _ _ (by decide)
    simp [readCas, h0, h1]

@[simp] theorem lowRs2_lowCas (rs2 : RegNum) (o : CasAsi) : lowRs2 (lowCas rs2 o) = rs2 := by
  cases o <;> exact extract_low _ _

@[simp] theorem readMovcc_low (cc : BitVec 2) (o : RegOrImm 11) : readMovcc (lowMovcc cc o) = some o := by
  cases o with
  | reg r =>
    have h0 : (lowMovcc cc (.reg r)).extractLsb' 13 1 = 0#1 := (extract_within_high _ _ (by decide)).trans ((extract_within_high _ _ (by decide)).trans ((extract_within_high _ _ (by decide)).trans (BitVec.extractLsb'_eq_self)))
    have h1 : (lowMovcc cc (.reg r)).extractLsb' 5 6 = 0#6 := (extract_within_high _ _ (by decide)).trans (extract_low _ _)
    have h2 : (lowMovcc cc (.reg r)).extractLsb' 0 5 = r := extract_low _ _
    simp [readMovcc, h0, h1, h2]
  | imm v =>
    have h0 : (lowMovcc cc (.imm v)).extractLsb' 13 1 = 1#1 := (extract_within_high _ _ (by decide)).trans ((extract_within_high _ _ (by decide)).trans (BitVec.extractLsb'_eq_self))
    have h1 : (lowMovcc cc (.imm v)).extractLsb' 0 11 = v := extract_low _ _
    simp [readMovcc, h0, h1]

@[simp] theorem lowCc_lowMovcc (cc : BitVec 2) (o : RegOrImm 11) : lowCc (lowMovcc cc o) = cc := by
  cases o with
  | reg r =>
    exact (extract_within_high _ _ (by decide)).trans
      ((extract_within_high _ _ (by decide)).trans (extract_low _ _))
  | imm v => exact (extract_within_high _ _ (by decide)).trans (extract_low _ _)

@[simp] theorem readMovr_low (c : BitVec 3) (o : RegOrImm 10) : readMovr (lowMovr c o) = some o := by
  cases o with
  | reg r =>
    have h0 : (lowMovr c (.reg r)).extractLsb' 13 1 = 0#1 := (extract_within_high _ _ (by decide)).trans ((extract_within_high _ _ (by decide)).trans ((extract_within_high _ _ (by decide)).trans (BitVec.extractLsb'_eq_self)))
    have h1 : (lowMovr c (.reg r)).extractLsb' 5 5 = 0#5 := (extract_within_high _ _ (by decide)).trans (extract_low _ _)
    have h2 : (lowMovr c (.reg r)).extractLsb' 0 5 = r := extract_low _ _
    simp [readMovr, h0, h1, h2]
  | imm v =>
    have h0 : (lowMovr c (.imm v)).extractLsb' 13 1 = 1#1 := (extract_within_high _ _ (by decide)).trans ((extract_within_high _ _ (by decide)).trans (BitVec.extractLsb'_eq_self))
    have h1 : (lowMovr c (.imm v)).extractLsb' 0 10 = v := extract_low _ _
    simp [readMovr, h0, h1]

@[simp] theorem lowRcond_lowMovr (c : BitVec 3) (o : RegOrImm 10) : lowRcond (lowMovr c o) = c := by
  cases o with
  | reg r =>
    exact (extract_within_high _ _ (by decide)).trans
      ((extract_within_high _ _ (by decide)).trans (extract_low _ _))
  | imm v => exact (extract_within_high _ _ (by decide)).trans (extract_low _ _)

@[simp] theorem readTcc_low (cc : BitVec 2) (o : RegOrImm 8) : readTcc (lowTcc cc o) = some o := by
  cases o with
  | reg r =>
    have h0 : (lowTcc cc (.reg r)).extractLsb' 13 1 = 0#1 := (extract_within_high _ _ (by decide)).trans ((extract_within_high _ _ (by decide)).trans ((extract_within_high _ _ (by decide)).trans (BitVec.extractLsb'_eq_self)))
    have h1 : (lowTcc cc (.reg r)).extractLsb' 5 6 = 0#6 := (extract_within_high _ _ (by decide)).trans (extract_low _ _)
    have h2 : (lowTcc cc (.reg r)).extractLsb' 0 5 = r := extract_low _ _
    simp [readTcc, h0, h1, h2]
  | imm v =>
    have h0 : (lowTcc cc (.imm v)).extractLsb' 13 1 = 1#1 := (extract_within_high _ _ (by decide)).trans ((extract_within_high _ _ (by decide)).trans ((extract_within_high _ _ (by decide)).trans (BitVec.extractLsb'_eq_self)))
    have h1 : (lowTcc cc (.imm v)).extractLsb' 8 3 = 0#3 := (extract_within_high _ _ (by decide)).trans (extract_low _ _)
    have h2 : (lowTcc cc (.imm v)).extractLsb' 0 8 = v := extract_low _ _
    simp [readTcc, h0, h1, h2]

@[simp] theorem lowCc_lowTcc (cc : BitVec 2) (o : RegOrImm 8) : lowCc (lowTcc cc o) = cc := by
  cases o <;>
    exact (extract_within_high _ _ (by decide)).trans
      ((extract_within_high _ _ (by decide)).trans (extract_low _ _))

@[simp] theorem readIntCc_bits (cc : IntCc) : readIntCc cc.bits = some cc := by
  cases cc <;> rfl

/-! ### Fields of branches -/

@[simp] theorem topBranch_cond (a : Bool) (cond : BitVec 4) : (topBranch a cond).extractLsb' 0 4 = cond :=
  extract_low _ _

@[simp] theorem topBranch_annul (a : Bool) (cond : BitVec 4) : (topBranch a cond).getLsbD 4 = a := by
  have h : (topBranch a cond).extractLsb' 4 1 = bit a := extract_high _ _
  simpa [BitVec.getLsbD_extractLsb', bit] using congrArg (fun x => x.getLsbD 0) h

@[simp] theorem low22Pred_cc (cc : BitVec 2) (p : Bool) (d : BitVec 19) :
    (low22Pred cc p d).extractLsb' 20 2 = cc := by
  exact (extract_within_high _ _ (by decide)).trans (extract_high _ _)

@[simp] theorem low22Pred_p (cc : BitVec 2) (p : Bool) (d : BitVec 19) : (low22Pred cc p d).getLsbD 19 = p := by
  have h : (low22Pred cc p d).extractLsb' 19 1 = bit p :=
    (extract_within_high _ _ (by decide)).trans (extract_low _ _)
  simpa [BitVec.getLsbD_extractLsb', bit] using congrArg (fun x => x.getLsbD 0) h

@[simp] theorem low22Pred_disp (cc : BitVec 2) (p : Bool) (d : BitVec 19) :
    (low22Pred cc p d).extractLsb' 0 19 = d :=
  extract_low _ _

@[simp] theorem low22Bpr_disp (d16 : BitVec 16) (p : Bool) (rs1 : RegNum) :
    (low22Bpr d16 p rs1).extractLsb' 20 2 ++ (low22Bpr d16 p rs1).extractLsb' 0 14 = d16 := by
  have h1 : (low22Bpr d16 p rs1).extractLsb' 20 2 = d16.extractLsb' 14 2 :=
    (extract_within_high _ _ (by decide)).trans ((extract_within_high _ _ (by decide)).trans (extract_high _ _))
  have h2 : (low22Bpr d16 p rs1).extractLsb' 0 14 = d16.extractLsb' 0 14 := extract_low _ _
  rw [h1, h2]
  exact (BitVec.extractLsb'_append_extractLsb'_eq_extractLsb' (by decide)).trans BitVec.extractLsb'_eq_self

@[simp] theorem low22Bpr_p (d16 : BitVec 16) (p : Bool) (rs1 : RegNum) : (low22Bpr d16 p rs1).getLsbD 19 = p := by
  have h : (low22Bpr d16 p rs1).extractLsb' 19 1 = bit p :=
    (extract_within_high _ _ (by decide)).trans ((extract_within_high _ _ (by decide)).trans (extract_low _ _))
  simpa [BitVec.getLsbD_extractLsb', bit] using congrArg (fun x => x.getLsbD 0) h

@[simp] theorem low22Bpr_rs1 (d16 : BitVec 16) (p : Bool) (rs1 : RegNum) :
    (low22Bpr d16 p rs1).extractLsb' 14 5 = rs1 :=
  (extract_within_high _ _ (by decide)).trans (extract_low _ _)

end Sys2Proof
end

