-- ==== Sys2Proof/Laws/Registers.lean ====
section
/-! SUPPORT. Reading a register after writing one (10_state.md R52, R54, R70, R71). -/

namespace Sys2Proof.Machine

/-! ### R registers -/

@[simp] theorem phys_zero (gl : Fin 3) (cwp : BitVec 3) : phys gl cwp 0#5 = .zero := rfl

theorem phys_eq_zero_iff (gl : Fin 3) (cwp : BitVec 3) (n : RegNum) : phys gl cwp n = .zero ↔ n = 0#5 := by
  constructor
  · intro h
    unfold phys at h
    split at h
    · bv_omega
    · split at h
      · cases h
      · split at h
        · cases h
        · split at h <;> cases h
  · rintro rfl
    rfl

/-- Distinct register numbers of one global level and one window name distinct storage. -/
theorem phys_injective (gl : Fin 3) (cwp : BitVec 3) {m n : RegNum} (h : phys gl cwp m = phys gl cwp n) :
    m = n := by
  revert gl cwp m n
  decide +kernel

/-- Reading a piece of register storage after writing one. -/
theorem readPhys_writePhys (s : State) (p q : PhysReg) (v : Word64) :
    readPhys (writePhys s q v) p = if p = q ∧ q ≠ .zero then v else readPhys s p := by
  cases q <;> cases p <;> simp [readPhys, writePhys, Vector.getElem_set, Fin.ext_iff, eq_comm]

@[simp] theorem readReg_zero (s : State) : readReg s 0#5 = 0 := rfl

@[simp] theorem writeReg_zero (s : State) (v : Word64) : writeReg s 0#5 v = s := rfl

/-- Reading an R register after writing one. -/
theorem readReg_writeReg (s : State) (m n : RegNum) (v : Word64) :
    readReg (writeReg s m v) n = if n = m ∧ m ≠ 0#5 then v else readReg s n := by
  unfold readReg
  rw [writeReg_gl, writeReg_cwp, writeReg, readPhys_writePhys]
  by_cases h : n = m
  · subst h
    simp [phys_eq_zero_iff]
  · have : phys s.gl s.cwp n ≠ phys s.gl s.cwp m := fun e => h (phys_injective _ _ e)
    simp [h, this]

/-- Writing an R register leaves the storage of every other one. -/
theorem readPhys_writeReg_of_ne (s : State) (rd : RegNum) (v : Word64) {p : PhysReg}
    (h : p ≠ phys s.gl s.cwp rd) : readPhys (writeReg s rd v) p = readPhys s p := by
  rw [writeReg, readPhys_writePhys]
  simp [h]

@[simp] theorem readPhys_advance (s : State) (p : PhysReg) : readPhys (advance s) p = readPhys s p := by
  cases p <;> rfl

@[simp] theorem readPhys_setPcs (s : State) (p : PhysReg) (pc npc : Word64) :
    readPhys (setPcs s pc npc) p = readPhys s p := by
  cases p <;> rfl

@[simp] theorem readReg_advance (s : State) (n : RegNum) : readReg (advance s) n = readReg s n :=
  readPhys_advance s _

@[simp] theorem readReg_setPcs (s : State) (n : RegNum) (pc npc : Word64) :
    readReg (setPcs s pc npc) n = readReg s n :=
  readPhys_setPcs s _ pc npc

/-- Register storage is the same where both register arrays are. -/
theorem readPhys_congr {s t : State} (hg : t.globals = s.globals) (hw : t.windows = s.windows) (p : PhysReg) :
    readPhys t p = readPhys s p := by
  cases p
  · rfl
  · simp [readPhys, hg]
  · simp [readPhys, hw]

/-! ### F registers -/

/-- The number of a double register is even and below 64. -/
theorem doubleNumber_even (f : RegNum) : (doubleNumber f).toNat % 2 = 0 := by
  revert f
  decide +kernel

theorem doubleNumber_injective {f g : RegNum} (h : doubleNumber f = doubleNumber g) : f = g := by
  revert f g
  decide +kernel

/-- Reading a single F register after writing one. -/
theorem readS_writeS (s : State) (f g : RegNum) (v : Word32) :
    readS (writeS s f v) g = if g = f then v else readS s g := by
  have h : (singleWord f).val = (singleWord g).val ↔ g = f := by
    revert f g
    decide +kernel
  simp [readS, writeS, Vector.getElem_set, h]

/-- The words of the F registers after a double register is written. -/
theorem writeFd_fregs (s : State) (n : BitVec 6) (v : Word64) (k : Fin 64) :
    (writeFd s n v).fregs[k] =
      if k = Fin.ofNat 64 (n.toNat + 1) then v.extractLsb' 0 32
      else if k = Fin.ofNat 64 n.toNat then v.extractLsb' 32 32 else s.fregs[k] := by
  simp only [writeFd, Fin.getElem_fin, Vector.getElem_set, Fin.ext_iff, eq_comm (b := k.val)]

/-- The two halves of a doubleword. -/
theorem extract_halves (v : Word64) : (v.extractLsb' 32 32 ++ v.extractLsb' 0 32 : Word64) = v :=
  (BitVec.extractLsb'_append_extractLsb'_eq_extractLsb' (by decide)).trans BitVec.extractLsb'_eq_self

/-- Reading a double F register after writing that register. -/
theorem readD_writeD_same (s : State) (f : RegNum) (v : Word64) : readD (writeD s f v) f = v := by
  have h : Fin.ofNat 64 (doubleNumber f).toNat ≠ Fin.ofNat 64 ((doubleNumber f).toNat + 1) := by
    revert f
    decide +kernel
  rw [readD, readFd, writeD, writeFd_fregs, writeFd_fregs, if_neg h, if_pos rfl, if_pos rfl]
  exact extract_halves v

@[simp] theorem readS_advance (s : State) (f : RegNum) : readS (advance s) f = readS s f := rfl

@[simp] theorem readD_advance (s : State) (f : RegNum) : readD (advance s) f = readD s f := rfl

/-! ### Accesses change no register (20_memory.md R202) -/

@[simp] theorem readPhys_afterRead (s : State) (a n : Nat) (p : PhysReg) : readPhys (afterRead s a n) p = readPhys s p := by
  cases p <;> simp [readPhys]

@[simp] theorem readPhys_storeBytes (s : State) (cells : List Host.Cell) (p : PhysReg) :
    readPhys (storeBytes s cells) p = readPhys s p := by
  cases p <;> simp [readPhys]

@[simp] theorem readReg_afterRead (s : State) (a n : Nat) (r : RegNum) : readReg (afterRead s a n) r = readReg s r := by
  simp [readReg]

@[simp] theorem readReg_storeBytes (s : State) (cells : List Host.Cell) (r : RegNum) :
    readReg (storeBytes s cells) r = readReg s r := by
  simp [readReg]

@[simp] theorem readFd_afterRead (s : State) (a n : Nat) (d : BitVec 6) : readFd (afterRead s a n) d = readFd s d := by
  simp [readFd]

@[simp] theorem readS_afterRead (s : State) (a n : Nat) (f : RegNum) : readS (afterRead s a n) f = readS s f := by
  simp [readS]

end Sys2Proof.Machine
end

