-- ==== Sys2Proof/Tests/Slice0.lean ====
section
/-! SUPPORT. Tests: ill-formed terms, a word for every instruction, single steps with the results of 95_test_vectors.md, and a witness for the hypotheses of each statement. -/

noncomputable section

set_option Elab.async false

namespace Sys2Proof.Tests

open Sys2Proof.Machine Sys2Proof.Claims

/-! ### Helpers -/

/-- The state after reset, with R registers set. -/
def regs (rs : List (RegNum × Word64)) : State := rs.foldl (fun s p => writeReg s p.1 p.2) State.reset

/-- A state with single registers set. -/
def singles (s : State) (rs : List (RegNum × Word32)) : State := rs.foldl (fun s p => writeS s p.1 p.2) s

/-- A state with double registers set, by their fields. -/
def doubles (s : State) (rs : List (RegNum × Word64)) : State := rs.foldl (fun s p => writeD s p.1 p.2) s

/-- Memory that holds some bytes from an address on. -/
def bytesAt (ra : Nat) (bs : List Byte) : Memory := (List.range bs.length).zip bs |>.map fun p => (ra + p.1, p.2)

/-- The state after the instruction a word decodes to, where it completes. -/
def ran (w : Word32) (s : State) : Option State :=
  match decode w with
  | .ok i => (match exec i s with | .next t => some t | _ => none)
  | .error _ => none

/-- Why a word ends the run, where it does; a word that does not decode raises illegal_instruction. -/
def left (w : Word32) (s : State) : Option HyperCause :=
  match runWord s w with
  | .fault (.exitToHyperprivileged c _ _ _) => some c
  | _ => none

/-- `R[3]` and CCR after a word, from `R[1]`, `R[2]` and CCR. -/
def alu (w : Word32) (a b : Word64) (cc : BitVec 8) : Option (Word64 × BitVec 8) :=
  (ran w { regs [(1, a), (2, b)] with ccr := cc }).map fun t => (readReg t 3, t.ccr)

/-- `R[3]`, Y and CCR after a word, from Y, `R[1]`, `R[2]` and CCR. -/
def aluY (w : Word32) (y : Word32) (a b : Word64) (cc : BitVec 8) : Option (Word64 × Word32 × BitVec 8) :=
  (ran w { regs [(1, a), (2, b)] with ccr := cc, y := y }).map fun t => (readReg t 3, t.y, t.ccr)

/-- The program counters after a word, from CCR and `R[8]`. -/
def jumped (w : Word32) (cc : BitVec 8) (r8 : Word64) : Option (Word64 × Word64) :=
  (ran w { regs [(8, r8)] with ccr := cc }).map fun t => (t.pc, t.npc)

/-- The memory of 42's vectors, at 0x2000, with `R[8]` = `R[9]` = 0x2000. -/
def loadState : State :=
  { regs [(8, 0x2000), (9, 0x2000)] with mem := bytesAt 0x2000 [0x81, 0xA2, 0xB3, 0xC4, 0xD5, 0xE6, 0xF7, 0x08] }

/-- The bytes at 0x2000 after a word. -/
def stored (w : Word32) (s : State) (n : Nat) : Option (List (Option Byte)) :=
  (ran w s).map fun t => (List.range n).map fun k => (t.mem.readByte (0x2000 + k)).toOption

/-- TT, PC and CWP after a word that traps from trap level 0. -/
def trapped (w : Word32) (s : State) : Option (BitVec 9 × Word64 × BitVec 3) :=
  (ran w s).bind fun t => if t.tl = 1 then some (t.trapStack[0].tt, t.pc, t.cwp) else none

/-! ### Ill-formed terms -/

theorem test_illFormed_sethi : Instr.wellFormed (.sethi 0 0) = false := by decide +kernel
theorem test_illFormed_odd_register :
    [(.ldtw 9 8 (.imm 0) : Instr), .sttw 9 8 (.imm 0), .ldtwa 9 8 (.immAsi 0 0x80), .sttwa 9 8 (.immAsi 0 0x80),
      .ldtxa 9 8 0 0xE2].all (fun i => !i.wellFormed) = true := by decide +kernel
theorem test_illFormed_twin_asi :
    [(.ldtwa 8 8 (.immAsi 0 0xE2) : Instr), .ldtxa 8 8 0 0x80].all (fun i => !i.wellFormed) = true := by decide +kernel
theorem test_illFormed_prefetch :
    [(.prefetch 5 8 (.imm 0) : Instr), .prefetch 15 8 (.imm 0), .prefetcha 5 8 (.immAsi 0 0x80),
      .prefetcha 15 8 (.immAsi 0 0x80)].all (fun i => !i.wellFormed) = true := by decide +kernel
theorem test_illFormed_lddfa :
    [(.lddfa 2 8 (.immAsi 0 0xF0) : Instr), .lddfa 2 8 (.immAsi 0 0xD0)].all (fun i => !i.wellFormed) = true := by
  decide +kernel
theorem test_illFormed_stdfa :
    [(.stdfa 2 8 (.immAsi 0 0xF0) : Instr), .stdfa 2 8 (.immAsi 0 0xE0), .stdfa 2 8 (.immAsi 0 0xD0),
      .stdfa 2 8 (.immAsi 0 0xC0)].all (fun i => !i.wellFormed) = true := by decide +kernel
theorem test_illFormed_special_asi :
    [(.ldblockf 2 8 0 0xE0 : Instr), .ldshortf 2 8 0 0xF0, .stblockf 2 8 0 0xD0, .stshortf 2 8 0 0xC0,
      .stpartialf 2 8 0 0xD0].all (fun i => !i.wellFormed) = true := by decide +kernel
theorem test_wellFormed :
    [(.sethi 0 1 : Instr), .nop, .ldtw 8 8 (.imm 0), .ldtxa 8 8 0 0xE2, .prefetch 4 8 (.imm 0), .prefetch 16 8 (.imm 0),
      .lddfa 2 8 (.immAsi 0 0x80), .lddfa 2 8 (.asiReg 0), .ldblockf 2 8 0 0xF0, .stblockf 2 8 0 0xE0, .stshortf 2 8 0 0xD0,
      .stpartialf 2 8 0 0xC0].all Instr.wellFormed = true := by decide +kernel

/-! ### Words and the instructions they stand for (30_encoding.md; the words of 95_test_vectors.md where it has one) -/

/-- The words decode to the instructions. -/
abbrev decodesTo (words : List Word32) (instrs : List Instr) : Prop := words.map decode = instrs.map .ok

theorem test_decode_integer_1 : decodesTo
    [0x86004002, 0x840860FF, 0x90122234, 0x901A3E34, 0x92223FFF, 0x86284002, 0x86304002, 0x943A0009, 0x86404002,
   0x86484002, 0x86504002, 0x86584002, 0x86604002, 0x86684002, 0x86704002, 0x86784002, 0x86806001, 0x80884002,
   0x80904000, 0x86984002]
    [(.add 3 1 (.reg 2)), (.and 2 1 (.imm 0xff)), (.or 8 8 (.imm 0x234)), (.xor 8 8 (.imm 0x1e34)),
   (.sub 9 8 (.imm 0x1fff)), (.andn 3 1 (.reg 2)), (.orn 3 1 (.reg 2)), (.xnor 10 8 (.reg 9)),
   (.addc 3 1 (.reg 2)), (.mulx 3 1 (.reg 2)), (.umul 3 1 (.reg 2)), (.smul 3 1 (.reg 2)), (.subc 3 1 (.reg 2)),
   (.udivx 3 1 (.reg 2)), (.udiv 3 1 (.reg 2)), (.sdiv 3 1 (.reg 2)), (.addcc 3 1 (.imm 0x1)),
   (.andcc 0 1 (.reg 2)), (.orcc 0 1 (.reg 0)), (.xorcc 3 1 (.reg 2))] := by decide +kernel

theorem test_decode_integer_2 : decodesTo
    [0x80A6001A, 0xAAAAAAAA, 0x86B04002, 0x86B84002, 0x86C04002, 0x86D04002, 0x86D84002, 0x86E04002, 0x86F04002,
   0x86F84002, 0x87004002, 0x87084002, 0x87104002, 0x87184002, 0x83204002, 0x87684002, 0x85286003, 0x85306000,
   0x85386000, 0x8328703F]
    [(.subcc 0 24 (.reg 26)), (.andncc 21 10 (.imm 0xaaa)), (.orncc 3 1 (.reg 2)), (.xnorcc 3 1 (.reg 2)),
   (.addccc 3 1 (.reg 2)), (.umulcc 3 1 (.reg 2)), (.smulcc 3 1 (.reg 2)), (.subccc 3 1 (.reg 2)),
   (.udivcc 3 1 (.reg 2)), (.sdivcc 3 1 (.reg 2)), (.taddcc 3 1 (.reg 2)), (.tsubcc 3 1 (.reg 2)),
   (.taddcctv 3 1 (.reg 2)), (.tsubcctv 3 1 (.reg 2)), (.mulscc 1 1 (.reg 2)), (.sdivx 3 1 (.reg 2)),
   (.sll 2 1 (.imm 0x3)), (.srl 2 1 (.imm 0x0)), (.sra 2 1 (.imm 0x0)), (.sllx 1 1 (.imm 0x3f))] := by decide +kernel

theorem test_decode_integer_3 : decodesTo
    [0x87305002, 0x8538703F, 0x0F0F3333, 0x01000000, 0x85700001, 0xB7663155, 0xB7643155, 0xB7667155, 0xB7647155,
   0xB766B001, 0xB764B000, 0xB766F155, 0xB764E7FF, 0xB7673155, 0xB7653155, 0xB7677155, 0xB7657155, 0xB767B155,
   0xB765B155, 0xB767F155]
    [(.srlx 3 1 (.reg 2)), (.srax 2 1 (.imm 0x3f)), (.sethi 7 0xf3333), .nop, (.popc 2 (.reg 1)),
   (.mova 27 .xcc (.imm 0x155)), (.movn 27 .xcc (.imm 0x155)), (.movne 27 .xcc (.imm 0x155)),
   (.move 27 .xcc (.imm 0x155)), (.movg 27 .xcc (.imm 0x1)), (.movle 27 .xcc (.imm 0x0)),
   (.movge 27 .xcc (.imm 0x155)), (.movl 27 .icc (.imm 0x7ff)), (.movgu 27 .xcc (.imm 0x155)),
   (.movleu 27 .xcc (.imm 0x155)), (.movcc 27 .xcc (.imm 0x155)), (.movcs 27 .xcc (.imm 0x155)),
   (.movpos 27 .xcc (.imm 0x155)), (.movneg 27 .xcc (.imm 0x155)), (.movvc 27 .xcc (.imm 0x155))] := by decide +kernel

theorem test_decode_integer_4 : decodesTo
    [0xB765F155, 0xB7623155, 0xB7603155, 0xB761F155, 0xB761B155, 0xB7617155, 0xB7613155, 0xB760F155, 0xB760B155,
   0xB7607155, 0xB7627155, 0xB762B155, 0xB762F155, 0xB7633155, 0xB7637155, 0xB763B155, 0xB763F155, 0x87784402,
   0xBD7E881C, 0xBD7E8C1C]
    [(.movvs 27 .xcc (.imm 0x155)), (.movfa 27 2 (.imm 0x155)), (.movfn 27 2 (.imm 0x155)),
   (.movfu 27 2 (.imm 0x155)), (.movfg 27 2 (.imm 0x155)), (.movfug 27 2 (.imm 0x155)),
   (.movfl 27 2 (.imm 0x155)), (.movful 27 2 (.imm 0x155)), (.movflg 27 2 (.imm 0x155)),
   (.movfne 27 2 (.imm 0x155)), (.movfe 27 2 (.imm 0x155)), (.movfue 27 2 (.imm 0x155)),
   (.movfge 27 2 (.imm 0x155)), (.movfuge 27 2 (.imm 0x155)), (.movfle 27 2 (.imm 0x155)),
   (.movfule 27 2 (.imm 0x155)), (.movfo 27 2 (.imm 0x155)), (.movrz 3 1 (.reg 2)), (.movrlez 30 26 (.reg 28)),
   (.movrlz 30 26 (.reg 28))] := by decide +kernel

theorem test_decode_integer_5 : decodesTo
    [0xBD7E941C, 0xBD7E981C, 0xBD7E9C1C]
    [(.movrnz 30 26 (.reg 28)), (.movrgz 30 26 (.reg 28)), (.movrgez 30 26 (.reg 28))] := by decide +kernel

theorem test_decode_control_1 : decodesTo
    [0x10800003, 0x00800003, 0x12800003, 0x02800003, 0x14800003, 0x04800003, 0x16800003, 0x06800003, 0x18800003,
   0x08800003, 0x1A800003, 0x0A800003, 0x1C800003, 0x0C800003, 0x1E800003, 0x0E800003, 0x10680003, 0x00680003,
   0x326FFFFC, 0x02680003]
    [(.ba false 0x3), (.bn false 0x3), (.bne false 0x3), (.be false 0x3), (.bg false 0x3), (.ble false 0x3),
   (.bge false 0x3), (.bl false 0x3), (.bgu false 0x3), (.bleu false 0x3), (.bcc false 0x3), (.bcs false 0x3),
   (.bpos false 0x3), (.bneg false 0x3), (.bvc false 0x3), (.bvs false 0x3), (.bpa false .xcc true 0x3),
   (.bpn false .xcc true 0x3), (.bpne true .xcc true 0x7fffc), (.bpe false .xcc true 0x3)] := by decide +kernel

theorem test_decode_control_2 : decodesTo
    [0x14680003, 0x04680003, 0x16680003, 0x06680003, 0x18680003, 0x08680003, 0x1A680003, 0x0A680003, 0x1C680003,
   0x0C680003, 0x1E680003, 0x0E680003, 0x02C84002, 0x04C84002, 0x06C84002, 0x2AFA3FF8, 0x0CC84002, 0x0EC84002,
   0x31BFFFFC, 0x21BFFFFC]
    [(.bpg false .xcc true 0x3), (.bple false .xcc true 0x3), (.bpge false .xcc true 0x3),
   (.bpl false .xcc true 0x3), (.bpgu false .xcc true 0x3), (.bpleu false .xcc true 0x3),
   (.bpcc false .xcc true 0x3), (.bpcs false .xcc true 0x3), (.bppos false .xcc true 0x3),
   (.bpneg false .xcc true 0x3), (.bpvc false .xcc true 0x3), (.bpvs false .xcc true 0x3),
   (.brz false 0x2 true 1), (.brlez false 0x2 true 1), (.brlz false 0x2 true 1), (.brnz true 0xfff8 true 8),
   (.brgz false 0x2 true 1), (.brgez false 0x2 true 1), (.fba true 0x3ffffc), (.fbn true 0x3ffffc)] := by decide +kernel

theorem test_decode_control_3 : decodesTo
    [0x0F800000, 0x2DBFFFFC, 0x2BBFFFFC, 0x29BFFFFC, 0x27BFFFFC, 0x25BFFFFC, 0x23BFFFFC, 0x33BFFFFC, 0x35BFFFFC,
   0x37BFFFFC, 0x39BFFFFC, 0x3BBFFFFC, 0x3DBFFFFC, 0x3F800001, 0x11580003, 0x01580003, 0x0F580003, 0x0D580003,
   0x0B580003, 0x09580003]
    [(.fbu false 0x0), (.fbg true 0x3ffffc), (.fbug true 0x3ffffc), (.fbl true 0x3ffffc), (.fbul true 0x3ffffc),
   (.fblg true 0x3ffffc), (.fbne true 0x3ffffc), (.fbe true 0x3ffffc), (.fbue true 0x3ffffc),
   (.fbge true 0x3ffffc), (.fbuge true 0x3ffffc), (.fble true 0x3ffffc), (.fbule true 0x3ffffc), (.fbo true 0x1),
   (.fbpa false 1 true 0x3), (.fbpn false 1 true 0x3), (.fbpu false 1 true 0x3), (.fbpg false 1 true 0x3),
   (.fbpug false 1 true 0x3), (.fbpl false 1 true 0x3)] := by decide +kernel

theorem test_decode_control_4 : decodesTo
    [0x07580003, 0x05580003, 0x03580003, 0x13580003, 0x15580003, 0x17580003, 0x19580003, 0x1B580003, 0x1D580003,
   0x1F580003, 0x7FFFFFFF, 0x81C7E008, 0x81CFE008, 0x91D03083, 0x81D02001, 0x93D02001, 0x83D02001, 0x95D02001,
   0x85D02001, 0x97D02001]
    [(.fbpul false 1 true 0x3), (.fbplg false 1 true 0x3), (.fbpne false 1 true 0x3), (.fbpe false 1 true 0x3),
   (.fbpue false 1 true 0x3), (.fbpge false 1 true 0x3), (.fbpuge false 1 true 0x3), (.fbple false 1 true 0x3),
   (.fbpule false 1 true 0x3), (.fbpo false 1 true 0x3), (.call 0x3fffffff), (.jmpl 0 31 (.imm 0x8)),
   (.return_ 31 (.imm 0x8)), (.ta 0 .xcc (.imm 0x83)), (.tn 0 .icc (.imm 0x1)), (.tne 0 .icc (.imm 0x1)),
   (.te 0 .icc (.imm 0x1)), (.tg 0 .icc (.imm 0x1)), (.tle 0 .icc (.imm 0x1)), (.tge 0 .icc (.imm 0x1))] := by decide +kernel

theorem test_decode_control_5 : decodesTo
    [0x87D02001, 0x99D02001, 0x89D02001, 0x9BD02001, 0x8BD02001, 0x9DD02001, 0x8DD02001, 0x9FD02001, 0x8FD02001,
   0x81F00000, 0x83F00000, 0x0200FF00]
    [(.tl 0 .icc (.imm 0x1)), (.tgu 0 .icc (.imm 0x1)), (.tleu 0 .icc (.imm 0x1)), (.tcc 0 .icc (.imm 0x1)),
   (.tcs 0 .icc (.imm 0x1)), (.tpos 0 .icc (.imm 0x1)), (.tneg 0 .icc (.imm 0x1)), (.tvc 0 .icc (.imm 0x1)),
   (.tvs 0 .icc (.imm 0x1)), .done, .retry, (.illtrap 1 0xff00)] := by decide +kernel

theorem test_decode_memory_1 : decodesTo
    [0xD0026008, 0xD00A6008, 0xD0126008, 0xE01A6000, 0xD0227FF8, 0xD02A7FF8, 0xD0327FF8, 0xE03A6000, 0xD0426008,
   0xD04A6008, 0xD0526008, 0xD25A2008, 0xD06A6000, 0xD0727FF8, 0xD07A6004, 0xD0825100, 0xD08A5100, 0xD0925100,
   0xC89A1002, 0xD0A25120]
    [(.lduw 8 9 (.imm 0x8)), (.ldub 8 9 (.imm 0x8)), (.lduh 8 9 (.imm 0x8)), (.ldtw 16 9 (.imm 0x0)),
   (.stw 8 9 (.imm 0x1ff8)), (.stb 8 9 (.imm 0x1ff8)), (.sth 8 9 (.imm 0x1ff8)), (.sttw 16 9 (.imm 0x0)),
   (.ldsw 8 9 (.imm 0x8)), (.ldsb 8 9 (.imm 0x8)), (.ldsh 8 9 (.imm 0x8)), (.ldx 9 8 (.imm 0x8)),
   (.ldstub 8 9 (.imm 0x0)), (.stx 8 9 (.imm 0x1ff8)), (.swap 8 9 (.imm 0x4)), (.lduwa 8 9 (.immAsi 0 0x88)),
   (.lduba 8 9 (.immAsi 0 0x88)), (.lduha 8 9 (.immAsi 0 0x88)), (.ldtwa 4 8 (.immAsi 2 0x80)),
   (.stwa 8 9 (.immAsi 0 0x89))] := by decide +kernel

theorem test_decode_memory_2 : decodesTo
    [0xD0AA5120, 0xD0B25120, 0xC8BA1002, 0xD0C25100, 0xD0CA5100, 0xD0D25100, 0xD0DA5100, 0xD0EA5000, 0xF0F0CCCC,
   0xFAFAEEEE, 0xC89A1C42, 0xD1E2510A, 0xF5F5DDDD, 0xC36A6040, 0xE9EA5000, 0x8143E00F, 0x81DA400A]
    [(.stba 8 9 (.immAsi 0 0x89)), (.stha 8 9 (.immAsi 0 0x89)), (.sttwa 4 8 (.immAsi 2 0x80)),
   (.ldswa 8 9 (.immAsi 0 0x88)), (.ldsba 8 9 (.immAsi 0 0x88)), (.ldsha 8 9 (.immAsi 0 0x88)),
   (.ldxa 8 9 (.immAsi 0 0x88)), (.ldstuba 8 9 (.immAsi 0 0x80)), (.stxa 24 3 (.immAsi 12 0x66)),
   (.swapa 29 11 (.asiReg 0xeee)), (.ldtxa 4 8 2 0xe2), (.casa 8 9 10 (.immAsi 0x88)),
   (.casxa 26 23 29 (.immAsi 0xee)), (.prefetch 1 9 (.imm 0x40)), (.prefetcha 20 9 (.immAsi 0 0x80)),
   (.membar 0 15), (.flush 9 (.reg 10))] := by decide +kernel

theorem test_decode_fp_memory_1 : decodesTo
    [0xC7026004, 0xC9126000, 0xC71A400A, 0xC7226004, 0xC9326000, 0xC53A6008, 0xC10A6000, 0xC30A6000, 0xC12A6000,
   0xC32A6000, 0xC7825100, 0xC9925000, 0xC99A1002, 0xC7A25000, 0xC9B25000, 0xC9BA1002, 0xC99A1E02, 0xC99A1A02,
   0xC9BA1E02, 0xC9BA1A42]
    [(.ldf 3 9 (.imm 0x4)), (.ldqf 4 9 (.imm 0x0)), (.lddf 3 9 (.reg 10)), (.stf 3 9 (.imm 0x4)),
   (.stqf 4 9 (.imm 0x0)), (.stdf 2 9 (.imm 0x8)), (.ldfsr 9 (.imm 0x0)), (.ldxfsr 9 (.imm 0x0)),
   (.stfsr 9 (.imm 0x0)), (.stxfsr 9 (.imm 0x0)), (.ldfa 3 9 (.immAsi 0 0x88)), (.ldqfa 4 9 (.immAsi 0 0x80)),
   (.lddfa 4 8 (.immAsi 2 0x80)), (.stfa 3 9 (.immAsi 0 0x80)), (.stqfa 4 9 (.immAsi 0 0x80)),
   (.stdfa 4 8 (.immAsi 2 0x80)), (.ldblockf 4 8 2 0xf0), (.ldshortf 4 8 2 0xd0), (.stblockf 4 8 2 0xf0),
   (.stshortf 4 8 2 0xd2)] := by decide +kernel

theorem test_decode_fp_memory_2 : decodesTo
    [0xC9BA1802]
    [(.stpartialf 4 8 2 0xc0)] := by decide +kernel

theorem test_decode_state_registers_1 : decodesTo
    [0x9DE3BF50, 0x91EA2001, 0x81880000, 0x83880000, 0x85880000, 0x87880000, 0x89880000, 0x8B880000, 0x81580000,
   0x83400000, 0x83408000, 0x8340C000, 0x83410000, 0x91414000, 0x83418000, 0x8344C000, 0x83458000, 0x8345C000,
   0x83460000, 0x83464000]
    [(.save 14 14 (.imm 0x1f50)), (.restore 8 8 (.imm 0x1)), .saved, .restored, .allclean, .otherw, .normalw,
   .invalw, (.flushw false), (.rdy 1), (.rdccr 1), (.rdasi 1), (.rdtick 1), (.rdpc 8), (.rdfprs 1), (.rdgsr 1),
   (.rdsoftint 1), (.rdtickCmpr 1), (.rdstick 1), (.rdstickCmpr 1)] := by decide +kernel

theorem test_decode_state_registers_2 : decodesTo
    [0x81806005, 0x85806005, 0x87806005, 0x8D806005, 0xA7806005, 0xA9806005, 0xAB806005, 0xAD806005, 0xAF806005,
   0xB3806005, 0x83500000, 0x83504000, 0x83508000, 0x8350C000, 0x83510000, 0x83514000, 0x83518000, 0x8351C000,
   0x83520000, 0x83524000]
    [(.wry 1 (.imm 0x5)), (.wrccr 1 (.imm 0x5)), (.wrasi 1 (.imm 0x5)), (.wrfprs 1 (.imm 0x5)),
   (.wrgsr 1 (.imm 0x5)), (.wrsoftintSet 1 (.imm 0x5)), (.wrsoftintClr 1 (.imm 0x5)), (.wrsoftint 1 (.imm 0x5)),
   (.wrtickCmpr 1 (.imm 0x5)), (.wrstickCmpr 1 (.imm 0x5)), (.rdprTpc 1), (.rdprTnpc 1), (.rdprTstate 1),
   (.rdprTt 1), (.rdprTick 1), (.rdprTba 1), (.rdprPstate 1), (.rdprTl 1), (.rdprPil 1), (.rdprCwp 1)] := by decide +kernel

theorem test_decode_state_registers_3 : decodesTo
    [0x83528000, 0x8352C000, 0x83530000, 0x83534000, 0x83538000, 0x83540000, 0x81906000, 0x83906000, 0x85906000,
   0x87906000, 0x8B906000, 0x8D906000, 0x8F902005, 0x91906000, 0x93906000, 0x95906000, 0x97906000, 0x99906000,
   0x9B906000, 0x9D906000]
    [(.rdprCansave 1), (.rdprCanrestore 1), (.rdprCleanwin 1), (.rdprOtherwin 1), (.rdprWstate 1), (.rdprGl 1),
   (.wrprTpc 1 (.imm 0x0)), (.wrprTnpc 1 (.imm 0x0)), (.wrprTstate 1 (.imm 0x0)), (.wrprTt 1 (.imm 0x0)),
   (.wrprTba 1 (.imm 0x0)), (.wrprPstate 1 (.imm 0x0)), (.wrprTl 0 (.imm 0x5)), (.wrprPil 1 (.imm 0x0)),
   (.wrprCwp 1 (.imm 0x0)), (.wrprCansave 1 (.imm 0x0)), (.wrprCanrestore 1 (.imm 0x0)),
   (.wrprCleanwin 1 (.imm 0x0)), (.wrprOtherwin 1 (.imm 0x0)), (.wrprWstate 1 (.imm 0x0))] := by decide +kernel

theorem test_decode_state_registers_4 : decodesTo
    [0xA1906000]
    [(.wrprGl 1 (.imm 0x0))] := by decide +kernel

theorem test_decode_fp_1 : decodesTo
    [0x87A00021, 0x89A00042, 0x91A00064, 0x87A000A1, 0x89A000C2, 0x91A000E4, 0x87A00121, 0x89A00142, 0x91A00164,
   0x87A00521, 0x89A00542, 0x91A00564, 0x89A01021, 0x89A01042, 0x89A01064, 0x87A01082, 0x89A01102, 0x91A01182,
   0x87A01881, 0x87A018C2]
    [(.fmovs 3 1), (.fmovd 4 2), (.fmovq 8 4), (.fnegs 3 1), (.fnegd 4 2), (.fnegq 8 4), (.fabss 3 1), (.fabsd 4 2),
   (.fabsq 8 4), (.fsqrts 3 1), (.fsqrtd 4 2), (.fsqrtq 8 4), (.fstox 4 1), (.fdtox 4 2), (.fqtox 4 4),
   (.fxtos 3 2), (.fxtod 4 2), (.fxtoq 8 2), (.fitos 3 1), (.fdtos 3 2)] := by decide +kernel

theorem test_decode_fp_2 : decodesTo
    [0x87A018E4, 0x89A01901, 0x89A01921, 0x89A01964, 0x91A01981, 0x91A019A1, 0x91A019C2, 0x87A01A21, 0x87A01A42,
   0x87A01A64, 0x87A04822, 0xBFA04842, 0x99A10868, 0x87A048A2, 0x8DA088C4, 0x99A108E8, 0x87A04922, 0x8DA08944,
   0x99A10968, 0x87A049A2]
    [(.fqtos 3 4), (.fitod 4 1), (.fstod 4 1), (.fqtod 4 4), (.fitoq 8 1), (.fstoq 8 1), (.fdtoq 8 2), (.fstoi 3 1),
   (.fdtoi 3 2), (.fqtoi 3 4), (.fadds 3 1 2), (.faddd 31 1 2), (.faddq 12 4 8), (.fsubs 3 1 2), (.fsubd 6 2 4),
   (.fsubq 12 4 8), (.fmuls 3 1 2), (.fmuld 6 2 4), (.fmulq 12 4 8), (.fdivs 3 1 2)] := by decide +kernel

theorem test_decode_fp_3 : decodesTo
    [0x8DA089C4, 0x99A109E8, 0x8DA04D22, 0x99A08DC4, 0x83A84A22, 0x83A88A44, 0x83A90A68, 0x83A84AA2, 0x83A88AC4,
   0x83A90AE8, 0x87AA6021, 0x87AA7021, 0x87AA5021, 0x89AA6042, 0x89AA7042, 0xADA99054, 0x91AA6064, 0x91AA7064,
   0x91AA5064, 0x87AA44A1]
    [(.fdivd 6 2 4), (.fdivq 12 4 8), (.fsmuld 6 1 2), (.fdmulq 12 2 4), (.fcmps 1 1 2), (.fcmpd 1 2 4),
   (.fcmpq 1 4 8), (.fcmpes 1 1 2), (.fcmped 1 2 4), (.fcmpeq 1 4 8), (.fmovsicc 3 9 1), (.fmovsxcc 3 9 1),
   (.fmovsfcc 3 2 9 1), (.fmovdicc 4 9 2), (.fmovdxcc 4 9 2), (.fmovdfcc 22 2 6 20), (.fmovqicc 8 9 4),
   (.fmovqxcc 8 9 4), (.fmovqfcc 8 2 9 4), (.fmovrsz 3 9 1)] := by decide +kernel

theorem test_decode_fp_4 : decodesTo
    [0x87AA48A1, 0x87AA4CA1, 0x87AA54A1, 0x87AA58A1, 0x87AA5CA1, 0x89AA44C2, 0x89AA48C2, 0x89AA4CC2, 0x89AA54C2,
   0x89AA58C2, 0x89AA5CC2, 0x91AA44E4, 0x91AA48E4, 0x91AA4CE4, 0x91AA54E4, 0x91AA58E4, 0x91AA5CE4, 0x89B84622,
   0x91B88C44, 0x89B846A2]
    [(.fmovrslez 3 9 1), (.fmovrslz 3 9 1), (.fmovrsnz 3 9 1), (.fmovrsgz 3 9 1), (.fmovrsgez 3 9 1),
   (.fmovrdz 4 9 2), (.fmovrdlez 4 9 2), (.fmovrdlz 4 9 2), (.fmovrdnz 4 9 2), (.fmovrdgz 4 9 2),
   (.fmovrdgez 4 9 2), (.fmovrqz 8 9 4), (.fmovrqlez 8 9 4), (.fmovrqlz 8 9 4), (.fmovrqnz 8 9 4),
   (.fmovrqgz 8 9 4), (.fmovrqgez 8 9 4), (.fmadds 4 1 3 2), (.fmaddd 8 2 6 4), (.fmsubs 4 1 3 2)] := by decide +kernel

theorem test_decode_fp_5 : decodesTo
    [0x91B88CC4, 0x89B84722, 0x91B88D44, 0x89B847A2, 0x91B88DC4]
    [(.fmsubd 8 2 6 4), (.fnmsubs 4 1 3 2), (.fnmsubd 8 2 6 4), (.fnmadds 4 1 3 2), (.fnmaddd 8 2 6 4)] := by decide +kernel

theorem test_decode_vis_1 : decodesTo
    [0x95B20009, 0x95B20029, 0x95B20049, 0x95B20069, 0x95B20089, 0x95B200A9, 0x95B200C9, 0x95B200E9, 0x95B20109,
   0x95B20129, 0x95B20149, 0x95B20169, 0x95B20209, 0x95B20249, 0x95B20289, 0x95B20309, 0x95B20329, 0x95B20349,
   0x95B00402, 0x95B00442]
    [(.edge8cc 10 8 9), (.edge8n 10 8 9), (.edge8lcc 10 8 9), (.edge8ln 10 8 9), (.edge16cc 10 8 9),
   (.edge16n 10 8 9), (.edge16lcc 10 8 9), (.edge16ln 10 8 9), (.edge32cc 10 8 9), (.edge32n 10 8 9),
   (.edge32lcc 10 8 9), (.edge32ln 10 8 9), (.array8 10 8 9), (.array16 10 8 9), (.array32 10 8 9),
   (.alignaddress 10 8 9), (.bmask 10 8 9), (.alignaddressLittle 10 8 9), (.fcmple16 10 0 2), (.fcmpne16 10 0 2)] := by decide +kernel

theorem test_decode_vis_2 : decodesTo
    [0x95B00482, 0x95B004C2, 0x95B00502, 0x95B00542, 0x95B00582, 0x95B005C2, 0x89B04622, 0x89B04662, 0x89B046A2,
   0x89B006C2, 0x89B006E2, 0x89B04702, 0x89B04722, 0x89B00742, 0x83B00762, 0x83B007A2, 0x89B007C2, 0x89B00902,
   0x89B00962, 0x89B00982]
    [(.fcmple32 10 0 2), (.fcmpne32 10 0 2), (.fcmpgt16 10 0 2), (.fcmpeq16 10 0 2), (.fcmpgt32 10 0 2),
   (.fcmpeq32 10 0 2), (.fmul8x16 4 1 2), (.fmul8x16au 4 1 2), (.fmul8x16al 4 1 2), (.fmul8sux16 4 0 2),
   (.fmul8ulx16 4 0 2), (.fmuld8sux16 4 1 2), (.fmuld8ulx16 4 1 2), (.fpack32 4 0 2), (.fpack16 1 2),
   (.fpackfix 1 2), (.pdist 4 0 2), (.faligndata 4 0 2), (.fpmerge 4 0 2), (.bshuffle 4 0 2)] := by decide +kernel

theorem test_decode_vis_3 : decodesTo
    [0x85B009A1, 0x89B00A02, 0x87B04A22, 0x89B00A42, 0x87B04A62, 0x89B00A82, 0x87B04AA2, 0x89B00AC2, 0x87B04AE2,
   0x89B00C00, 0x87B00C20, 0x89B00C42, 0x87B04C62, 0x89B00C82, 0x87B04CA2, 0x89B00CC2, 0x87B00CE2, 0x89B00D02,
   0x87B04D22, 0x89B00D40]
    [(.fexpand 2 1), (.fpadd16 4 0 2), (.fpadd16s 3 1 2), (.fpadd32 4 0 2), (.fpadd32s 3 1 2), (.fpsub16 4 0 2),
   (.fpsub16s 3 1 2), (.fpsub32 4 0 2), (.fpsub32s 3 1 2), (.fzerod 4), (.fzeros 3), (.fnord 4 0 2),
   (.fnors 3 1 2), (.fandnot2d 4 0 2), (.fandnot2s 3 1 2), (.fnot2d 4 2), (.fnot2s 3 2), (.fandnot1d 4 0 2),
   (.fandnot1s 3 1 2), (.fnot1d 4 0)] := by decide +kernel

theorem test_decode_vis_4 : decodesTo
    [0x87B04D60, 0x89B00D82, 0x87B04DA2, 0x89B00DC2, 0x87B04DE2, 0x89B00E02, 0x87B04E22, 0x89B00E42, 0x87B04E62,
   0x89B00E80, 0x87B04EA0, 0x89B00EC2, 0x87B04EE2, 0x89B00F02, 0x87B00F22, 0x89B00F42, 0x87B04F62, 0x89B00F82,
   0x87B04FA2, 0x89B00FC0]
    [(.fnot1s 3 1), (.fxord 4 0 2), (.fxors 3 1 2), (.fnandd 4 0 2), (.fnands 3 1 2), (.fandd 4 0 2),
   (.fands 3 1 2), (.fxnord 4 0 2), (.fxnors 3 1 2), (.fsrc1d 4 0), (.fsrc1s 3 1), (.fornot2d 4 0 2),
   (.fornot2s 3 1 2), (.fsrc2d 4 2), (.fsrc2s 3 2), (.fornot1d 4 0 2), (.fornot1s 3 1 2), (.ford 4 0 2),
   (.fors 3 1 2), (.foned 4)] := by decide +kernel

theorem test_decode_vis_5 : decodesTo
    [0x87B00FE0, 0x81B01025]
    [(.fones 3), (.siam 5)] := by decide +kernel

/-- Reserved encodings (95_test_vectors.md part 9; 30_encoding.md R360 to R364): none decodes. -/
theorem test_reserved_words :
    [0x85704001#32, 0x12580010, 0x85F00000, 0x8D880000, 0xCB6A2040, 0x8143C000].all
      (fun w => match decode w with | .ok _ => false | .error _ => true) = true := by decide +kernel

/-! ### Integer instructions (95_test_vectors.md part 2) -/

theorem test_add_cc :
    alu 0x86804002 0x7FFFFFFF 1 0 = some (0x80000000, 0x0A) ∧ alu 0x86804002 0xFFFFFFFFFFFFFFFF 1 0 = some (0, 0x55)
    ∧ alu 0x86804002 0x7FFFFFFFFFFFFFFF 1 0 = some (0x8000000000000000, 0xA5)
    ∧ alu 0x86404002 1 2 0x10 = some (3, 0x10) ∧ alu 0x86404002 1 2 0x01 = some (4, 0x01)
    ∧ alu 0x86C04002 0xFFFFFFFF 0 0x01 = some (0x100000000, 0x05) := by decide +kernel

theorem test_sub_cc :
    alu 0x86A04002 0 1 0 = some (0xFFFFFFFFFFFFFFFF, 0x99) ∧ alu 0x86A04002 0x80000000 1 0 = some (0x7FFFFFFF, 0x02)
    ∧ alu 0x86A04002 0x8000000000000000 1 0 = some (0x7FFFFFFFFFFFFFFF, 0x29)
    ∧ alu 0x86604002 5 2 0x01 = some (2, 0x01) ∧ alu 0x86E04002 0 0 0x01 = some (0xFFFFFFFFFFFFFFFF, 0x99) := by
  decide +kernel

theorem test_logical_cc :
    alu 0x86884002 0xF0F0F0F0F0F0F0F0 0x0F0F0F0F0F0F0F0F 0xFF = some (0, 0x44)
    ∧ alu 0x86904002 0x80000000 0 0xFF = some (0x80000000, 0x08)
    ∧ alu 0x86984002 0x1FFFFFFFF 0x100000000 0 = some (0xFFFFFFFF, 0x08)
    ∧ alu 0x86B84002 0 0 0 = some (0xFFFFFFFFFFFFFFFF, 0x88) ∧ alu 0x86A84002 0xFF 0x0F 0 = some (0xF0, 0x00)
    ∧ alu 0x86B04002 0 0xFFFFFFFFFFFFFFFF 0x33 = some (0, 0x44) := by decide +kernel

theorem test_add_sub_logical :
    alu 0x86004002 5 3 0x33 = some (8, 0x33) ∧ alu 0x86204002 5 3 0x33 = some (2, 0x33)
    ∧ alu 0x86084002 5 3 0x33 = some (1, 0x33) ∧ alu 0x86104002 5 3 0x33 = some (7, 0x33)
    ∧ alu 0x86184002 5 3 0x33 = some (6, 0x33) ∧ alu 0x86284002 5 3 0x33 = some (4, 0x33)
    ∧ alu 0x86304002 5 3 0x33 = some (0xFFFFFFFFFFFFFFFD, 0x33)
    ∧ alu 0x86384002 5 3 0x33 = some (0xFFFFFFFFFFFFFFF9, 0x33) := by decide +kernel

theorem test_mulx_divx :
    alu 0x86484002 0xFFFFFFFFFFFFFFFF 2 0 = some (0xFFFFFFFFFFFFFFFE, 0)
    ∧ alu 0x87684002 0xFFFFFFFFFFFFFFF9 2 0 = some (0xFFFFFFFFFFFFFFFD, 0)
    ∧ alu 0x87684002 0x8000000000000000 0xFFFFFFFFFFFFFFFF 0 = some (0x8000000000000000, 0)
    ∧ alu 0x86684002 0xFFFFFFFFFFFFFFFF 2 0 = some (0x7FFFFFFFFFFFFFFF, 0)
    ∧ trapped 0x86684002 (regs [(1, 1)]) = some (0x028, 0x500, 0) := by decide +kernel

theorem test_mul32 :
    aluY 0x86504002 0 0xFFFFFFFF 0xFFFFFFFF 0x33 = some (0xFFFFFFFE00000001, 0xFFFFFFFE, 0x33)
    ∧ aluY 0x86D04002 0 0x80000000 2 0 = some (0x100000000, 1, 0x04)
    ∧ aluY 0x86584002 0 0xFFFFFFFF 2 0x33 = some (0xFFFFFFFFFFFFFFFE, 0xFFFFFFFF, 0x33)
    ∧ aluY 0x86D84002 0 0x80000000 0x80000000 0 = some (0x4000000000000000, 0x40000000, 0x04)
    ∧ aluY 0x87204002 1 0xFFFFFFFF 0xFFFFFFFF 0 = some (0x17FFFFFFE, 0x80000000, 0x01)
    ∧ aluY 0x87204002 0 6 5 0x08 = some (0x80000003, 0, 0x08) := by decide +kernel

/-- `R[3]` and CCR after a word, from Y, `R[1]` and `R[2]`. -/
def divided (w : Word32) (y : Word32) (a b : Word64) : Option (Word64 × BitVec 8) :=
  (ran w { regs [(1, a), (2, b)] with y := y }).map fun t => (readReg t 3, t.ccr)

theorem test_div32 :
    divided 0x86704002 1 0 2 = some (0x80000000, 0) ∧ divided 0x86704002 2 0 2 = some (0xFFFFFFFF, 0)
    ∧ divided 0x86F04002 1 0 1 = some (0xFFFFFFFF, 0x0A)
    ∧ divided 0x86784002 0xFFFFFFFF 0xFFFFFFF9 4 = some (0xFFFFFFFFFFFFFFFF, 0)
    ∧ divided 0x86F84002 0 0x80000000 1 = some (0x7FFFFFFF, 0x02)
    ∧ divided 0x86F84002 0x80000000 0 1 = some (0xFFFFFFFF80000000, 0x8A)
    ∧ trapped 0x86784002 (regs [(1, 1), (2, 0x100000000)]) = some (0x028, 0x500, 0) := by decide +kernel

theorem test_tagged :
    alu 0x87004002 4 5 0 = some (9, 0x02) ∧ alu 0x87004002 0x7FFFFFFC 4 0 = some (0x80000000, 0x0A)
    ∧ alu 0x87084002 0x80000000 4 0 = some (0x7FFFFFFC, 0x02) ∧ alu 0x87104002 4 8 0x02 = some (0xC, 0x00)
    ∧ trapped 0x87104002 (regs [(1, 1)]) = some (0x023, 0x460, 0)
    ∧ trapped 0x87184002 (regs [(1, 8), (2, 3)]) = some (0x023, 0x460, 0) := by decide +kernel

theorem test_shifts :
    alu 0x87284002 0x80000001 33 0 = some (0x100000002, 0) ∧ alu 0x87304002 0xFFFFFFFF80000000 31 0 = some (1, 0)
    ∧ alu 0x87384002 0x1234567880000000 0 0 = some (0xFFFFFFFF80000000, 0) ∧ alu 0x87285002 1 65 0 = some (2, 0)
    ∧ alu 0x87305002 0x8000000000000000 63 0 = some (1, 0)
    ∧ alu 0x87385002 0x8000000000000000 63 0 = some (0xFFFFFFFFFFFFFFFF, 0) := by decide +kernel

theorem test_sethi_popc :
    (ran 0x112AF344 State.reset).map (readReg · 8) = some 0xABCD1000
    ∧ (ran 0x85700001 (regs [(1, 0xFFFFFFFFFFFFFFFF)])).map (readReg · 2) = some 64
    ∧ (ran 0x85703FFF State.reset).map (readReg · 2) = some 64 := by decide +kernel

theorem test_movcc :
    [0x00#8, 0x04, 0x08, 0x0A, 0x40, 0x80, 0xA0].map
      (fun cc => (ran 0xB766B001 { State.reset with ccr := cc }).map (readReg · 27))
      = [some 1, some 1, some 1, some 1, some 0, some 0, some 1] := by decide +kernel

theorem test_movr :
    [0x877867FF#32, 0x87786BFF, 0x87786FFF, 0x877877FF, 0x87787BFF, 0x87787FFF].map
      (fun w => (ran w (regs [(1, 0x8000000000000000)])).map (readReg · 3))
      = [some 0, some 0xFFFFFFFFFFFFFFFF, some 0xFFFFFFFFFFFFFFFF, some 0xFFFFFFFFFFFFFFFF, some 0, some 0] := by
  decide +kernel

/-! ### Control transfer (95_test_vectors.md part 3) -/

theorem test_bicc :
    jumped 0x10800010 0 0 = some (0x1004, 0x1040) ∧ jumped 0x30800010 0 0 = some (0x1040, 0x1044)
    ∧ jumped 0x20800010 0 0 = some (0x1008, 0x100C) ∧ jumped 0x12800010 0x04 0 = some (0x1004, 0x1008)
    ∧ jumped 0x32800010 0x04 0 = some (0x1008, 0x100C) ∧ jumped 0x32800010 0 0 = some (0x1004, 0x1040)
    ∧ jumped 0x08800010 0x04 0 = some (0x1004, 0x1040) := by decide +kernel

theorem test_bpcc_bpr :
    jumped 0x326FFFFC 0x04 0 = some (0x1004, 0x0FF0) ∧ jumped 0x326FFFFC 0x40 0 = some (0x1008, 0x100C)
    ∧ jumped 0x06F23FF8 0 0xFFFFFFFFFFFFFFFF = some (0x1004, 0x0FE0) ∧ jumped 0x0CF23FF8 0 0 = some (0x1004, 0x1008)
    ∧ jumped 0x2AFA3FF8 0 0 = some (0x1008, 0x100C) := by decide +kernel

theorem test_call_jmpl_return :
    (ran 0x40000010 State.reset).map (fun t => (readReg t 15, t.pc, t.npc)) = some (0x1000, 0x1004, 0x1040)
    ∧ (ran 0x9FC3C000 (regs [(15, 0x3000)])).map (fun t => (readReg t 15, t.npc)) = some (0x1000, 0x3000)
    ∧ left 0x9FC04000 (regs [(1, 0x2002)]) = some (.trap 0x034)
    ∧ (ran 0x81CFE008 (writeReg { State.reset with cwp := 1, cansave := 5, canrestore := 1 } 31 0x2008)).map
        (fun t => (t.npc, t.cwp, t.cansave, t.canrestore)) = some (0x2010, 0, 6, 0) := by decide +kernel

/-- Nonprivileged, TBA 0x01000000. -/
def userState : State := { State.reset with pstate := 0x010, tba := 0x200 }

theorem test_tcc :
    trapped 0x91D02005 userState = some (0x105, 0x010020A0, 0) ∧ trapped 0x91D03083 userState = some (0x103, 0x01002060, 0)
    ∧ left 0x91D03083 State.reset = some (.trap 0x183)
    ∧ (ran 0x83D02005 { userState with ccr := 0x40 }).map (·.npc) = some 0x1008
    ∧ (ran 0x91D02005 { userState with pstate := 0x014, tl := 1 }).map (·.pc) = some 0x010060A0
    ∧ left 0x91D02005 { userState with pstate := 0x014, tl := 2 } = some (.trap 0x105) := by decide +kernel

/-- The frame of the vectors of DONE and RETRY. -/
def handlerState : State :=
  { State.reset with
    tl := 1, gl := 1
    trapStack := State.reset.trapStack.set 0
      { tpc := BitVec.ofNat 62 (0x4000 / 4), tnpc := BitVec.ofNat 62 (0x4004 / 4), tstate := 0x0000004480001203, tt := 0x103 } }

theorem test_done_retry :
    (ran 0x81F00000 handlerState).map (fun t => (t.pc, t.npc, t.gl, t.ccr, t.asi)) = some (0x4004, 0x4008, 0, 0x44, 0x80)
    ∧ (ran 0x81F00000 handlerState).map (fun t => (t.pstate, t.cwp, t.tl)) = some (0x012, 3, 0)
    ∧ (ran 0x83F00000 handlerState).map (fun t => (t.pc, t.npc)) = some (0x4000, 0x4004)
    ∧ left 0x81F00000 State.reset = some (.trap 0x010) ∧ trapped 0x81F00000 userState = some (0x011, 0x01000220, 0) := by
  decide +kernel

theorem test_illtrap : left 0x00000000 State.reset = some (.trap 0x010) := by decide +kernel

/-- 95_test_vectors.md T1: what trap entry saves. -/
theorem test_trap_entry :
    (ran 0x91D02003 { State.reset with
        pc := 0x4000, npc := 0x4004, pstate := 0x012, asi := 0x80, cwp := 3, ccr := 0x44, tba := 0x200 }).map
      (fun t => (t.tl, t.gl, t.pstate, t.pc, t.npc)) = some (1, 1, 0x014, 0x01002060, 0x01002064)
    ∧ (ran 0x91D02003 { State.reset with
        pc := 0x4000, npc := 0x4004, pstate := 0x012, asi := 0x80, cwp := 3, ccr := 0x44, tba := 0x200 }).map
      (fun t => t.trapStack[0]) = some ⟨BitVec.ofNat 62 (0x4000 / 4), BitVec.ofNat 62 (0x4004 / 4), 0x0000004480001203, 0x103⟩ := by
  decide +kernel

/-! ### Loads, stores and atomics (95_test_vectors.md part 4) -/

theorem test_loads :
    [0xD20A2000#32, 0xD24A2000, 0xD2122002, 0xD2522000, 0xD2022004, 0xD2422000, 0xD25A2000].map
      (fun w => (ran w loadState).map (readReg · 9))
      = [some 0x81, some 0xFFFFFFFFFFFFFF81, some 0xB3C4, some 0xFFFFFFFFFFFF81A2, some 0xD5E6F708,
          some 0xFFFFFFFF81A2B3C4, some 0x81A2B3C4D5E6F708]
    ∧ left 0xD2122001 loadState = some (.trap 0x034) := by decide +kernel

theorem test_alternate_loads :
    [0xD2821100#32, 0xD2DA1100, 0xD2921100, 0xD2D21100, 0xD2820080].map (fun w => (ran w loadState).map (readReg · 9))
      = [some 0xC4B3A281, some 0x08F7E6D5C4B3A281, some 0xA281, some 0xFFFFFFFFFFFFA281, some 0x81A2B3C4]
    ∧ left 0xD2820080 { loadState with pstate := 0x010 } = some (.trap 0x037) := by decide +kernel

/-- `R[8]` = 0x2000, `R[9]` = 0x1122334455667788. -/
def storeState : State := regs [(8, 0x2000), (9, 0x1122334455667788)]

theorem test_stores :
    stored 0xD22A2000 storeState 2 = some [some 0x88, none] ∧ stored 0xD2322000 storeState 3 = some [some 0x77, some 0x88, none]
    ∧ stored 0xD2222000 storeState 4 = some [some 0x55, some 0x66, some 0x77, some 0x88]
    ∧ stored 0xD2722000 storeState 8
        = some [some 0x11, some 0x22, some 0x33, some 0x44, some 0x55, some 0x66, some 0x77, some 0x88]
    ∧ left 0xD2322001 storeState = some (.trap 0x034) := by decide +kernel

theorem test_alternate_stores :
    stored 0xD2A21100 storeState 4 = some [some 0x88, some 0x77, some 0x66, some 0x55]
    ∧ stored 0xD2F21100 storeState 8
        = some [some 0x88, some 0x77, some 0x66, some 0x55, some 0x44, some 0x33, some 0x22, some 0x11]
    ∧ stored 0xD2B21100 storeState 3 = some [some 0x88, some 0x77, none] := by decide +kernel

theorem test_twin :
    (ran 0xD41A2000 loadState).map (fun t => (readReg t 10, readReg t 11)) = some (0x81A2B3C4, 0xD5E6F708)
    ∧ stored 0xD43A2000 (regs [(8, 0x2000), (10, 0xAAAAAAAA11223344), (11, 0xBBBBBBBB55667788)]) 8
        = some [some 0x11, some 0x22, some 0x33, some 0x44, some 0x55, some 0x66, some 0x77, some 0x88]
    ∧ left 0xD21A2000 loadState = some (.trap 0x010) := by decide +kernel

theorem test_ldstub_swap :
    (ran 0xD26A2000 loadState).map (readReg · 9) = some 0x81 ∧ stored 0xD26A2000 loadState 2 = some [some 0xFF, some 0xA2]
    ∧ (ran 0xD27A2000 (writeReg loadState 9 0xFFFFFFFF11223344)).map (readReg · 9) = some 0x81A2B3C4
    ∧ stored 0xD27A2000 (writeReg loadState 9 0xFFFFFFFF11223344) 5
        = some [some 0x11, some 0x22, some 0x33, some 0x44, some 0xD5] := by decide +kernel

/-- The state of the vectors of CASA and CASXA, `R[9]` given. -/
def casState (r9 : Word64) : State := writeReg (writeReg loadState 9 r9) 10 0x0102030405060708

theorem test_casa :
    (ran 0xD5E21009 (casState 0xFFFFFFFF81A2B3C4)).map (readReg · 10) = some 0x81A2B3C4
    ∧ stored 0xD5E21009 (casState 0xFFFFFFFF81A2B3C4) 5 = some [some 5, some 6, some 7, some 8, some 0xD5]
    ∧ (ran 0xD5E21009 (casState 0x81A2B3C5)).map (readReg · 10) = some 0x81A2B3C4
    ∧ stored 0xD5E21009 (casState 0x81A2B3C5) 2 = some [some 0x81, some 0xA2]
    ∧ stored 0xD5E21109 (casState 0xC4B3A281) 4 = some [some 8, some 7, some 6, some 5] := by decide +kernel

theorem test_casxa :
    (ran 0xD5F21009 (casState 0x81A2B3C4D5E6F708)).map (readReg · 10) = some 0x81A2B3C4D5E6F708
    ∧ stored 0xD5F21009 (casState 0x81A2B3C4D5E6F708) 8
        = some [some 1, some 2, some 3, some 4, some 5, some 6, some 7, some 8]
    ∧ stored 0xD5F21009 (casState 0) 2 = some [some 0x81, some 0xA2] := by decide +kernel

/-! ### Register windows and state registers (95_test_vectors.md part 5) -/

theorem test_save_restore :
    (ran 0x9DE3BF50 (regs [(14, 0x1000)])).map (fun t => (t.cwp, t.cansave, t.canrestore, readReg t 14, readReg t 30))
      = some (1, 5, 1, 0xF50, 0x1000)
    ∧ (ran 0x91EBA001 (writeReg { State.reset with cwp := 1, cansave := 5, canrestore := 1 } 14 0xF50)).map
        (fun t => (t.cwp, t.cansave, t.canrestore, readReg t 8)) = some (0, 6, 0, 0xF51) := by decide +kernel

/-- Nonprivileged, with window registers. -/
def windowState (cwp cansave canrestore otherwin cleanwin : BitVec 3) (wstate : BitVec 6) : State :=
  { userState with
    cwp := cwp, cansave := cansave, canrestore := canrestore, otherwin := otherwin, cleanwin := cleanwin, wstate := wstate }

theorem test_window_traps :
    trapped 0x81E00000 (windowState 6 0 6 0 7 0) = some (0x080, 0x01001000, 0)
    ∧ trapped 0x81E00000 (windowState 6 0 4 2 7 0x29) = some (0x0B4, 0x01001680, 0)
    ∧ trapped 0x81E00000 (windowState 6 3 3 0 3 0) = some (0x024, 0x01000480, 7)
    ∧ trapped 0x81E00000 (windowState 6 0 0 0 0 0) = some (0x080, 0x01001000, 0)
    ∧ trapped 0x81E80000 (windowState 2 6 0 0 7 0) = some (0x0C0, 0x01001800, 1)
    ∧ trapped 0x81E80000 (windowState 2 4 0 2 7 0x29) = some (0x0F4, 0x01001E80, 1)
    ∧ trapped 0x81580000 (windowState 2 2 3 1 4 0) = some (0x0A0, 0x01001400, 6) := by decide +kernel

/-- CANSAVE, CANRESTORE, OTHERWIN and CLEANWIN after a word, in privileged mode. -/
def windows (w : Word32) (cansave canrestore otherwin cleanwin : BitVec 3) : Option (List (BitVec 3)) :=
  (ran w { windowState 0 cansave canrestore otherwin cleanwin 0 with pstate := 0x014 }).map
    fun t => [t.cansave, t.canrestore, t.otherwin, t.cleanwin]

theorem test_window_bookkeeping :
    windows 0x81880000 2 3 1 4 = some [3, 3, 0, 4] ∧ windows 0x81880000 2 4 0 4 = some [3, 3, 0, 4]
    ∧ windows 0x83880000 2 3 1 4 = some [2, 4, 0, 5] ∧ windows 0x83880000 3 3 0 7 = some [2, 4, 0, 7]
    ∧ windows 0x85880000 2 3 1 4 = some [2, 3, 1, 7] ∧ windows 0x87880000 2 3 1 4 = some [2, 0, 3, 4]
    ∧ windows 0x89880000 2 3 1 4 = some [2, 1, 0, 4] ∧ windows 0x8B880000 2 3 1 4 = some [6, 0, 0, 4] := by decide +kernel

theorem test_write_state_registers :
    (ran 0x85806005 (regs [(1, 0xFF)])).map (·.ccr) = some 0xFA
    ∧ (ran 0x81804002 (regs [(1, 0x1000000FF), (2, 0x0F)])).map (·.y) = some 0xF0
    ∧ (ran 0x87802088 State.reset).map (·.asi) = some 0x88 ∧ (ran 0x8D802004 State.reset).map (·.fprs) = some 4
    ∧ (ran 0x8F902005 State.reset).map (·.tl) = some 2 ∧ (ran 0xA1902005 State.reset).map (·.gl) = some 2
    ∧ (ran 0x8B904000 (regs [(1, 0x0123456789ABCDEF)])).map (·.tba) = some (BitVec.ofNat 49 (0x0123456789ABCDEF / 2 ^ 15))
    ∧ (ran 0x9390201F State.reset).map (·.cwp) = some 7 ∧ (ran 0x8D902016 State.reset).map (·.pstate) = some 0x016 := by
  decide +kernel

theorem test_read_state_registers :
    (ran 0x91400000 { State.reset with y := 0xF0 }).map (readReg · 8) = some 0xF0
    ∧ (ran 0x91414000 State.reset).map (readReg · 8) = some 0x1000
    ∧ (ran 0x91408000 { State.reset with ccr := 0x99 }).map (readReg · 8) = some 0x99
    ∧ (ran 0x85514000 { State.reset with tba := BitVec.ofNat 49 (0x0123456789ABCDEF / 2 ^ 15) }).map (readReg · 2)
        = some 0x0123456789AB8000
    ∧ (ran 0x8350C000 handlerState).map (readReg · 1) = some 0x103
    ∧ trapped 0x91458000 userState = some (0x011, 0x01000220, 0)
    ∧ left 0x91410000 { userState with tick := 0x8000000000000000 } = some (.trap 0x037)
    ∧ left 0x83500000 State.reset = some (.trap 0x010) := by decide +kernel

/-! ### Floating point (95_test_vectors.md part 6) -/

/-- `FS[3]` and `FSR.cexc` after a word, from `FS[1]` and `FS[2]`. -/
def fpS (w : Word32) (a b : Word32) : Option (Word32 × BitVec 5) :=
  (ran w (singles State.reset [(1, a), (2, b)])).map fun t => (readS t 3, t.fsr.extractLsb' 0 5)

/-- `FD[6]` and `FSR.cexc` after a word, from `FD[2]` and `FD[4]`. -/
def fpD (w : Word32) (a b : Word64) : Option (Word64 × BitVec 5) :=
  (ran w (doubles State.reset [(2, a), (4, b)])).map fun t => (readD t 6, t.fsr.extractLsb' 0 5)

/-- `FD[4]` and `FSR.cexc` after a word, from `FD[2]`. -/
def fpUnary (w : Word32) (a : Word64) : Option (Word64 × BitVec 5) :=
  (ran w (doubles State.reset [(2, a)])).map fun t => (readD t 4, t.fsr.extractLsb' 0 5)

/-- `FD[4]` and `FSR.cexc` after a word, from `FS[1]`. -/
def fpWide (w : Word32) (a : Word32) : Option (Word64 × BitVec 5) :=
  (ran w (singles State.reset [(1, a)])).map fun t => (readD t 4, t.fsr.extractLsb' 0 5)

/-- `FS[3]` and `FSR.cexc` after a word, from `FD[2]`. -/
def fpNarrow (w : Word32) (a : Word64) : Option (Word32 × BitVec 5) :=
  (ran w (doubles State.reset [(2, a)])).map fun t => (readS t 3, t.fsr.extractLsb' 0 5)

theorem test_fmov_fneg_fabs :
    fpS 0x87A00021 0x7FA00000 0 = some (0x7FA00000, 0) ∧ fpS 0x87A000A1 0 0 = some (0x80000000, 0)
    ∧ fpUnary 0x89A00142 0xFFF0000000000000 = some (0x7FF0000000000000, 0) := by decide +kernel

theorem test_fadd_fsub :
    fpS 0x87A04822 0x3F800000 0x40000000 = some (0x40400000, 0)
    ∧ fpD 0x8DA08844 0x7FF0000000000000 0xFFF0000000000000 = some (0x7FFFFFFFFFFFFFFF, 0x10)
    ∧ fpS 0x87A048A2 0x3F800000 0x3F800000 = some (0, 0) := by decide +kernel

/-- The enabled condition traps: FSR.ftt is 1, cexc says which, and the destination is not written. -/
theorem test_fp_trap :
    (ran 0x8DA08844 { doubles State.reset [(2, 0x7FF0000000000000), (4, 0xFFF0000000000000)] with fsr := 0x8000000 }).map
      (fun t => (readD t 6, t.fsr, t.trapStack[0].tt)) = some (0, 0x8004010, 0x021)
    ∧ trapped 0x87A04822 { State.reset with fprs := 0 } = some (0x020, 0x400, 0)
    ∧ left 0x99A10868 { State.reset with fprs := 0 } = some (.trap 0x010) := by decide +kernel

theorem test_fmul :
    fpS 0x87A04922 0x40000000 0x40400000 = some (0x40C00000, 0)
    ∧ fpD 0x8DA08944 0x7FE0000000000000 0x4000000000000000 = some (0x7FF0000000000000, 0x09)
    ∧ (ran 0x8DA04D22 (singles State.reset [(1, 0x3FC00000), (2, 0x3FC00000)])).map (readD · 6)
        = some 0x4002000000000000 := by decide +kernel

theorem test_fdiv_fsqrt :
    fpS 0x87A049A2 0x3F800000 0 = some (0x7F800000, 0x02)
    ∧ fpD 0x8DA089C4 0x3FF0000000000000 0x4008000000000000 = some (0x3FD5555555555555, 0x01)
    ∧ fpS 0x87A00521 0x40800000 0 = some (0x40000000, 0) ∧ fpS 0x87A00521 0xBF800000 0 = some (0x7FFFFFFF, 0x10)
    ∧ fpUnary 0x89A00542 0x4000000000000000 = some (0x3FF6A09E667F3BCD, 0x01) := by decide +kernel

theorem test_to_floating_point :
    fpS 0x87A01881 0x01000001 0 = some (0x4B800000, 0x01) ∧ fpWide 0x89A01901 0xFFFFFFFF = some (0xBFF0000000000000, 0)
    ∧ fpNarrow 0x87A01082 0x7FFFFFFFFFFFFFFF = some (0x5F000000, 0x01)
    ∧ fpUnary 0x89A01102 0x8000000000000000 = some (0xC3E0000000000000, 0)
    ∧ fpWide 0x89A01921 0x7FA00000 = some (0x7FFC000000000000, 0x10)
    ∧ fpNarrow 0x87A018C2 0x47F0000000000000 = some (0x7F800000, 0x09) := by decide +kernel

theorem test_to_integer :
    fpS 0x87A01A21 0x40200000 0 = some (2, 0x01) ∧ fpS 0x87A01A21 0x4F000000 0 = some (0x7FFFFFFF, 0x10)
    ∧ fpNarrow 0x87A01A42 0xFFF8000000000000 = some (0x80000000, 0x10)
    ∧ fpWide 0x89A01021 0xDF000000 = some (0x8000000000000000, 0)
    ∧ fpUnary 0x89A01042 0xBFF8000000000000 = some (0xFFFFFFFFFFFFFFFF, 0x01) := by decide +kernel

/-- `fcc1` and `FSR.cexc` after a word, from `FS[1]` and `FS[2]`. -/
def compared (w : Word32) (a b : Word32) : Option (BitVec 2 × BitVec 5) :=
  (ran w (singles State.reset [(1, a), (2, b)])).map fun t => (fccOf t.fsr 1, t.fsr.extractLsb' 0 5)

theorem test_fcmp :
    compared 0x83A84A22 0x3F800000 0x40000000 = some (1, 0) ∧ compared 0x83A84A22 0x7FC00000 0 = some (3, 0)
    ∧ compared 0x83A84AA2 0x7FC00000 0 = some (3, 0x10)
    ∧ (ran 0x83A88A44 (doubles State.reset [(2, 0x8000000000000000), (4, 0)])).map (fun t => fccOf t.fsr 1) = some 0 := by
  decide +kernel

theorem test_fused :
    (ran 0x89B84622 (singles State.reset [(1, 0x3F800001), (2, 0x3F800001), (3, 0xBF800002)])).map
      (fun t => (readS t 4, t.fsr.extractLsb' 0 5)) = some (0x28800000, 0)
    ∧ (ran 0x91B88C44 (doubles State.reset [(2, 0x4000000000000000), (4, 0x4008000000000000), (6, 0x3FF0000000000000)])).map
      (readD · 8) = some 0x401C000000000000
    ∧ (ran 0x89B84722 (singles State.reset [(1, 0x40000000), (2, 0x40400000), (3, 0x3F800000)])).map (readS · 4)
      = some 0xC0A00000 := by decide +kernel

theorem test_fp_loads :
    (ran 0xC7026004 { regs [(9, 0x1FFC)] with mem := bytesAt 0x2000 [0x3F, 0x80, 0, 0] }).map (fun t => (readS t 3, t.fprs))
      = some (0x3F800000, 5)
    ∧ left 0xC51A6008 (regs [(9, 0xFFC)]) = some (.trap 0x035) ∧ left 0xC51A6008 (regs [(9, 0xFFA)]) = some (.trap 0x034)
    ∧ (ran 0xC71A400A { regs [(9, 0x1000), (10, 0x1000)] with mem := loadState.mem }).map
        (fun t => (readFd t 34, t.fprs)) = some (0x81A2B3C4D5E6F708, 6)
    ∧ left 0xC9126000 loadState = some (.trap 0x010)
    ∧ (ran 0xC7825100 { regs [(9, 0x2000)] with mem := bytesAt 0x2000 [0, 0, 0x80, 0x3F] }).map (readS · 3)
        = some 0x3F800000 := by decide +kernel

theorem test_fsr :
    (ran 0xC10A6000 { regs [(9, 0x2000)] with mem := bytesAt 0x2000 [0xC0, 0, 0x0C, 0], fsr := 0x3F0001C3FF }).map (·.fsr)
      = some 0x3FC001CC00
    ∧ (ran 0xC30A6000 { regs [(9, 0x2000)] with mem := bytesAt 0x2000 [0, 0, 0, 0x3F, 0, 0, 0, 0] }).map (·.fsr)
      = some 0x3F00000000
    ∧ stored 0xC32A6000 { regs [(9, 0x2000)] with fsr := 0x4010 } 8
        = some [some 0, some 0, some 0, some 0, some 0, some 0, some 0x40, some 0x10]
    ∧ (ran 0xC32A6000 { regs [(9, 0x2000)] with fsr := 0x4010 }).map (·.fsr) = some 0x10 := by decide +kernel

theorem test_short_and_block :
    (ran 0xC59A5A00 { regs [(9, 0x2000)] with mem := bytesAt 0x2000 [0xAB] }).map (readD · 2) = some 0xAB
    ∧ (ran 0xC59A5B40 { regs [(9, 0x2000)] with mem := bytesAt 0x2000 [0x34, 0x12] }).map (readD · 2) = some 0x1234
    ∧ stored 0xC5BA5A40 (doubles (regs [(9, 0x2000)]) [(2, 0x1122334455667788)]) 3 = some [some 0x77, some 0x88, none]
    ∧ (ran 0xE19A5E00 { regs [(9, 0x2000)] with mem := bytesAt 0x2000 ((List.range 64).map (BitVec.ofNat 8)) }).map
        (fun t => (readFd t 16, readFd t 30)) = some (0x0001020304050607, 0x38393A3B3C3D3E3F)
    ∧ left 0xC59A5E00 (regs [(9, 0x2000)]) = some (.trap 0x010) := by decide +kernel

/-- All bytes at 0x2000 FF, `R[9]` = 0x2000, `R[10]` given, `FD[2]` of the vectors. -/
def partialState (mask : Word64) : State :=
  { doubles (regs [(9, 0x2000), (10, mask)]) [(2, 0x0011223344556677)] with mem := bytesAt 0x2000 (List.replicate 8 0xFF) }

theorem test_partial_store :
    stored 0xC5BA580A (partialState 0x81) 8
      = some [some 0, some 0xFF, some 0xFF, some 0xFF, some 0xFF, some 0xFF, some 0xFF, some 0x77]
    ∧ stored 0xC5BA584A (partialState 8) 3 = some [some 0, some 0x11, some 0xFF] := by decide +kernel

/-! ### VIS (95_test_vectors.md part 7) -/

/-- `R[10]` and GSR after a word, from `R[8]` and `R[9]`. -/
def visR (w : Word32) (a b : Word64) : Option (Word64 × Word64) :=
  (ran w (regs [(8, a), (9, b)])).map fun t => (readReg t 10, t.gsr)

/-- `FD[4]` after a word, from `FD[0]`, `FD[2]` and GSR. -/
def visD (w : Word32) (a b gsr : Word64) : Option Word64 :=
  (ran w { doubles State.reset [(0, a), (2, b), (4, 100)] with gsr := gsr }).map (readD · 4)

/-- `FD[4]` after a word, from `FS[1]` and `FS[2]`. -/
def visS (w : Word32) (a b : Word32) : Option Word64 := (ran w (singles State.reset [(1, a), (2, b)])).map (readD · 4)

theorem test_align :
    visR 0x95B20309 0x1003 2 = some (0x1000, 5) ∧ visR 0x95B20349 0x1003 2 = some (0x1000, 3)
    ∧ visD 0x89B00902 0x0001020304050607 0x08090A0B0C0D0E0F 5 = some 0x05060708090A0B0C
    ∧ visR 0x95B20329 0x01234567 0 = some (0x01234567, 0x0123456700000000)
    ∧ visD 0x89B00982 0x0001020304050607 0x08090A0B0C0D0E0F 0xFEDCBA9800000000 = some 0x0F0E0D0C0B0A0908
    ∧ (ran 0x81B01025 State.reset).map (·.gsr) = some 0xA000000 := by decide +kernel

theorem test_array :
    visR 0x95B20209 0x800 0 = some (1, 0) ∧ visR 0x95B20209 0x2000 0 = some (0x20, 0)
    ∧ visR 0x95B20249 0x800 0 = some (2, 0) ∧ visR 0x95B20289 0x800 0 = some (4, 0) := by decide +kernel

theorem test_edge :
    visR 0x95B20009 0x1002 0x1005 = some (0x3C, 0) ∧ visR 0x95B20009 0x1002 0x2005 = some (0x3F, 0)
    ∧ visR 0x95B20049 0x1002 0x2005 = some (0xFC, 0) ∧ visR 0x95B200A9 0x1002 0x1005 = some (0x6, 0)
    ∧ visR 0x95B20129 0x1002 0x1005 = some (0x3, 0)
    ∧ (ran 0x95B20009 (regs [(8, 0x1002), (9, 0x1005)])).map (·.ccr) = some 0x99 := by decide +kernel

theorem test_vis_compare :
    [0x95B00402#32, 0x95B00442, 0x95B00502, 0x95B00542, 0x95B00482, 0x95B004C2, 0x95B00582, 0x95B005C2].map
      (fun w => (ran w (doubles State.reset [(0, 0x0001FFFF00057FFF), (2, 0x00010001FFFF7FFF)])).map (readReg · 10))
      = [some 0xD, some 0x6, some 0x2, some 0x9, some 0x0, some 0x3, some 0x3, some 0x0] := by decide +kernel

theorem test_vis_multiply :
    (ran 0x89B04622 (doubles (singles State.reset [(1, 0x80FF0001)]) [(2, 0x0100010001000180)])).map (readD · 4)
      = some 0x008000FF00000002
    ∧ visS 0x89B04662 0x01020304 0x0100FFFF = some 0x0001000200030004 ∧ visS 0x89B046A2 0x01020304 0x0100FFFF = some 0
    ∧ visS 0x89B04702 0x0200FF00 0x00030004 = some 0x00000600FFFFFC00
    ∧ visS 0x89B04722 0x00020003 0xFFFF0004 = some 0xFFFFFFFE0000000C := by decide +kernel

theorem test_vis_pack :
    (ran 0x83B00762 (doubles State.reset [(2, 0x00807FFFFFFF4000)])).map (readS · 1) = some 0x01FF0080
    ∧ visD 0x89B00742 0x0011223300AABBCC 0x008000007FFFFFFF 0 = some 0x11223301AABBCCFF
    ∧ (ran 0x83B007A2 (doubles State.reset [(2, 0x0001800080000000)])).map (readS · 1) = some 0x00018000
    ∧ (ran 0x85B009A1 (singles State.reset [(1, 0xFF804001)])).map (readD · 2) = some 0x0FF0080004000010
    ∧ visD 0x89B00962 0x1122334400000000 0xAABBCCDD00000000 0 = some 0x11AA22BB33CC44DD := by decide +kernel

theorem test_vis_add :
    [0x89B00A02#32, 0x89B00A42, 0x89B00A82, 0x89B00AC2].map (fun w => visD w 0xFFFF00017FFF8000 0x0001000100018000 0)
      = [some 0x0000000280000000, some 0x0000000280010000, some 0xFFFE00007FFE0000, some 0xFFFE00007FFE0000]
    ∧ visD 0x89B007C2 0x00FF10203040FF00 0xFF00112233440001 0 = some 876 := by decide +kernel

theorem test_vis_logical :
    [0x89B00C00#32, 0x89B00FC0, 0x89B00D40, 0x89B00E02, 0x89B00F82, 0x89B00D82, 0x89B00D02, 0x89B00EC2].map
      (fun w => visD w 0x00FF00FF0F0F3333 0x0F0F0F0F55555555 0)
      = [some 0, some 0xFFFFFFFFFFFFFFFF, some 0xFF00FF00F0F0CCCC, some 0x000F000F05051111, some 0x0FFF0FFF5F5F7777,
          some 0x0FF00FF05A5A6666, some 0x0F000F0050504444, some 0xF0FFF0FFAFAFBBBB] := by decide +kernel

/-! ### Interrupts (95_test_vectors.md part 8) -/

/-- The pending disrupting trap for SOFTINT and PIL, interrupts enabled. -/
def pending (softint : BitVec 17) (pil : BitVec 4) : Option (BitVec 9) :=
  (pendingDisrupting { State.reset with pstate := 0x016, softint := softint, pil := pil }).map Exception.tt

theorem test_interrupts :
    pending 0x0010 4 = none ∧ pending 0x0010 3 = some 0x044 ∧ pending 0x10001 13 = some 0x04E
    ∧ pending 0x8010 0 = some 0x04F
    ∧ (pendingDisrupting { State.reset with
        pstate := 0x016, softint := 0x8000, cpuMondo := ⟨0, 64⟩ }).map Exception.tt = some 0x07C
    ∧ pendingDisrupting { State.reset with softint := 0x8010 } = none := by decide +kernel

/-- The fetched word is what a step runs; 95_test_vectors.md T8. -/
theorem test_step :
    (match step (State.reset.withFetchWord 32 0x90122234) with | .next t => some (readReg t 8, t.pc) | _ => none)
      = some (0x234, 0x1004)
    ∧ (match step { State.reset with pstate := 0x010, tl := 1 } with | .refused r => some r | _ => none)
      = some .invalidState
    ∧ decodeTableWord 32 0x90122234 = some (.or 8 8 (.imm 0x234)) := by decide +kernel

/-! ### Witnesses: concrete states and operands that meet the hypotheses of the statements, clause by clause -/

/-- Global level 2, window 7. -/
def bankState : State := { State.reset with gl := 2, cwp := 7 }

theorem witness_RegisterFileLayout :
    (14 = 7 * bankState.gl.val + ((1#5).toNat - 1) ∧ 20 = 7 * bankState.gl.val + ((7#5).toNat - 1))
    ∧ (0 = 16 * ((bankState.cwp.toNat + 1) % 8) + ((8#5).toNat - 8)
      ∧ 7 = 16 * ((bankState.cwp.toNat + 1) % 8) + ((15#5).toNat - 8))
    ∧ (120 = 16 * bankState.cwp.toNat + 8 + ((16#5).toNat - 16) ∧ 127 = 16 * bankState.cwp.toNat + 8 + ((23#5).toNat - 16))
    ∧ (112 = 16 * bankState.cwp.toNat + ((24#5).toNat - 24) ∧ 119 = 16 * bankState.cwp.toNat + ((31#5).toNat - 24)) := by
  decide +kernel

theorem witness_OverlappingRegisters :
    (8 ≤ (8#5).toNat ∧ (8#5).toNat ≤ 15) ∧ (8 ≤ (15#5).toNat ∧ (15#5).toNat ≤ 15) ∧ 24 ≤ (24#5).toNat ∧ 24 ≤ (31#5).toNat
    ∧ (0#5).getLsbD 0 = false ∧ (30#5).getLsbD 0 = false := by decide +kernel

theorem witness_DivideResults :
    (second State.reset (.imm 1 : RegOrImm 13) ≠ 0 ∧ second State.reset (.imm 0x1FFF : RegOrImm 13) ≠ 0)
    ∧ (second State.reset (.imm 0 : RegOrImm 13) = 0 ∧ State.reset.tl.val < 2)
    ∧ (second State.reset (.imm 1 : RegOrImm 13)).setWidth 32 ≠ 0#32
    ∧ (second (regs [(2, 0x100000000)]) (.reg 2 : RegOrImm 13)).setWidth 32 = 0#32 := by decide +kernel

/-- The last operands that do not overflow, the first that do, and a tag. -/
theorem witness_TaggedResults :
    let x (v : Word64) : Int := (v.setWidth 32).toInt
    (x 0x7FFFFFFC + x 0 < 2 ^ 31 ∧ (0x7FFFFFFC#64).toNat % 4 = 0) ∧ 2 ^ 31 ≤ x 0x7FFFFFFC + x 4
    ∧ (-2 ^ 31 ≤ x 0x80000000 - x 0 ∧ (0x80000000#64).toNat % 4 = 0) ∧ x 0x80000000 - x 4 < -2 ^ 31
    ∧ (5#64).toNat % 4 ≠ 0 := by decide +kernel

/-- Each clause of ConditionalMoves: a group of codes that is given, and the FPU enabled and disabled. -/
theorem witness_ConditionalMoves :
    (selected { State.reset with ccr := 0x5A } .icc = nzvc true false true false
      ∧ selected { State.reset with ccr := 0x5A } .xcc = nzvc false true false true)
    ∧ fpuEnabled State.reset = true
    ∧ (fpuEnabled { State.reset with fprs := 0 } = false ∧ ({ State.reset with fprs := 0 } : State).tl.val < 2) := by
  decide +kernel

/-- ConditionalMoves and ConditionTables: a MOVcc word that selects 101, one with bit 5 set, a MOVr word with `rcond` 100, one with bit 9 set, and BPr words with `rcond` 000 and 100. -/
theorem witness_reserved_conditions :
    [0xB766A800#32, 0xB7668020, 0x87785002, 0x87784602].map (fun w => (w.extractLsb' 30 2, w.extractLsb' 19 6))
      = [(2#2, 0x2C#6), (2#2, 0x2C#6), (2#2, 0x2F#6), (2#2, 0x2F#6)]
    ∧ ((0xB766A800#32).getLsbD 18 = true ∧ (0xB766A800#32).getLsbD 11 = true)
    ∧ ((0xB7668020#32).getLsbD 13 = false ∧ (0xB7668020#32).extractLsb' 5 6 ≠ 0#6)
    ∧ ((0x87785002#32).extractLsb' 10 3 = 4#3 ∧ (0x87784602#32).getLsbD 13 = false ∧ (0x87784602#32).extractLsb' 5 5 ≠ 0#5)
    ∧ [0x00C00000#32, 0x08C00000].map (fun w => (w.extractLsb' 30 2, w.extractLsb' 22 3, w.extractLsb' 25 3))
      = [(0#2, 3#3, 0#3), (0#2, 3#3, 4#3)] := by decide +kernel

/-- FloatBranches, FpMoves, FpArithmeticResults, FpToIntegerAndCompare, VisLogical, VisArithmetic, VisIntegerResults: the FPU is enabled. -/
theorem witness_fpuEnabled : fpuEnabled State.reset = true := by decide +kernel

/-- FloatBranches over a state where each condition is met or not: `fcc0` is 0, then 3. -/
theorem witness_FloatBranches :
    fccTest 9 (fccOf State.reset.fsr 0) = true ∧ fccTest 9 (fccOf 0xC00 0) = false ∧ fpuEnabled { State.reset with fsr := 0xC00 } = true := by
  decide +kernel

theorem witness_CallJumpReturn :
    State.reset.tct = false ∧ (readReg State.reset 0 + second State.reset (.imm 0x1FFC : RegOrImm 13)).toNat % 4 = 0
    ∧ ({ State.reset with canrestore := 1 } : State).canrestore ≠ 0#3
    ∧ (readReg State.reset 0 + second State.reset (.imm 3 : RegOrImm 13)).toNat % 4 ≠ 0
    ∧ (State.reset.canrestore = 0#3 ∧ State.reset.tl.val < 2)
    ∧ (let s : State := { State.reset with pstate := 0x1014, canrestore := 1 }
      s.tct = true ∧ s.canrestore ≠ 0#3 ∧ s.tl.val < 2
      ∧ (readReg s 0 + second s (.imm 4 : RegOrImm 13)).toNat % 4 = 0) := by decide +kernel

/-- The checks of CALL, JMPL and RETURN in their order: fill, alignment, `PSTATE.tct` (R619, R690 to R692). -/
theorem test_transfer_traps :
    let s : State := { userState with pstate := 0x1010 }
    let r : State := { s with canrestore := 1 }
    trapped 0x40000010 s = some (0x074, 0x01000E80, 0) ∧ trapped 0x81C02004 s = some (0x074, 0x01000E80, 0)
    ∧ left 0x81C02002 s = some (.trap 0x034) ∧ trapped 0x81C82002 s = some (0x0C0, 0x01001800, 7)
    ∧ left 0x81C82002 r = some (.trap 0x034) ∧ trapped 0x81C82004 r = some (0x074, 0x01000E80, 0) := by decide +kernel

theorem witness_TrapOnCondition :
    iccTest 0 (selected State.reset .icc) = false ∧ (iccTest 8 (selected State.reset .icc) = true ∧ State.reset.tct = false)
    ∧ (State.reset.priv = true ∧ (readReg State.reset 0).toNat + 127 < 128 ∧ 128 ≤ (readReg State.reset 0).toNat + 128)
    ∧ (iccTest 8 (selected { State.reset with pstate := 0x1014 } .icc) = true
      ∧ ({ State.reset with pstate := 0x1014 } : State).tct = true) := by decide +kernel

theorem witness_ReturnFromTrapRestores :
    (handlerState.priv = true ∧ handlerState.tl.val = (0 : Fin 2).val + 1 ∧ handlerState.tct = false)
    ∧ ({ handlerState with tl := 2 } : State).tl.val = (1 : Fin 2).val + 1
    ∧ (let s : State := { handlerState with pstate := 0x1014 }
      s.priv = true ∧ s.tl ≠ 0 ∧ s.tct = true ∧ s.tl.val < 2)
    ∧ State.reset.priv = true ∧ State.reset.tl = 0 := by decide +kernel

/-- DONE and RETRY under `PSTATE.tct`, and at trap level 0, where `tct` plays no part (R619, R720, R721). -/
theorem test_return_traps :
    [0x81F00000#32, 0x83F00000].all fun w =>
      (ran w { handlerState with pstate := 0x1014, tba := 0x200 }).map (fun t => (t.tl, t.trapStack[1].tt, t.pc))
          = some (2, 0x074, 0x01004E80)
      ∧ left w { State.reset with pstate := 0x1014 } = some (.trap 0x010) := by decide +kernel

theorem witness_AlwaysIllegalStops : alwaysIllegal (.illtrap 0 0) = true ∧ alwaysIllegal (.faddq 12 4 8) = true := by
  decide +kernel

theorem witness_TrapEntryEffect :
    State.reset.tl.val = (0 : Fin 2).val ∧ ({ State.reset with tl := 1 } : State).tl.val = (1 : Fin 2).val := by decide +kernel

theorem witness_ExceptionDelivery :
    (Exception.divisionByZero.toPrivileged = true ∧ State.reset.tl.val < 2)
    ∧ ((Exception.trapInstruction 127).toPrivileged = true ∧ (Exception.trapInstruction 128).toPrivileged = false)
    ∧ ({ State.reset with tl := 2 } : State).tl.val = 2 := by decide +kernel

theorem witness_TrapThenRetry :
    ({ State.reset with tl := 1 } : State).tl.val < 2 ∧ State.Inv { State.reset with tl := 1 }
    ∧ ({ State.reset with cwp := 7 } : State).tl.val < 2 ∧ State.Inv { State.reset with cwp := 7 }
    ∧ State.reset.am = false := by
  refine ⟨?_, ?_, ?_, ?_, ?_⟩ <;> first | decide +kernel | (constructor <;> decide +kernel)

theorem witness_PrivilegedOpcodeTraps :
    privilegedOnly .done = true ∧ privilegedOnly (.wrprGl 0 (.imm 0)) = true ∧ userState.priv = false ∧ userState.tl.val < 2 := by
  decide +kernel

/-! #### Accesses -/

/-- `loadState` with an ASI register that selects the primary context. -/
def accessState : State := { loadState with asi := 0x80 }

/-- The operand that reaches the last `n` bytes of the doubleword at 0x2000. -/
def lastBytes (n : Nat) : RegOrImm 13 := .imm (BitVec.ofNat 13 (8 - n))

theorem witness_IntegerLoads :
    ∀ row ∈ loadTable, Sees accessState (0x2008 - row.width) row.width false 0x81A2B3C4D5E6F708
      ∧ Reaches accessState (.load row.width) (implicitTarget accessState 8 (lastBytes row.width)) (0x2008 - row.width) false
      ∧ Reaches accessState row.access (alternateTarget accessState 8 (.asiReg (BitVec.ofNat 13 (8 - row.width))))
          (0x2008 - row.width) false := by
  unfold Sees SeesPart Reaches; decide +kernel

/-- 64 bytes at 0x2000, byte `k` holding `k`; `R[8]` = `R[9]` = 0x2000. -/
def blockState (asi : Asi) : State :=
  { regs [(8, 0x2000), (9, 0x2000)] with mem := bytesAt 0x2000 ((List.range 64).map (BitVec.ofNat 8)), asi := asi }

theorem witness_TwinLoads :
    (10#5).getLsbD 0 = false ∧ SeesPart accessState 0x2000 8 0x2000 4 false 0x81A2B3C4
    ∧ SeesPart accessState 0x2000 8 0x2004 4 false 0xD5E6F708
    ∧ Reaches accessState (.load 8) (implicitTarget accessState 8 (.imm 0)) 0x2000 false
    ∧ Reaches accessState (.load 8) (alternateTarget accessState 8 (.asiReg 0)) 0x2000 false
    ∧ SeesPart (blockState 0x80) 0x2000 16 0x2000 8 false 0x0001020304050607
    ∧ SeesPart (blockState 0x80) 0x2000 16 0x2008 8 false 0x08090A0B0C0D0E0F
    ∧ Reaches (blockState 0x80) .twin (immediateTarget (blockState 0x80) 8 0 0xE2) 0x2000 false := by
  unfold SeesPart Reaches; decide +kernel

theorem witness_IntegerStores :
    (∀ row ∈ storeTable,
      Reaches accessState (.store row.width) (implicitTarget accessState 8 (lastBytes row.width)) (0x2008 - row.width) false
      ∧ Reaches accessState row.access (alternateTarget accessState 8 (.asiReg (BitVec.ofNat 13 (8 - row.width))))
          (0x2008 - row.width) false)
    ∧ (10#5).getLsbD 0 = false ∧ Reaches accessState (.store 8) (implicitTarget accessState 8 (.imm 0)) 0x2000 false
    ∧ Reaches accessState (.store 8) (alternateTarget accessState 8 (.immAsi 0 0x88)) 0x2000 true := by
  unfold Reaches; decide +kernel

theorem witness_AtomicAccesses :
    ∀ n ∈ [1, 4, 8], Sees accessState (0x2008 - n) n false 0x81A2B3C4D5E6F708
      ∧ Reaches accessState (.atomic n) (implicitTarget accessState 8 (lastBytes n)) (0x2008 - n) false
      ∧ Reaches accessState (.atomic n) (alternateTarget accessState 8 (.asiReg (BitVec.ofNat 13 (8 - n)))) (0x2008 - n) false
      ∧ Reaches accessState (.atomic n) (casTarget accessState 8 (.immAsi 0x80)) 0x2000 false := by
  unfold Sees SeesPart Reaches; decide +kernel

/-- `accessState` with an I/O location at 0x2003 alone (R202). -/
def deviceState : State := { accessState with ioRegion := [⟨0x2003, 1⟩] }

/-- IntegerLoads, IntegerStores and AtomicAccesses where a byte is an I/O location: what the device answers is some value. -/
theorem witness_devices :
    (∃ v, Sees deviceState 0x2003 1 false v) ∧ inIo deviceState 0x2003 = true ∧ inIo deviceState 0x2002 = false
    ∧ inIo deviceState 0x2004 = false ∧ Reaches deviceState (.load 1) (implicitTarget deviceState 8 (.imm 3)) 0x2003 false
    ∧ Reaches deviceState (.store 4) (implicitTarget deviceState 8 (.imm 0)) 0x2000 false
    ∧ Reaches deviceState (.atomic 1) (implicitTarget deviceState 8 (.imm 3)) 0x2003 false := by
  refine ⟨⟨(Config.ioRead [.read 0x2003 1] 0x2003).setWidth 64, fun k hk => ?_⟩, by decide +kernel, by decide +kernel,
    by decide +kernel, by unfold Reaches; decide +kernel, by unfold Reaches; decide +kernel,
    by unfold Reaches; decide +kernel⟩
  obtain rfl : k = 0 := by omega
  show Except.ok (Config.ioRead [.read 0x2003 1] 0x2003)
    = Except.ok (((Config.ioRead [.read 0x2003 1] 0x2003).setWidth 64).extractLsb' 0 8)
  congr 1
  ext i hi
  simp [BitVec.getElem_extractLsb', hi, show i < 64 by omega]

/-- What devices see, newest first: one event an access, a store's alone the bytes of I/O locations; those are not memory's (R202; log 42). -/
theorem test_devices :
    (ran 0xD20A2003 deviceState).map (·.ioLog) = some [.read 0x2003 1] ∧ (ran 0xD2022000 deviceState).map (·.ioLog)
      = some [.read 0x2000 4] ∧ (ran 0xD2022004 deviceState).map (·.ioLog) = some []
    ∧ (ran 0xD2222000 deviceState).map (·.ioLog) = some [.write [(0x2003, 0x00)]]
    ∧ (ran 0xD26A2003 deviceState).map (·.ioLog) = some [.write [(0x2003, 0xFF)], .read 0x2003 1]
    ∧ stored 0xD2222000 (writeReg deviceState 9 0x1122334455667788) 5
      = some [some 0x55, some 0x66, some 0x77, some 0xC4, some 0xD5] := by decide +kernel

theorem witness_AsiRegisters :
    State.reset.priv = true
    ∧ (∀ k : Fin 8, explicitAsi State.reset (.immAsi 0 0x20) = 0x20#8
      ∧ alternateAddress (regs [(1, BitVec.ofNat 64 (8 * k.val))]) 1 (.immAsi 0 0x20) = BitVec.ofNat 64 (8 * k.val))
    ∧ (∀ row ∈ contextTable, alternateAddress (regs [(1, row.1)]) 1 (.immAsi 0 0x21) = row.1)
    ∧ ∀ row ∈ queueTable, alternateAddress (regs [(1, row.1)]) 1 (.immAsi 0 0x25) = row.1
      ∧ alternateAddress (regs [(1, row.1 + 8)]) 1 (.immAsi 0 0x25) = row.1 + 8 := by
  decide +kernel

/-- `R[1]` holds an address, and the ASI register an ASI. -/
def targetState (ea : Word64) (asi : Asi) : State := { regs [(1, ea)] with asi := asi }

/-- AccessStops: odd registers, special ASIs, and misaligned addresses, clause by clause. -/
theorem witness_AccessStops :
    (9#5).getLsbD 0 = true ∧ (8#5).getLsbD 0 = false ∧ fpuEnabled (targetState 1 0xE2) = true
    ∧ (∀ asi ∈ [0xE2#8, 0xF0#8, 0xE0#8, 0xC0#8, 0xD2#8],
      let g := alternateTarget (targetState 1 asi) 1 (.asiReg 0)
      (asiClass g.asi).isSpecial = true ∧ ¬Barred (targetState 1 asi) g.asi)
    ∧ (∀ n ∈ [2, 4, 8, 16, 64], (implicitTarget (targetState 1 0x80) 1 (.imm 0)).ea.toNat % n ≠ 0
      ∧ (alternateTarget (targetState 1 0x80) 1 (.asiReg 0)).ea.toNat % n ≠ 0
      ∧ (casTarget (targetState 1 0x80) 1 .asiReg).ea.toNat % n ≠ 0)
    ∧ (implicitTarget (targetState 4 0x80) 1 (.imm 0)).ea.toNat % 8 = 4
    ∧ (asiClass (alternateTarget (targetState 4 0x80) 1 (.asiReg 0)).asi).isSpecial = false
    ∧ (asiClass 0xE2 = .twinx ∧ (immediateTarget (targetState 8 0xE2) 1 0 0xE2).ea.toNat % 16 ≠ 0)
    ∧ ((doubleNumber 16).toNat % 16 = 0 ∧ asiClass 0xF0 = .block ∧ asiClass 0xE0 = .commit
      ∧ (immediateTarget (targetState 32 0xF0) 1 0 0xF0).ea.toNat % 64 ≠ 0)
    ∧ asiClass 0xC0 = .pst ∧ (asiClass 0xD2 = .short ∧ (0xD2#8).getLsbD 1 = true) := by
  unfold Barred; decide +kernel

/-- AccessStops: the first and the last ASI that each mode may not use, at aligned addresses. -/
theorem witness_AccessStops_restricted :
    (∀ asi ∈ [0x00#8, 0x7F#8], let s := { targetState 64 asi with pstate := 0x010 }
      Barred s (alternateTarget s 1 (.asiReg 0)).asi ∧ Barred s (casTarget s 1 .asiReg).asi
      ∧ (alternateTarget s 1 (.asiReg 0)).ea.toNat % 64 = 0 ∧ (casTarget s 1 .asiReg).ea.toNat % 8 = 0)
    ∧ (∀ asi ∈ [0x30#8, 0x7F#8], Barred (targetState 64 asi) (alternateTarget (targetState 64 asi) 1 (.asiReg 0)).asi)
    ∧ ∀ asi ∈ [0x2F#8, 0x80#8], ¬Barred (targetState 64 asi) asi := by
  unfold Barred; decide +kernel

/-- The target of an alternate-space instruction in `targetState`. -/
def altTarget (ea : Word64) (asi : Asi) : Target := alternateTarget (targetState ea asi) 1 (.asiReg 0)

/-- AccessStops: special ASIs with CASA and CASXA, and with LDDFA at an aligned address. -/
theorem witness_AccessStops_special :
    (∀ asi ∈ [0xE2#8, 0xF0#8, 0xE0#8, 0xC0#8, 0xD2#8],
      (asiClass (casTarget (targetState 1 asi) 1 .asiReg).asi).isSpecial = true
      ∧ ¬Barred (targetState 1 asi) (casTarget (targetState 1 asi) 1 .asiReg).asi)
    ∧ asiClass (altTarget 8 0xC0).asi = .pst ∧ asiClass (altTarget 8 0xE1).asi = .commit
    ∧ (doubleNumber 16).toNat % 16 = 0 ∧ (altTarget 8 0xC0).ea.toNat % 8 = 0 := by
  unfold Barred; decide +kernel

/-- AccessStops: ASIs of each class that is not special and that some instruction may not use. -/
theorem witness_AccessStops_unfit :
    (∀ asi ∈ [0x00#8, 0x20#8, 0x84#8, 0xBF#8, 0xFF#8],
      asiClass (altTarget 64 asi).asi ∈ loadUnfit ∧ ¬Barred (targetState 64 asi) (altTarget 64 asi).asi)
    ∧ asiClass (altTarget 64 0x82).asi ∈ storeUnfit ∧ asiClass (altTarget 64 0x15).asi ∈ atomicUnfit
    ∧ asiClass (casTarget (targetState 64 0x15) 1 .asiReg).asi ∈ atomicUnfit := by
  unfold Barred; decide +kernel

/-- AccessStops: the first address of each register ASI that names no register, beside the last that does. -/
theorem witness_AccessStops_registers :
    asiClass (altTarget 0x40 0x20).asi = .reg ∧ (altTarget 0x40 0x20).ea = 0x40
    ∧ (¬NamesRegister 0x20 0x40 ∧ NamesRegister 0x20 0x38) ∧ (¬NamesRegister 0x21 0x118 ∧ NamesRegister 0x21 0x110)
    ∧ (¬NamesRegister 0x25 0x400 ∧ NamesRegister 0x25 0x3F8) := by
  unfold NamesRegister; decide +kernel

/-- Each of these stops once on the instruction, once on its address (R215, R220, R221, R245, R246, R212). -/
theorem test_access_stops :
    let tried (i : Instr) (s : State) := match exec i s with
      | .fault (.exitToHyperprivileged c _ _ (some a)) => some (c, a.va)
      | _ => none
    tried (.ldxa 8 1 (.asiReg 0)) (targetState 1 0xF0) = some (.trap 0x014, 1)
    ∧ tried (.swapa 8 1 (.asiReg 0)) (targetState 2 0x80) = some (.trap 0x034, 2)
    ∧ tried (.lddfa 0 1 (.asiReg 0)) (targetState 4 0xE0) = some (.trap 0x035, 4)
    ∧ tried (.lddfa 0 1 (.asiReg 0)) (targetState 32 0xF0) = some (.trap 0x034, 32)
    ∧ tried (.stpartialf 0 1 0 0xC0) (targetState 4 0xC0) = some (.trap 0x036, 4)
    ∧ tried (.ldxa 8 1 (.asiReg 0)) (targetState 8 0x30) = some (.trap 0x037, 8)
    ∧ tried (.casxa 8 1 2 .asiReg) (targetState 4 0x80) = some (.trap 0x034, 4)
    ∧ tried (.casa 8 1 2 .asiReg) (targetState 1 0xD2) = some (.trap 0x014, 1)
    ∧ tried (.lddfa 1 1 (.asiReg 0)) (targetState 8 0xC0) = some (.trap 0x014, 8)
    ∧ tried (.stwa 8 1 (.asiReg 0)) (targetState 4 0x82) = some (.trap 0x014, 4)
    ∧ tried (.ldxa 8 1 (.asiReg 0)) (targetState 0x18 0x21) = some (.trap 0x014, 0x18) := by decide +kernel

/-- An 8 Kbyte page in context 0: virtual 0x4000 to real 0x10000. -/
def pageEntry : TlbEntry := { contextId := 0, tagVa := 0x4000, data := 0x80000000000105D0 }

/-- An 8 Kbyte page in context 0: virtual 0x6000 to real 0x20000. -/
def otherEntry : TlbEntry := { contextId := 0, tagVa := 0x6000, data := 0x80000000000205D0 }

theorem witness_TranslationRelation :
    let ids := contextIds State.reset .primary
    (pageEntry.hits ids 0x4000 = true ∧ pageEntry.hits ids 0x5FFF = true ∧ pageEntry.hits ids 0x6000 = false)
    ∧ ((∀ e ∈ [pageEntry, otherEntry], e.hits ids 0x3FFF = false) ∧ (∀ e ∈ [otherEntry], e.hits ids 0x5FFF = false))
    ∧ pageEntry.realAddress 0x5FFF = 0x11FFF
    ∧ ({ pageEntry with data := 0x80000000000005D0 } : TlbEntry).hits ids 0x4000 = true
    ∧ (({ pageEntry with data := 0x80000000000105D7 } : TlbEntry).hits ids 0x4000 = true
      ∧ (0x80000000000105D7#64).toNat % 16 ≤ 7
      ∧ ({ pageEntry with data := 0x80000000000105D7 } : TlbEntry).realAddress 0x4000 < 2 ^ 56)
    ∧ (({ pageEntry with data := 0x80000000000105D8 } : TlbEntry).hits ids 0x4000 = true
      ∧ 7 < (0x80000000000105D8#64).toNat % 16)
    ∧ ((Access.load 8).align.check (BitVec.ofNat 64 (2 ^ 56)) = none ∧ ¬Barred State.reset 0x14
      ∧ (Access.load 8).use.valid (asiClass 0x14) = true ∧ (asiInfo 0x14).kind = .real
      ∧ 2 ^ 56 ≤ (BitVec.ofNat 64 (2 ^ 56)).toNat) := by
  unfold Barred; decide +kernel

/-- Both context registers of a context select an entry; the Nucleus context ID is 0 (R281, R282); real addresses end at 2^56 (R206). -/
theorem test_contexts :
    let other : TlbEntry := { pageEntry with contextId := 7 }
    let tried (s : State) (ctx : AsiContext) :=
      (Machine.translate { s with tlb := .entries [other] } ctx 0x4000).toOption.map (·.ra)
    tried { State.reset with primaryContext1 := 7 } .primary = some 0x10000
    ∧ tried { State.reset with secondaryContext1 := 7 } .secondary = some 0x10000
    ∧ tried { State.reset with primaryContext0 := 7, secondaryContext0 := 7 } .nucleus = none
    ∧ Machine.translate State.reset .primary (BitVec.ofNat 64 (2 ^ 56)) = .error .realAddressRange
    ∧ (Machine.translate State.reset .primary (BitVec.ofNat 64 (2 ^ 56 - 1))).toOption.map (·.ra) = some (2 ^ 56 - 1) := by
  decide +kernel

/-- A reserved page size leaves alone, and counts as a hit beside another entry (R285; 93_implementation_defined.md section 4). -/
theorem test_reserved_page_size :
    let reserved : TlbEntry := { pageEntry with data := 0x80000000000105D8 }
    let tried (list : List TlbEntry) := Machine.translate { State.reset with tlb := .entries list } .primary 0x4000
    tried [reserved, { otherEntry with contextId := 9 }] = .error .reservedPageSize
    ∧ tried [reserved, pageEntry] = .error .multipleHit := by decide +kernel

/-- `accessState` with one translation entry, 8 Kbytes in context 0 from virtual 0x2000, that has these low data bits (R284). -/
def pageState (bits : Word64) : State :=
  { accessState with tlb := .entries [{ contextId := 0, tagVa := 0x2000, data := 0x8000000000002000 ||| bits }] }

/-- AccessReachesMemory: the first and the last byte of a page, masked under `PSTATE.am`, with TTE.ie 0 and 1, and no watchpoint on it. -/
theorem witness_AccessReachesMemory :
    ∀ ie, ∀ va ∈ [0x2000, 0x3FFF], ∀ asi ∈ [0x80#8, 0x88],
      let s : State := { pageState (if ie then 0x15C0 else 0x5C0) with pstate := 0x01C }
      let g : Target := ⟨BitVec.ofNat 64 (0x100000000 + va), asi, true⟩
      let tr : Translation := ⟨va, ⟨false, ie, false, true, true, true, true⟩⟩
      Admitted s (.load 1) g ∧ (asiInfo asi).kind = .translating ∧ ¬Watched s (.load 1) g
      ∧ Machine.translate s (asiInfo asi).ctx (sentVa s g) = .ok tr ∧ checkData s tr.attr asi false false = none := by
  unfold Admitted Barred Watched; decide +kernel

/-- AccessReachesMemory: the last addresses in range, through the identity map and through a real ASI. -/
theorem witness_AccessReachesMemory_range :
    (State.reset.tlb = .identity ∧ Admitted State.reset (.load 8) ⟨0x00FFFFFFFFFFFFF8, 0x80, false⟩
      ∧ ¬Watched State.reset (.load 8) ⟨0x00FFFFFFFFFFFFF8, 0x80, false⟩
      ∧ (asiInfo 0x80#8).kind = .translating ∧ (0x00FFFFFFFFFFFFF8#64).toNat < 2 ^ 56)
    ∧ (Admitted State.reset (.atomic 1) ⟨0x00FFFFFFFFFFFFFF, 0x14, true⟩ ∧ (asiInfo 0x14#8).kind = .real
      ∧ (0x00FFFFFFFFFFFFFF#64).toNat < 2 ^ 56 ∧ asiClass 0x14#8 ≠ .io) := by
  unfold Admitted Barred Watched; decide +kernel

/-- `accessState` with a watchpoint for loads on the last byte of the doubleword at 0x2000. -/
def watchState : State := { accessState with dataWatch := some ⟨0x2007, true, false⟩ }

/-- AccessStops: the watchpoint at the first and the last byte of an access, and not beside it, nor for the other kind. -/
theorem witness_AccessStops_watched :
    (∀ c ∈ [(1, 0x2007#64), (2, 0x2006), (8, 0x2000)], Admitted watchState (.load c.1) ⟨c.2, 0x80, false⟩
      ∧ Watched watchState (.load c.1) ⟨c.2, 0x80, false⟩ ∧ ¬Watched watchState (.store c.1) ⟨c.2, 0x80, false⟩)
    ∧ (∀ c ∈ [(1, 0x2006#64), (1, 0x2008), (4, 0x2000)], ¬Watched watchState (.load c.1) ⟨c.2, 0x80, false⟩)
    ∧ (Watched { watchState with pstate := 0x01C } (.load 8) ⟨0x100002000, 0x80, false⟩
      ∧ ¬Watched watchState (.load 8) ⟨0x100002000, 0x80, false⟩)
    ∧ watchState.tl.val < 2 ∧ ¬({ watchState with tl := 2 } : State).tl.val < 2 := by
  unfold Admitted Barred Watched; decide +kernel

/-- AccessStops: the first address past a page, beside the last of it; a page without write permission. -/
theorem witness_AccessStops_translated :
    (Admitted (pageState 0x5C0) (.load 8) ⟨0x4000, 0x80, false⟩
      ∧ Machine.translate (pageState 0x5C0) .primary 0x4000 = .error .translationMiss)
    ∧ Machine.translate (pageState 0x480) .primary 0x3FF8 = .ok ⟨0x3FF8, ⟨false, false, false, true, false, true, false⟩⟩
    ∧ checkData (pageState 0x480) ⟨false, false, false, true, false, true, false⟩ 0x80 true false
        = some (.mmu .writeProtection) := by
  unfold Admitted Barred; decide +kernel

/-- AccessStops: the first real address out of range; a real I/O ASI where a cacheable page is asked for; a special ASI that the mode may not use. -/
theorem witness_AccessStops_real :
    (Admitted State.reset (.load 1) ⟨BitVec.ofNat 64 (2 ^ 56), 0x14, true⟩ ∧ (asiInfo 0x14#8).kind = .real
      ∧ 2 ^ 56 ≤ (BitVec.ofNat 64 (2 ^ 56)).toNat)
    ∧ (Admitted State.reset { Access.load 4 with cacheableOnly := true } ⟨0x2000, 0x15, true⟩
      ∧ (asiInfo 0x15#8).kind = .real ∧ asiClass 0x15#8 = .io)
    ∧ (Barred userState 0x16#8 ∧ (asiClass 0x16#8).isSpecial = true ∧ AsiUse.valid .load (asiClass 0x16#8) = false) := by
  unfold Admitted Barred; decide +kernel

/-- AccessStops: accesses of each kind that are stopped. -/
theorem witness_AccessStops_heeds :
    ∀ c ∈ [(0x80#8, Access.loadDouble), (0x80, .storeDouble), (0x80, .atomic 8), (0xE2, .twin), (0xF0, .blockLoad),
        (0xE0, .blockStore), (0xD2, .shortLoad 2), (0xD0, .shortStore 1), (0xC0, .partialStore)],
      dataAccess { targetState 64 c.1 with tlb := .entries [] } c.2 ⟨64, c.1, true⟩ = .error (.mmu .translationMiss) := by
  decide +kernel

/-- Each late stop of an access through an instruction: the watchpoint is taken below trap level 2, and only where R300 comes to it; the rest leaves (R296, R285, R286, R300). -/
theorem test_late_stops :
    let ld : Instr := .ldx 9 8 (.imm 0)
    let st : Instr := .stx 9 8 (.imm 0)
    let tried (i : Instr) (s : State) := match exec i s with
      | .fault (.exitToHyperprivileged c _ _ (some a)) => some (c, a.va)
      | .next t => some (.trap t.trapStack[0].tt, 0)
      | _ => none
    tried ld watchState = some (.trap 0x062, 0) ∧ tried ld { watchState with tl := 2 } = some (.trap 0x062, 0x2000)
    ∧ tried st watchState = some (.trap 0, 0) ∧ tried (.ldx 9 8 (.imm 4)) watchState = some (.trap 0x034, 0x2004)
    ∧ tried ld { watchState with tlb := .entries [] } = some (.trap 0x062, 0)
    ∧ tried ld { accessState with tlb := .entries [] } = some (.mmu .translationMiss, 0x2000)
    ∧ tried ld { pageState 0x5C0 with pstate := 0x010 } = some (.trap 0x015, 0x2000)
    ∧ tried (.ldxa 9 8 (.immAsi 0 0x10)) (pageState 0x5C0) = some (.trap 0x015, 0x2000)
    ∧ tried (.swap 9 8 (.imm 0)) (pageState 0x0C0) = some (.trap 0x016, 0x2000)
    ∧ tried ld (pageState 0x4000000000000480) = some (.trap 0x017, 0x2000)
    ∧ tried (.ldxa 9 8 (.immAsi 0 0x82)) (pageState 0xC80) = some (.trap 0x030, 0x2000)
    ∧ tried st (pageState 0x480) = some (.mmu .writeProtection, 0x2000)
    ∧ tried ld (pageState 0x480) = some (.trap 0, 0) := by decide +kernel

/-- TTE.ie inverts the byte order the ASI gives: big becomes little, little becomes big (R236). -/
theorem test_invert_endianness :
    let read (i : Instr) (bits : Word64) := match exec i (pageState bits) with
      | .next t => some (readReg t 9)
      | _ => none
    read (.ldx 9 8 (.imm 0)) 0x5C0 = some 0x81A2B3C4D5E6F708 ∧ read (.ldx 9 8 (.imm 0)) 0x15C0 = some 0x08F7E6D5C4B3A281
    ∧ read (.ldxa 9 8 (.immAsi 0 0x88)) 0x15C0 = some 0x81A2B3C4D5E6F708 := by decide +kernel

/-- TranslationRelation's last clause: pages that each check, and no check, applies to. -/
theorem witness_page_checks :
    let user (a : PageAttr) := checkData userState a 0x80 false false
    let noFault (a : PageAttr) := checkData userState a 0x82 false false
    let id := PageAttr.identity
    user { id with p := true } = some (.exception .daePrivilegeViolation)
    ∧ checkData userState { id with cp := false } 0x80 true true = some (.exception .daeNcPage)
    ∧ user { id with nfo := true } = some (.exception .daeNfoPage) ∧ noFault { id with nfo := true } = none
    ∧ noFault { id with e := true } = some (.exception .daeSideEffectPage) ∧ user { id with e := true } = none
    ∧ checkData userState { id with w := false } 0x80 true false = some (.mmu .writeProtection) := by
  decide +kernel

/-- The address an exit reports is masked by `PSTATE.am` through a translating ASI, and is not through a real one (R205, R1610). -/
theorem test_fault_address :
    let s : State := { regs [(8, 0x100000001)] with pstate := 0x01C }
    let info (i : Instr) := match exec i s with | .fault (.exitToHyperprivileged _ _ _ x) => x | _ => none
    info (.lduw 9 8 (.imm 0)) = some ⟨1, 0x80⟩ ∧ info (.lduwa 9 8 (.immAsi 0 0x14)) = some ⟨0x100000001, 0x14⟩ := by
  decide +kernel

theorem witness_HintInstructions :
    ∀ fcn ∈ [0#5, 4#5, 16#5, 31#5], ¬(5 ≤ fcn.toNat ∧ fcn.toNat ≤ 15) := by decide +kernel

theorem witness_FpLoads :
    fpuEnabled accessState = true
    ∧ (Sees accessState 0x2004 4 false 0xD5E6F708
      ∧ Reaches accessState (.load 4) (implicitTarget accessState 8 (.imm 4)) 0x2004 false
      ∧ Reaches accessState (.load 4) (alternateTarget accessState 8 (.asiReg 4)) 0x2004 false)
    ∧ Sees accessState 0x2000 8 false 0x81A2B3C4D5E6F708
    ∧ Reaches accessState .loadDouble (implicitTarget accessState 8 (.imm 0)) 0x2000 false
    ∧ Reaches accessState .loadDouble (alternateTarget accessState 8 (.asiReg 0)) 0x2000 false := by
  unfold Sees SeesPart Reaches; decide +kernel

theorem witness_FpStores :
    fpuEnabled accessState = true ∧ Reaches accessState (.store 4) (implicitTarget accessState 8 (.imm 4)) 0x2004 false
    ∧ Reaches accessState (.store 4) (alternateTarget accessState 8 (.asiReg 4)) 0x2004 false
    ∧ Reaches accessState .storeDouble (implicitTarget accessState 8 (.imm 0)) 0x2000 false
    ∧ Reaches accessState .storeDouble (alternateTarget accessState 8 (.asiReg 0)) 0x2000 false := by
  unfold Reaches; decide +kernel

theorem witness_FsrTransfers :
    fpuEnabled accessState = true
    ∧ (Sees accessState 0x2004 4 false 0xD5E6F708
      ∧ Reaches accessState (.load 4) (implicitTarget accessState 8 (.imm 4)) 0x2004 false)
    ∧ (Sees accessState 0x2000 8 false 0x81A2B3C4D5E6F708
      ∧ Reaches accessState (.load 8) (implicitTarget accessState 8 (.imm 0)) 0x2000 false)
    ∧ Reaches accessState (.store 4) (implicitTarget accessState 8 (.imm 4)) 0x2004 false
    ∧ Reaches accessState (.store 8) (implicitTarget accessState 8 (.imm 0)) 0x2000 false := by
  unfold Sees SeesPart Reaches; decide +kernel

theorem witness_BlockTransfers :
    ((doubleNumber 0).toNat % 16 = 0 ∧ (doubleNumber 17).toNat % 16 = 0 ∧ (doubleNumber 2).toNat % 16 ≠ 0)
    ∧ fpuEnabled (blockState 0xF0) = true
    ∧ (∀ k, k < 8 → SeesPart (blockState 0xF0) 0x2000 64 (0x2000 + 8 * k) 8 false
        (0x0001020304050607 + 0x0808080808080808 * BitVec.ofNat 64 k))
    ∧ Reaches (blockState 0xF0) .blockLoad (immediateTarget (blockState 0xF0) 8 0 0xF0) 0x2000 false
    ∧ asiClass (blockState 0xF0).asi = .block
    ∧ Reaches (blockState 0xF0) .blockLoad (alternateTarget (blockState 0xF0) 8 (.asiReg 0)) 0x2000 false
    ∧ Reaches (blockState 0xE0) .blockStore (immediateTarget (blockState 0xE0) 8 0 0xE0) 0x2000 false
    ∧ Reaches (blockState 0xE0) .blockStore (alternateTarget (blockState 0xE0) 8 (.asiReg 0)) 0x2000 false
    ∧ asiClass (blockState 0xE0).asi = .commit := by
  unfold SeesPart Reaches; decide +kernel

theorem witness_ShortAndPartialTransfers :
    ∀ c ∈ [(0xD0#8, 1, false), (0xDA#8, 2, true)],
      let s := blockState c.1
      fpuEnabled s = true ∧ (if c.1.getLsbD 1 then 2 else 1) = c.2.1
      ∧ Sees s 0x2000 c.2.1 c.2.2 (if c.2.2 then 0x0100 else 0)
      ∧ Reaches s (.shortLoad c.2.1) (immediateTarget s 8 0 c.1) 0x2000 c.2.2
      ∧ Reaches s (.shortLoad c.2.1) (alternateTarget s 8 (.asiReg 0)) 0x2000 c.2.2
      ∧ Reaches s (.shortStore c.2.1) (immediateTarget s 8 0 c.1) 0x2000 c.2.2
      ∧ Reaches s (.shortStore c.2.1) (alternateTarget s 8 (.asiReg 0)) 0x2000 c.2.2
      ∧ Reaches s .partialStore ⟨readReg s 8, 0xC0, true⟩ 0x2000 false
      ∧ Reaches s .partialStore ⟨readReg s 8, 0xCC, true⟩ 0x2000 true ∧ asiClass (blockState 0xC0).asi = .pst := by
  unfold Sees SeesPart Reaches; decide +kernel

/-- A block register out of place, and a partial-store ASI from the ASI register, are illegal (R220, R221). -/
theorem test_block_illegal :
    let cause (i : Instr) (asi : Asi) := match exec i (blockState asi) with
      | .fault (.exitToHyperprivileged c _ _ none) => some c
      | _ => none
    cause (.lddfa 2 8 (.asiReg 0)) 0xF0 = some (.trap 0x010) ∧ cause (.lddfa 2 8 (.asiReg 0)) 0xE0 = some (.trap 0x010)
    ∧ cause (.stdfa 2 8 (.asiReg 0)) 0xF0 = some (.trap 0x010) ∧ cause (.stdfa 2 8 (.asiReg 0)) 0xE0 = some (.trap 0x010)
    ∧ cause (.stdfa 0 8 (.asiReg 0)) 0xC0 = some (.trap 0x010) := by decide +kernel

/-! #### Windows and state registers -/

theorem witness_SaveRestore :
    (State.reset.cansave ≠ 0#3 ∧ State.reset.cleanwin ≠ State.reset.canrestore)
    ∧ (windowState 2 5 1 0 7 0).canrestore ≠ 0#3
    ∧ ((windowState 6 0 6 0 7 0).cansave = 0#3 ∧ (windowState 6 0 6 0 7 0).tl.val < 2)
    ∧ ((windowState 6 3 3 0 3 0).cansave ≠ 0#3 ∧ (windowState 6 3 3 0 3 0).cleanwin = (windowState 6 3 3 0 3 0).canrestore)
    ∧ State.reset.canrestore = 0#3 := by decide +kernel

theorem witness_WindowBookkeeping :
    (State.reset.cansave = 6#3 ∧ State.reset.priv = true) ∧ (windowState 0 5 1 0 7 0).cansave ≠ 6#3
    ∧ ((windowState 0 5 1 0 7 0).cansave.toNat < 6 ∧ (windowState 0 5 1 0 7 0).canrestore ≠ 0#3)
    ∧ (6 ≤ State.reset.cansave.toNat ∧ State.reset.canrestore = 0#3)
    ∧ ((windowState 0 1 5 0 7 0).canrestore.toNat < 6 ∧ (windowState 0 1 5 0 7 0).cansave ≠ 0#3)
    ∧ (6 ≤ (windowState 0 0 6 0 7 0).canrestore.toNat ∧ (windowState 0 0 6 0 7 0).cansave = 0#3) := by decide +kernel

theorem witness_StateRegisterReads :
    State.reset.priv = true ∧ (userState.tick.getLsbD 63 = false ∧ userState.stick.getLsbD 63 = false)
    ∧ fpuEnabled State.reset = true
    ∧ (userState.priv = false ∧ ({ userState with tick := 0x8000000000000000 } : State).tick.getLsbD 63 = true
      ∧ ({ userState with stick := 0x8000000000000000 } : State).stick.getLsbD 63 = true) := by decide +kernel

/-- STICK_PRIV_ACCESS_DISABLED: set, it bars nonprivileged reads of both counters with `npt` 0, and privileged reads of STICK alone (00_scope.md R11, D23; R1060). -/
theorem test_stick_disabled :
    [false, true].map (fun d => (counterDenied d userState 0, counterDenied d State.reset 0, stickDenied d userState,
      stickDenied d State.reset)) = [(false, false, false, false), (true, false, true, true)] := by decide +kernel

/-- StateRegisterWrites, PrivilegedReads and PrivilegedWrites. -/
theorem witness_PrivilegedReads :
    State.reset.priv = true ∧ fpuEnabled State.reset = true ∧ State.reset.tl = 0
    ∧ (handlerState.priv = true ∧ handlerState.tl.val = (0 : Fin 2).val + 1)
    ∧ ({ handlerState with tl := 2 } : State).tl.val = (1 : Fin 2).val + 1 := by decide +kernel

/-! #### Floating point -/

theorem witness_IeeeExceptions :
    let none := FpFlags.none
    (({ none with ovf := true, nx := true }).ovf = true ∧ (0b01000#5).getLsbD 3 = true)
    ∧ ((0b00001#5).getLsbD 3 = false ∧ (0b00001#5).getLsbD 0 = true)
    ∧ ((0#5).getLsbD 3 = false ∧ (0#5).getLsbD 0 = false ∧ (0#5).getLsbD 2 = false)
    ∧ (({ none with unf := true, nx := true }).unf = true ∧ ({ none with unf := true, nx := true }).ovf = false
      ∧ (0b00100#5).getLsbD 2 = true)
    ∧ (({ none with nv := true }).ovf = false ∧ ({ none with nv := true }).unf = false)
    ∧ State.reset.tl.val < 2 := by decide +kernel

/-- An FPop left unfinished: `ftt` 2, `cexc` kept, trap type 0x022 (R1157). -/
theorem test_unfinished :
    (match unlessUnfinished true { State.reset with fsr := 0x1 } (.refused .invalidState) with
      | .next t => some (t.fsr, t.trapStack[0].tt, t.npc)
      | _ => none) = some (0x8001, 0x022, 0x444) := by decide +kernel

/-- Conditions that trap, a row of each table of FpArithmeticResults and each form of FpToIntegerAndCompare: `tem` all ones, its division by zero alone, its inexact alone. -/
theorem witness_FpTraps :
    let traps (fsr : Word64) (e : FpFlags) : Bool := (ieeeDecision (trapEnable fsr) e).2
    let s : State := { State.reset with fsr := 0xF800000 }
    fpuEnabled s = true ∧ s.tl.val < 2
    ∧ traps 0x1000000 (arith .div .single s (unpackS 0x3F800000) (unpackS 0)).2 = true
    ∧ traps 0x1000000 (arith .div .double s (unpackD 0x3FF0000000000000) (unpackD 0)).2 = true
    ∧ traps 0xF800000 (squareRoot .single s (unpackS 0xBF800000)).2 = true
    ∧ traps 0x800000 (intToFp .single s (0x1000001#32).toInt).2 = true
    ∧ traps 0xF800000 (squareRoot .double s (unpackD 0xBFF0000000000000)).2 = true
    ∧ traps 0xF800000 (fusedMultiplyAdd .single s false false (unpackS 0x7F800000) (unpackS 0) (unpackS 0)).2 = true
    ∧ traps 0xF800000 (fusedMultiplyAdd .double s false false (unpackD 0x7FF0000000000000) (unpackD 0) (unpackD 0)).2 = true
    ∧ traps 0xF800000 (fpToInt 32 (unpackS 0x7FC00000)).2 = true ∧ traps 0xF800000 (fpToInt 64 (unpackD 0x7FF8000000000000)).2 = true
    ∧ traps 0xF800000 (compareFlags true (unpackS 0x7FC00000) (unpackS 0)) = true
    ∧ traps 0xF800000 (compareFlags false (unpackD 0x7FF0000000000001) (unpackD 0)) = true
    ∧ traps 0 (arith .div .single s (unpackS 0x3F800000) (unpackS 0)).2 = false := by decide +kernel

/-- FSR, TT and the destination after a trap: `ftt` 1, the trapping condition alone in `cexc`, `aexc` and `fcc` kept, nothing written (R1155). -/
theorem test_fp_traps :
    let after (w : Word32) (fsr : Word64) := (ran w { singles State.reset [(1, 0x3F800000), (2, 0)] with fsr := fsr }).map
      fun t => (t.fsr, t.trapStack[0].tt, readS t 3, t.pc)
    after 0x87A049A2 0x1000021 = some (0x1004022, 0x021, 0, 0x420)
    ∧ ((ran 0x83A84AA2 { singles State.reset [(1, 0x7FC00000)] with fsr := 0x8000400 }).map fun t => (t.fsr, t.pc))
      = some (0x8004410, 0x420)
    ∧ ((ran 0x87A01A21 { singles State.reset [(1, 0x7FC00000), (3, 5)] with fsr := 0x8000000 }).map
        fun t => (t.fsr, readS t 3)) = some (0x8004010, 5) := by decide +kernel

/-- Bit patterns of every class, in both formats. -/
theorem witness_ExactArithmetic :
    (∀ n ∈ [0x7FC00000, 0x7F800001], isNaN .single n = true) ∧ isSignalling .single 0x7F800001 = true
    ∧ nanRule .single 0x7F800001 0x7FC00000 = some (0x7FC00001, .invalid) ∧ nanRule .single 0 0x7FC00000 = some (0x7FC00000, .none)
    ∧ isInfinity .single 0xFF800000 = true ∧ (∀ n ∈ [0, 1, 0x007FFFFF, 0x00800000, 0x7F7FFFFF], isNumber .single n = true)
    ∧ isNaN .double 0x7FF0000000000001 = true ∧ isInfinity .double 0x7FF0000000000000 = true
    ∧ (∀ n ∈ [0, 1, 0x7FEFFFFFFFFFFFFF], isNumber .double n = true) ∧ fpWidth .single = 32 ∧ fpWidth .double = 64 := by
  decide +kernel

/-- The least and the greatest number of a format, and those either side of zero. -/
theorem witness_numberValue :
    numberValue .single 1 = 1 / 2 ^ 149 ∧ numberValue .single 0x7F7FFFFF = (2 ^ 24 - 1) * 2 ^ 104
    ∧ numberValue .single 0xBF800000 = -1 ∧ numberValue .single 0x80000000 = 0 := by
  refine ⟨?_, ?_, ?_, ?_⟩ <;>
    norm_num [numberValue, signedValue, negative, expField, fracField, expWidth, fracWidth, fpBias, Nat.testBit, Nat.shiftRight_eq_div_pow]

/-- Rounding at a value inside the range of a conversion to 32 bits, and at the first outside it. -/
theorem witness_Rounding :
    (-(2 ^ (32 - 1) : ℚ) - 1 < signedValue false 5 (-1) ∧ signedValue false 5 (-1) < 2 ^ (32 - 1))
    ∧ ¬(signedValue false 1 31 < 2 ^ (32 - 1)) ∧ (0#2, 1#2, 2#2, 3#2) = (0, 1, 2, 3) := by
  refine ⟨⟨?_, ?_⟩, ?_, rfl⟩ <;> norm_num [signedValue]

theorem witness_UnpackPack :
    (2 ^ 32 - 1 < 2 ^ 32 ∧ 2 ^ 64 - 1 < 2 ^ 64) ∧ isNaN .single (2 ^ 32 - 1) = true ∧ isNaN .double (2 ^ 64 - 1) = true
    ∧ (nanRule .single 0 0x7F800000 = none ∧ isInfinity .single 0x7F800000 = true ∧ isNumber .single 0 = true)
    ∧ isInfinity .double (0xFFF * 2 ^ 52) = true := by
  decide +kernel

theorem witness_FpDisabledTraps :
    needsFpu (.fadds 3 1 2) = true ∧ ({ State.reset with fprs := 3 } : State).fprs.getLsbD 2 = false
    ∧ ({ State.reset with pstate := 0x004 } : State).pef = false ∧ State.reset.tl.val < 2
    ∧ (doubleNumber 16).toNat % 16 = 0 ∧ asiClass (explicitAsi { targetState 1 0xE0 with fprs := 3 } (.asiReg 0)) = .commit := by
  decide +kernel

theorem witness_VisIntegerResults :
    (readReg (regs [(2, 5)]) 2).toNat ≤ 5 ∧ 5 < (readReg (regs [(2, 6)]) 2).toNat ∧ fpuEnabled (regs [(2, 5)]) = true := by
  decide +kernel

/-! #### The step -/

/-- Interrupts enabled, with SOFTINT and PIL. -/
def interruptState (softint : BitVec 17) (pil : BitVec 4) : State :=
  { State.reset with pstate := 0x016, softint := softint, pil := pil }

theorem witness_PendingTraps :
    (State.reset.ie = false ∧ (interruptState 0x10 3).ie = true ∧ (interruptState 0x10 3).tl ≠ 2)
    ∧ (interruptState 0x10 3).cpuMondo.head = (interruptState 0x10 3).cpuMondo.tail
    ∧ (interruptState 0x10 3).devMondo.head = (interruptState 0x10 3).devMondo.tail ∧ (interruptState 0x10 3).pil.toNat < 4
    ∧ (⟨0, 64⟩ : Queue).head ≠ (⟨0, 64⟩ : Queue).tail := by
  decide +kernel

/-- PendingTraps: level 4 is the highest pending, then 14 through SOFTINT bits 0 and 16, then 15; none is above PIL 4. -/
theorem witness_Pending :
    (Pending (interruptState 0x10 3) 4 ∧ ∀ m ∈ List.range 16, 4 < m → ¬Pending (interruptState 0x10 3) m)
    ∧ (Pending (interruptState 0x10001 13) 14 ∧ Pending (interruptState 0x8000 14) 15)
    ∧ ∀ n ∈ List.range 16, (interruptState 0x10 4).pil.toNat < n → ¬Pending (interruptState 0x10 4) n := by
  unfold Pending; refine ⟨⟨?_, ?_⟩, ⟨?_, ?_⟩, ?_⟩ <;> decide +kernel

/-- `or %o0, 0x234, %o0` at the program counter, and interrupts as given. -/
def codeState (softint : BitVec 17) : State := (interruptState softint 3).withFetchWord 32 0x90122234

/-- Before the next step another strand stores two bytes. -/
def sharedState : State :=
  { codeState 0 with inputs := [{ quietInput State.reset with stores := [(0x2000, 0xAA), (0x1003, 0x35)] }] }

/-- What another strand stores is there for the instruction, and for its fetch (R1772). -/
theorem test_shared_memory :
    (advanceEnvironment sharedState).mem.readByte 0x2000 = .ok 0xAA
    ∧ (match step sharedState with | .next t => some (readReg t 8, t.inputs) | _ => none) = some (0x235, []) := by
  decide +kernel

theorem witness_StepRunsDecoded :
    (codeState 0).priv = true ∧ fetchAddress (advanceEnvironment (codeState 0)) = .ok 0x1000
    ∧ Sees (advanceEnvironment (codeState 0)) 0x1000 4 false 0x90122234
    ∧ decode 0x90122234 = .ok (.or 8 8 (.imm 0x234)) ∧ pendingDisrupting (advanceEnvironment (codeState 0)) = none
    ∧ (fetchAddress (advanceEnvironment (codeState 0x10)) = .ok 0x1000
      ∧ pendingDisrupting (advanceEnvironment (codeState 0x10)) = some (.interruptLevel 4))
    ∧ (({ State.reset with pstate := 0x010, tl := 1 } : State).priv = false ∧ State.reset.inputs = [])
    ∧ (sharedState.inputs = [{ quietInput State.reset with stores := [(0x2000, 0xAA), (0x1003, 0x35)] }]
      ∧ (∀ c ∈ [(0x2000, (0xAA : Byte)), (0x1003, 0x35)], c.1 ≠ 0x1000)
      ∧ [(0x2000, (0xAA : Byte)), (0x1003, 0x35)] = [(0x2000, 0xAA)] ++ [(0x1003, 0x35)]) := by
  unfold Sees SeesPart; decide +kernel

/-- StepRunsDecoded: a word that does not decode; and the first, and the last, byte of the word that nothing has written. -/
theorem witness_fetch_ends :
    (let e := advanceEnvironment (State.reset.withFetchWord 32 0x85704001);
      fetchAddress e = .ok 0x1000 ∧ Sees e 0x1000 4 false 0x85704001 ∧ ∀ i, decode 0x85704001 ≠ .ok i)
    ∧ (∃ a, byteSeen (advanceEnvironment State.reset) 0x1000 4 0x1000 = .error a)
    ∧ (let e := advanceEnvironment { State.reset with mem := bytesAt 0x1000 [1, 2, 3] };
      (∀ j, j < 3 → ∃ b, byteSeen e 0x1000 4 (0x1000 + j) = .ok b) ∧ ∃ a, byteSeen e 0x1000 4 0x1003 = .error a) := by
  refine ⟨⟨by decide +kernel, by unfold Sees SeesPart; decide +kernel, fun i h => ?_⟩, ⟨0x1000, by decide +kernel⟩,
    fun j hj => ⟨BitVec.ofNat 8 (j + 1), ?_⟩, ⟨0x1003, by decide +kernel⟩⟩
  · have e : (decode 0x85704001).toOption = none := by decide +kernel
    rw [h] at e
    cases e
  · obtain rfl | rfl | rfl : j = 0 ∨ j = 1 ∨ j = 2 := by omega
    all_goals decide +kernel

/-- StepRunsDecoded: what stops a fetch at 0x1000, and that each is where the statement says: the watchpoint, the MMU, the page. -/
theorem test_fetch_stops :
    let cause (s : State) : Option (HyperCause × Option AccessInfo) := match step s with
      | .fault (.exitToHyperprivileged c _ _ a) => some (c, a)
      | _ => none
    let user : State := { codeState 0 with pstate := 0x010 }
    let page (s : State) (data : Word64) := cause { s with tlb := .entries [{ contextId := 0, tagVa := 0, data := data }] }
    cause (State.reset.withFetchWord 32 0x85704001) = some (.trap 0x010, none)
    ∧ (match step { codeState 0 with insnWatch := some 0x1000 } with | .next t => some (t.trapStack[0].tt, t.pc) | _ => none)
      = some (0x075, 0xEA0)
    ∧ cause { codeState 0 with insnWatch := some 0x1000, tl := 2 } = some (.trap 0x075, some ⟨0x1000, 0x04⟩)
    ∧ cause { codeState 0 with tlb := .entries [] } = some (.mmu .translationMiss, some ⟨0x1000, 0x80⟩)
    ∧ page user 0x8000000000000580 = some (.trap 0x008, some ⟨0x1000, 0x80⟩)
    ∧ page user 0x8000000000000400 = some (.trap 0x00B, some ⟨0x1000, 0x80⟩)
    ∧ page user 0xC000000000000480 = some (.trap 0x00C, some ⟨0x1000, 0x80⟩)
    ∧ page (codeState 0) 0x8000000000000580 = none := by decide +kernel

/-- A fetch from an I/O location: its device sees it (R202, R301). -/
theorem test_device_fetch :
    let s : State := { codeState 0 with ioRegion := [⟨0x1003, 1⟩] }
    withFetch s (fun t _ => .next t) = .next { s with ioLog := [.read 0x1000 4] } := rfl

theorem witness_StepKeepsInvariant :
    State.Inv (codeState 0) ∧ ∃ t, step (codeState 0) = .next t := by
  refine ⟨?_, ?_⟩
  · constructor <;> decide +kernel
  · exact ⟨_, rfl⟩

theorem witness_EncodeDecode :
    Instr.wellFormed (.ldtw 10 8 (.imm 0x1000)) = true ∧ Instr.wellFormed (.stpartialf 2 9 10 0xC0) = true
    ∧ decode (encode (.stpartialf 2 9 10 0xC0)) = .ok (.stpartialf 2 9 10 0xC0) := by decide +kernel

theorem witness_DecodeEncode : decode 0xC5BA580A = .ok (.stpartialf 2 9 10 0xC0) := by decide +kernel

end Sys2Proof.Tests

end
end

/-! SUPPORT. The register file as numbered storage (10_state.md R54, R55, R71), and what an instruction does where the FPU is disabled (R101). -/

namespace Sys2Proof.Machine

open Sys2Proof.Claims

/-! ### R register numbers and their storage (10_state.md R54) -/

theorem phys_eq_global {gl : Fin 3} (cwp : BitVec 3) {n : RegNum} {k : Fin 21} (h1 : 1 ≤ n.toNat) (h7 : n.toNat ≤ 7)
    (hk : k.val = 7 * gl.val + (n.toNat - 1)) : phys gl cwp n = .global k := by
  have e : Fin.ofNat 21 (7 * gl.val + n.toNat - 1) = k := Fin.ext (by simp only [Fin.val_ofNat]; omega)
  rw [phys, if_neg (by omega), if_pos (by omega), e]

theorem phys_eq_out (gl : Fin 3) {cwp : BitVec 3} {n : RegNum} {k : Fin 128} (h8 : 8 ≤ n.toNat) (h15 : n.toNat ≤ 15)
    (hk : k.val = 16 * ((cwp.toNat + 1) % 8) + (n.toNat - 8)) : phys gl cwp n = .window k := by
  have e : Fin.ofNat 128 (16 * ((cwp.toNat + 1) % Config.nRegWindows) + (n.toNat - 8)) = k :=
    Fin.ext (by simp only [Fin.val_ofNat, Config.nRegWindows]; omega)
  rw [phys, if_neg (by omega), if_neg (by omega), if_pos (by omega), e]

theorem phys_eq_local (gl : Fin 3) {cwp : BitVec 3} {n : RegNum} {k : Fin 128} (h16 : 16 ≤ n.toNat) (h23 : n.toNat ≤ 23)
    (hk : k.val = 16 * cwp.toNat + 8 + (n.toNat - 16)) : phys gl cwp n = .window k := by
  have e : Fin.ofNat 128 (16 * cwp.toNat + 8 + (n.toNat - 16)) = k := Fin.ext (by simp only [Fin.val_ofNat]; omega)
  rw [phys, if_neg (by omega), if_neg (by omega), if_neg (by omega), if_pos (by omega), e]

theorem phys_eq_in (gl : Fin 3) {cwp : BitVec 3} {n : RegNum} {k : Fin 128} (h24 : 24 ≤ n.toNat)
    (hk : k.val = 16 * cwp.toNat + (n.toNat - 24)) : phys gl cwp n = .window k := by
  have e : Fin.ofNat 128 (16 * cwp.toNat + (n.toNat - 24)) = k := Fin.ext (by simp only [Fin.val_ofNat]; omega)
  rw [phys, if_neg (by omega), if_neg (by omega), if_neg (by omega), if_neg (by omega), e]

theorem readReg_of_phys {s : State} {n : RegNum} {p : PhysReg} (h : phys s.gl s.cwp n = p) : readReg s n = readPhys s p :=
  congrArg (readPhys s) h

/-- Settles O1: each bank of register numbers by where `phys` places it, the writes by reading back a register after a write. -/
theorem registerFileLayout : Obligations.RegisterFileLayout := by
  refine ⟨fun s n => ⟨?zero, ?globals, ?outs, ?locals, ?ins⟩, fun s m n v => ⟨writeReg_zero s v, ?same, ?other⟩⟩
  case zero => rintro rfl; exact readReg_zero s
  case globals => exact fun _ ⟨h1, h7, hk⟩ => readReg_of_phys (phys_eq_global s.cwp h1 h7 hk)
  case outs => exact fun _ ⟨h8, h15, hk⟩ => readReg_of_phys (phys_eq_out s.gl h8 h15 hk)
  case locals => exact fun _ ⟨h16, h23, hk⟩ => readReg_of_phys (phys_eq_local s.gl h16 h23 hk)
  case ins => exact fun _ ⟨h24, hk⟩ => readReg_of_phys (phys_eq_in s.gl h24 hk)
  case same => intro hm; rw [readReg_writeReg, if_pos ⟨rfl, hm⟩]
  case other => intro hn; rw [readReg_writeReg, if_neg fun h => hn h.1]

/-! ### Windows overlap (10_state.md R55) -/

/-- The ins of a window are the outs of the one before it. -/
theorem phys_in_eq_out (gl : Fin 3) (cwp : BitVec 3) {n : RegNum} (h8 : 8 ≤ n.toNat) (h15 : n.toNat ≤ 15) :
    phys gl (cwp + 1) (n + 16) = phys gl cwp n := by
  have hn : (n + 16).toNat = n.toNat + 16 := by bv_omega
  have hw : (cwp + 1).toNat = (cwp.toNat + 1) % 8 := by bv_omega
  have hlt : 16 * ((cwp.toNat + 1) % 8) + (n.toNat - 8) < 128 := by omega
  have hin : 16 * ((cwp.toNat + 1) % 8) + (n.toNat - 8) = 16 * (cwp + 1).toNat + ((n + 16).toNat - 24) := by omega
  rw [phys_eq_out gl (k := ⟨_, hlt⟩) h8 h15 rfl, phys_eq_in gl (k := ⟨_, hlt⟩) (by omega) hin]

theorem readReg_saveWindow (s : State) (n : RegNum) : readReg (saveWindow s) n = readPhys s (phys s.gl (s.cwp + 1) n) :=
  readPhys_congr rfl rfl _

theorem readReg_restoreWindow (s : State) (n : RegNum) :
    readReg (restoreWindow s) n = readPhys s (phys s.gl (s.cwp - 1) n) :=
  readPhys_congr rfl rfl _

/-! ### A double F register below 32 is two single ones (10_state.md R71) -/

theorem singleWord_inj {f g : RegNum} : singleWord f = singleWord g ↔ f = g := by
  refine ⟨fun h => BitVec.eq_of_toNat_eq ?_, congrArg _⟩
  have hv : f.toNat % 64 = g.toNat % 64 := congrArg Fin.val h
  omega

/-- Bit 0 of an even field adds nothing to the number of its double register (30_encoding.md R345). -/
theorem doubleNumber_of_even {f : RegNum} (h : f.getLsbD 0 = false) : (doubleNumber f).toNat = f.toNat := by
  revert f
  decide +kernel

theorem toNat_or_one_of_even {f : RegNum} (h : f.getLsbD 0 = false) : (f ||| 1#5).toNat = f.toNat + 1 := by
  revert f
  decide +kernel

theorem or_one_ne_of_even {f : RegNum} (h : f.getLsbD 0 = false) : f ||| 1#5 ≠ f := fun e => by
  have := toNat_or_one_of_even h
  rw [e] at this
  omega

/-- The first word of an even double register. -/
theorem singleWord_of_even {f : RegNum} (h : f.getLsbD 0 = false) : Fin.ofNat 64 (doubleNumber f).toNat = singleWord f := by
  rw [doubleNumber_of_even h, singleWord]

/-- Its second word. -/
theorem singleWord_odd_of_even {f : RegNum} (h : f.getLsbD 0 = false) :
    Fin.ofNat 64 ((doubleNumber f).toNat + 1) = singleWord (f ||| 1#5) := by
  rw [doubleNumber_of_even h, singleWord, toNat_or_one_of_even h]

theorem readD_of_even (s : State) {f : RegNum} (h : f.getLsbD 0 = false) : readD s f = readS s f ++ readS s (f ||| 1#5) := by
  simp only [readD, readFd, readS, singleWord_of_even h, singleWord_odd_of_even h]

theorem readS_writeD_of_even (s : State) {f : RegNum} (g : RegNum) (v : Word64) (h : f.getLsbD 0 = false) :
    readS (writeD s f v) g
      = if g = f then v.extractLsb' 32 32 else if g = f ||| 1#5 then v.extractLsb' 0 32 else readS s g := by
  rw [readS, writeD, writeFd_fregs, singleWord_of_even h, singleWord_odd_of_even h]
  simp only [singleWord_inj]
  by_cases hg : g = f
  · subst hg
    rw [if_neg (or_one_ne_of_even h).symm, if_pos rfl, if_pos rfl]
  · rw [if_neg hg, if_neg hg, readS]

/-- Settles O2: the windows by `phys_in_eq_out`, one window back for RESTORE; the F registers by the two words of an even double register. -/
theorem overlappingRegisters : Obligations.OverlappingRegisters := by
  refine ⟨fun s n h8 h15 => ?save, fun s n h24 => ?restore, fun s f => readD_of_even s,
    fun s f g v => readS_writeD_of_even s g v, fun s f v h => ⟨?first, ?second⟩⟩
  case save => rw [readReg_saveWindow, phys_in_eq_out _ _ h8 h15, readReg]
  case restore =>
    have h := phys_in_eq_out s.gl (s.cwp - 1) (n := n - 16) (by bv_omega) (by bv_omega)
    rw [BitVec.sub_add_cancel, BitVec.sub_add_cancel] at h
    rw [readReg_restoreWindow, ← h, readReg]
  case first =>
    rw [readD_of_even _ h, readS_writeS, readS_writeS, if_pos rfl, if_neg (or_one_ne_of_even h)]
  case second =>
    rw [readD_of_even _ h, readS_writeS, readS_writeS, if_pos rfl, if_neg (or_one_ne_of_even h).symm]

/-! ### The FPU disabled (10_state.md R101) -/

theorem fpuEnabled_eq_false_iff {s : State} : fpuEnabled s = false ↔ s.fprs.getLsbD 2 = false ∨ s.pef = false := by
  simp only [fpuEnabled, Config.fpuPresent, Bool.true_and, Bool.and_eq_false_iff]

/-- Whatever stands behind the check of the enable bits, the instruction is the fp_disabled trap. -/
theorem traps_fpDisabled {i : Instr} {s : State} (hd : fpuEnabled s = false) (hi : ∃ k, exec i s = requireFpu s k) :
    Traps i s s 0x020 := by
  intro htl
  obtain ⟨k, hk⟩ := hi
  rw [hk, requireFpu, if_neg (by simp [hd])]
  exact raise_eq_next_iff.2 ⟨rfl, htl, rfl⟩

/-- Each listed instruction is, as its definition stands, the check of the enable bits before the rest; for the others the hypothesis is false. -/
theorem exec_of_needsFpu {i : Instr} (s : State) (h : needsFpu i = true) : ∃ k, exec i s = requireFpu s k := by
  cases i <;> cases h
  all_goals exact ⟨_, rfl⟩

theorem blockAligned_iff {rd : RegNum} : blockAligned rd = true ↔ (doubleNumber rd).toNat % 16 = 0 := by
  simp [blockAligned]

theorem blockLoad_of_aligned (s : State) {rd : RegNum} (t : Target) (h : blockAligned rd = true) :
    ∃ k, blockLoad s rd t = requireFpu s k :=
  ⟨_, if_pos h⟩

theorem blockStore_of_aligned (s : State) {rd : RegNum} (t : Target) (h : blockAligned rd = true) :
    ∃ k, blockStore s rd t = requireFpu s k :=
  ⟨_, if_pos h⟩

/-- LDDFA tests the enable bits first, but for the check of the register that block and commit ASIs have (43_fp_load_store.md R961, R985). -/
theorem exec_lddfa_of_admitted (s : State) (rd rs1 : RegNum) (src : AsiOperand)
    (h : asiClass (explicitAsi s src) = .block ∨ asiClass (explicitAsi s src) = .commit → blockAligned rd = true) :
    ∃ k, exec (.lddfa rd rs1 src) s = requireFpu s k := by
  show ∃ k, execLddfa rd rs1 src s = _
  dsimp only [execLddfa, alternateTarget]
  split
  case h_1 hc => exact blockLoad_of_aligned s _ (h (.inl hc))
  case h_2 => exact ⟨_, rfl⟩
  case h_3 hc => exact ⟨_, if_pos (h (.inr hc))⟩
  case h_4 => exact ⟨_, rfl⟩

/-- STDFA likewise, a partial-store ASI apart (43_fp_load_store.md R976, R986; 20_memory.md R221). -/
theorem exec_stdfa_of_admitted (s : State) (rd rs1 : RegNum) (src : AsiOperand)
    (h : asiClass (explicitAsi s src) = .block ∨ asiClass (explicitAsi s src) = .commit → blockAligned rd = true)
    (hp : asiClass (explicitAsi s src) ≠ .pst) : ∃ k, exec (.stdfa rd rs1 src) s = requireFpu s k := by
  show ∃ k, execStdfa rd rs1 src s = _
  dsimp only [execStdfa, alternateTarget]
  split
  case h_1 hc => exact blockStore_of_aligned s _ (h (.inl hc))
  case h_2 hc => exact blockStore_of_aligned s _ (h (.inr hc))
  case h_3 => exact ⟨_, rfl⟩
  case h_4 hc => exact absurd hc hp
  case h_5 => exact ⟨_, rfl⟩

/-- Settles O50: every listed instruction comes down to the check of the enable bits, which fails. -/
theorem fpDisabledTraps : Obligations.FpDisabledTraps := by
  intro s hoff
  have hd : fpuEnabled s = false := fpuEnabled_eq_false_iff.2 hoff
  refine ⟨fun i hi => traps_fpDisabled hd (exec_of_needsFpu s hi),
    fun rd rs1 rs2 src asi => ⟨fun ha => ?block, fun ha => ?byAsi⟩⟩
  case block =>
    have hb := blockAligned_iff.2 ha
    exact ⟨traps_fpDisabled hd (blockLoad_of_aligned s _ hb), traps_fpDisabled hd (blockStore_of_aligned s _ hb)⟩
  case byAsi =>
    have hb := fun hc => blockAligned_iff.2 (ha hc)
    exact ⟨traps_fpDisabled hd (exec_lddfa_of_admitted s rd rs1 src hb),
      fun hp => traps_fpDisabled hd (exec_stdfa_of_admitted s rd rs1 src hb hp)⟩

end Sys2Proof.Machine

/-! SUPPORT. A step keeps the invariant: the values its fields take, the updates of the
state, the outcomes of the shared forms, the instructions one by one, the step. -/

namespace Sys2Proof.Machine

/-! ### Word addresses -/

/-- The word-alignment of the invariant as a remainder. -/
theorem low_bits_eq_zero_iff {x : Word64} : x.extractLsb' 0 2 = 0 ↔ x.toNat % 4 = 0 := by
  rw [← BitVec.toNat_inj, BitVec.extractLsb'_toNat]
  simp

theorem low_bits_add_four {x : Word64} (h : x.extractLsb' 0 2 = 0) : (x + 4).extractLsb' 0 2 = 0 := by
  rw [low_bits_eq_zero_iff] at h ⊢
  bv_omega

theorem low_bits_add_eight {x : Word64} (h : x.extractLsb' 0 2 = 0) : (x + 8).extractLsb' 0 2 = 0 := by
  rw [low_bits_eq_zero_iff] at h ⊢
  bv_omega

theorem low_bits_pcRelative {n : Nat} {s : State} (disp : BitVec n) (h : s.pc.extractLsb' 0 2 = 0) :
    (pcRelative s disp).extractLsb' 0 2 = 0 := by
  rw [low_bits_eq_zero_iff] at h ⊢
  rw [pcRelative, BitVec.toNat_add, BitVec.toNat_mul, show (4 : Word64).toNat = 4 from rfl]
  omega

theorem low_bits_append (x : BitVec 62) : (x ++ 0#2 : Word64).extractLsb' 0 2 = 0 :=
  BitVec.extractLsb'_append_eq_right

/-- Every trap vector is a word address: a trap type is followed by five zero bits (60_exceptions.md R1601). -/
theorem low_bits_trapVector (s : State) (tt : BitVec 9) : (trapVector s tt).extractLsb' 0 2 = 0 := by
  rw [low_bits_eq_zero_iff, trapVector, BitVec.toNat_append,
    ← Nat.shiftLeft_add_eq_or_of_lt (BitVec.isLt _), Nat.shiftLeft_eq]
  simp
  omega

theorem low_bits_queueAligned (v : Word64) : (queueAligned v).extractLsb' 0 6 = 0 :=
  BitVec.extractLsb'_append_eq_right

/-! ### Reserved bits -/

/-- A field of `v`, under `field`, replaced by `x`: where the mask holds both, the bits outside it stay. -/
theorem reserved_replace {w : Nat} {v field x mask : BitVec w} (hf : field &&& ~~~mask = 0) (hx : x &&& ~~~mask = 0) :
    ((v &&& ~~~field) ||| x) &&& ~~~mask = v &&& ~~~mask := by
  ext i hi
  have h1 := congrArg (·[i]) hf
  have h2 := congrArg (·[i]) hx
  simp at h1 h2 ⊢
  grind

theorem and_and_not {w : Nat} (v mask : BitVec w) : v &&& mask &&& ~~~mask = 0 := by
  rw [BitVec.and_assoc, BitVec.and_not_self]
  exact BitVec.and_zero

/-- Two values side by side keep their reserved bits under their masks side by side. -/
theorem reserved_append {m n : Nat} {hi hiMask : BitVec m} {lo loMask : BitVec n} (hh : hi &&& ~~~hiMask = 0)
    (hl : lo &&& ~~~loMask = 0) : (hi ++ lo) &&& ~~~(hiMask ++ loMask) = 0 := by
  rw [BitVec.not_append, BitVec.and_append, hh, hl]
  exact BitVec.zero_append_zero

theorem reserved_allOnes {w : Nat} (v : BitVec w) : v &&& ~~~BitVec.allOnes w = 0 := by
  rw [BitVec.not_allOnes]
  exact BitVec.and_zero

theorem reserved_zero {w : Nat} (mask : BitVec w) : 0#w &&& ~~~mask = 0 := BitVec.zero_and

theorem reserved_extract {w : Nat} {v mask : BitVec w} (h : v &&& ~~~mask = 0) (lo n : Nat) :
    v.extractLsb' lo n &&& ~~~mask.extractLsb' lo n = 0 := by
  ext k hk
  have hb := congrArg (·.getLsbD (lo + k)) h
  by_cases hw : lo + k < w
  · simpa [hw] using hb
  · simp [BitVec.getLsbD_of_ge v (lo + k) (by omega)]

/-- The storage of TSTATE laid out in the fields trap entry saves (10_state.md R146). -/
theorem tstateMask_fields : tstateMask =
    0#21 ++ BitVec.allOnes 3 ++ BitVec.allOnes 8 ++ BitVec.allOnes 8 ++ 0#3 ++ pstateMask ++ 0#5 ++
      BitVec.allOnes 3 := by
  decide

theorem savedTstate_reserved {s : State} (h : s.pstate &&& ~~~pstateMask = 0) :
    savedTstate s &&& ~~~tstateMask = 0 := by
  rw [tstateMask_fields]
  have gl := reserved_append (reserved_zero 0#21) (reserved_allOnes (levelBits s.gl))
  have ccr := reserved_append gl (reserved_allOnes s.ccr)
  have asi := reserved_append ccr (reserved_allOnes s.asi)
  have pstate := reserved_append (reserved_append asi (reserved_zero 0#3)) h
  exact reserved_append (reserved_append pstate (reserved_zero 0#5)) (reserved_allOnes s.cwp)

/-- What trap entry copies of PSTATE, bits 7:6 (`mm`), is reserved, so 0. -/
theorem trapPstate_reserved {s : State} (h : s.pstate &&& ~~~pstateMask = 0) :
    trapPstate s &&& ~~~pstateMask = 0 := by
  have hm : s.pstate.extractLsb' 6 2 = 0#2 := by
    have := congrArg (·.extractLsb' 6 2) h
    simp only [BitVec.extractLsb'_and] at this
    rwa [show (~~~pstateMask).extractLsb' 6 2 = BitVec.allOnes 2 by decide, BitVec.and_allOnes] at this
  rw [trapPstate, hm]
  cases s.tle <;> decide

theorem withFttCexc_reserved (fsr : Word64) (ftt : BitVec 3) (cexc : BitVec 5) :
    withFttCexc fsr ftt cexc &&& ~~~fsrMask = fsr &&& ~~~fsrMask := by
  have h1 : ∀ ftt : BitVec 3, ftt.setWidth 64 <<< 14 &&& ~~~fsrMask = 0 := by decide
  have h2 : ∀ cexc : BitVec 5, cexc.setWidth 64 &&& ~~~fsrMask = 0 := by decide
  rw [withFttCexc, BitVec.or_assoc]
  refine reserved_replace (by decide) ?_
  rw [BitVec.and_or_distrib_right, h1, h2]
  rfl

theorem accrue_reserved (fsr : Word64) (c : BitVec 5) : accrue fsr c &&& ~~~fsrMask = fsr &&& ~~~fsrMask := by
  have h : ∀ c : BitVec 5, c.setWidth 64 <<< 5 &&& ~~~fsrMask = 0 := by decide
  rw [accrue, BitVec.and_or_distrib_right, h]
  exact BitVec.or_zero

theorem withFcc_reserved (fsr : Word64) (n : FccNum) (rel : BitVec 2) :
    withFcc fsr n rel &&& ~~~fsrMask = fsr &&& ~~~fsrMask := by
  have hf : ∀ n : FccNum, 3#64 <<< fccShift n &&& ~~~fsrMask = 0 := by decide
  have hx : ∀ (n : FccNum) (rel : BitVec 2), rel.setWidth 64 <<< fccShift n &&& ~~~fsrMask = 0 := by decide
  exact reserved_replace (hf n) (hx n rel)

/-- A load of FSR takes only bits under its mask from memory. -/
theorem loadFsrFields_reserved {mask : Word64} (fsr v : Word64) (h : mask &&& ~~~fsrMask = 0) :
    loadFsrFields mask fsr v &&& ~~~fsrMask = fsr &&& ~~~fsrMask := by
  refine reserved_replace h ?_
  rw [BitVec.and_assoc, h]
  exact BitVec.and_zero

theorem clearFtt_reserved (fsr : Word64) : clearFtt fsr &&& ~~~fsrMask = fsr &&& ~~~fsrMask := by
  have := reserved_replace (v := fsr) (field := 0x1C000#64) (x := 0#64) (mask := fsrMask) (by decide) (by decide)
  rwa [BitVec.or_zero] at this

theorem withGsrAlign_reserved {gsr : Word64} (a : BitVec 3) (h : gsr &&& ~~~gsrMask = 0) :
    withGsrAlign gsr a &&& ~~~gsrMask = 0 := by
  rw [show gsrMask = gsrMask.extractLsb' 3 61 ++ BitVec.allOnes 3 by decide]
  exact reserved_append (reserved_extract h 3 61) (reserved_allOnes a)

theorem withGsrMask_reserved {gsr : Word64} (m : Word32) (h : gsr &&& ~~~gsrMask = 0) :
    withGsrMask gsr m &&& ~~~gsrMask = 0 := by
  rw [show gsrMask = BitVec.allOnes 32 ++ gsrMask.extractLsb' 0 32 by decide]
  exact reserved_append (reserved_allOnes m) (reserved_extract h 0 32)

theorem withGsrRounding_reserved {gsr : Word64} (mode : BitVec 3) (h : gsr &&& ~~~gsrMask = 0) :
    withGsrRounding gsr mode &&& ~~~gsrMask = 0 := by
  rw [show gsrMask = gsrMask.extractLsb' 28 36 ++ BitVec.allOnes 3 ++ gsrMask.extractLsb' 0 25 by decide]
  have hi := reserved_append (reserved_extract h 28 36) (reserved_allOnes mode)
  exact reserved_append hi (reserved_extract h 0 25)


/-! ### The invariant under the updates of the state -/

/-- The fields the invariant speaks of. -/
def State.checked (s : State) :
    Word64 × Word64 × BitVec 13 × Word64 × Word64 × Vector TrapFrame 2 × (Queue × Queue × Queue × Queue) × Memory :=
  (s.pc, s.npc, s.pstate, s.fsr, s.gsr, s.trapStack, (s.cpuMondo, s.devMondo, s.resError, s.nonresError), s.mem)

/-- The invariant rests on those fields alone. -/
theorem State.Inv.of_checked {s t : State} (h : s.Inv) (e : t.checked = s.checked) : t.Inv := by
  simp only [State.checked, Prod.mk.injEq] at e
  obtain ⟨hpc, hnpc, hps, hfsr, hgsr, hts, ⟨hq1, hq2, hq3, hq4⟩, hm⟩ := e
  cases h
  constructor <;> simp_all only

section
variable {s : State} (h : s.Inv)
include h

theorem State.Inv.setPcs {pc npc : Word64} (hp : pc.extractLsb' 0 2 = 0) (hn : npc.extractLsb' 0 2 = 0) :
    (Machine.setPcs s pc npc).Inv :=
  { h with pcAligned := hp, npcAligned := hn }

theorem State.Inv.advance : (Machine.advance s).Inv := h.setPcs h.npcAligned (low_bits_add_four h.npcAligned)

theorem State.Inv.writeReg (rd : RegNum) (v : Word64) : (Machine.writeReg s rd v).Inv :=
  h.of_checked (by simp [State.checked])

theorem State.Inv.setInputs (inputs : List EnvInput) : { s with inputs := inputs }.Inv := h.of_checked rfl

theorem State.Inv.setY (y : Word32) : { s with y := y }.Inv := h.of_checked rfl

theorem State.Inv.drawFree : (Machine.drawFree s).Inv := h.of_checked rfl

theorem State.Inv.writeS (f : RegNum) (v : Word32) : (Machine.writeS s f v).Inv := h.of_checked rfl

theorem State.Inv.writeFd (n : BitVec 6) (v : Word64) : (Machine.writeFd s n v).Inv := h.of_checked rfl

theorem State.Inv.afterRead (a n : Nat) : (Machine.afterRead s a n).Inv := h.of_checked (by simp [State.checked])

theorem State.Inv.setFsr {fsr : Word64} (hf : fsr &&& ~~~fsrMask = s.fsr &&& ~~~fsrMask) : { s with fsr := fsr }.Inv :=
  { h with fsrReserved := hf.trans h.fsrReserved }

theorem State.Inv.setGsr {gsr : Word64} (hg : gsr &&& ~~~gsrMask = 0) : { s with gsr := gsr }.Inv :=
  { h with gsrReserved := hg }

theorem State.Inv.setMem {mem : Memory} (hm : mem.wf = true) : { s with mem := mem }.Inv := { h with memoryForm := hm }

theorem State.Inv.storeBytes (cells : List Host.Cell) : (Machine.storeBytes s cells).Inv :=
  (h.setMem (wf_storeBytes cells h.memoryForm)).of_checked rfl

/-- A trap frame whose TSTATE has its reserved bits 0 may go to any level. -/
theorem State.Inv.setFrame (k : Nat) {f : TrapFrame} (hf : f.tstate &&& ~~~tstateMask = 0) :
    { s with trapStack := s.trapStack.setIfInBounds k f }.Inv :=
  { h with
    tstate1Reserved := by
      simp only [Vector.getElem_setIfInBounds]
      split
      exacts [hf, h.tstate1Reserved]
    tstate2Reserved := by
      simp only [Vector.getElem_setIfInBounds]
      split
      exacts [hf, h.tstate2Reserved] }

theorem State.Inv.setPstate {p : BitVec 13} (hp : p &&& ~~~pstateMask = 0) : { s with pstate := p }.Inv :=
  { h with pstateReserved := hp }

theorem State.Inv.takeTrap (tt : BitVec 9) : (Machine.takeTrap s tt).Inv :=
  let saved := h.setFrame s.tl.val (f := savedFrame s tt) (savedTstate_reserved h.pstateReserved)
  let entered := (saved.setPstate (trapPstate_reserved h.pstateReserved)).setPcs (low_bits_trapVector s tt)
    (low_bits_add_four (low_bits_trapVector s tt))
  entered.of_checked rfl

theorem State.Inv.returnFromTrap : (Machine.returnFromTrap s).Inv :=
  (h.setPstate (and_and_not _ pstateMask)).of_checked rfl

end

theorem Queue.withTail_head (q : Queue) (tail : Option Word64) : (q.withTail tail).head = q.head := by
  cases tail <;> rfl

theorem Queue.withTail_tail_aligned {q : Queue} (tail : Option Word64) (h : q.tail.extractLsb' 0 6 = 0) :
    (q.withTail tail).tail.extractLsb' 0 6 = 0 := by
  cases tail with
  | none => exact h
  | some t => exact low_bits_queueAligned t

theorem State.Inv.applyInput {s : State} (h : s.Inv) (i : EnvInput) : (Machine.applyInput s i).Inv :=
  { h with
    cpuMondoHead := (congrArg _ (Queue.withTail_head s.cpuMondo i.cpuMondoTail)).trans h.cpuMondoHead
    devMondoHead := (congrArg _ (Queue.withTail_head s.devMondo i.devMondoTail)).trans h.devMondoHead
    resErrorHead := (congrArg _ (Queue.withTail_head s.resError i.resErrorTail)).trans h.resErrorHead
    nonresErrorHead := (congrArg _ (Queue.withTail_head s.nonresError i.nonresErrorTail)).trans h.nonresErrorHead
    cpuMondoTail := Queue.withTail_tail_aligned i.cpuMondoTail h.cpuMondoTail
    devMondoTail := Queue.withTail_tail_aligned i.devMondoTail h.devMondoTail
    resErrorTail := Queue.withTail_tail_aligned i.resErrorTail h.resErrorTail
    nonresErrorTail := Queue.withTail_tail_aligned i.nonresErrorTail h.nonresErrorTail
    memoryForm := Memory.wf_writeBytes i.stores h.memoryForm }

theorem State.Inv.advanceEnvironment {s : State} (h : s.Inv) : (Machine.advanceEnvironment s).Inv := by
  rw [Machine.advanceEnvironment]
  split
  · exact h.applyInput _
  · exact (h.setInputs _).applyInput _

/-! ### Outcomes whose next state meets the invariant -/

/-- The next state of an outcome, if it has one, meets the invariant. -/
def InvAfter (o : Outcome) : Prop := ∀ t, o = .next t → t.Inv

theorem invAfter_next {t : State} (h : t.Inv) : InvAfter (.next t) := by
  rintro _ ⟨⟩
  exact h

theorem invAfter_refused (r : Refusal) : InvAfter (.refused r) := fun _ e => by cases e

theorem invAfter_ite {p : Prop} [Decidable p] {k l : Outcome} (hk : p → InvAfter k) (hl : ¬p → InvAfter l) :
    InvAfter (if p then k else l) := by
  split
  exacts [hk ‹_›, hl ‹_›]

section
variable {s : State} (h : s.Inv)
include h

theorem invAfter_raise (e : Exception) : InvAfter (raise s e) := by
  intro t ht
  obtain ⟨-, -, rfl⟩ := raise_eq_next_iff.1 ht
  exact h.takeTrap _

theorem invAfter_requireFpu {k : Outcome} (hk : InvAfter k) : InvAfter (requireFpu s k) := by
  intro t ht
  obtain ht | ⟨-, rfl⟩ := requireFpu_eq_next ht
  exacts [hk t ht, h.takeTrap _]

theorem invAfter_requirePriv {k : Outcome} (hk : InvAfter k) : InvAfter (requirePriv s k) := by
  intro t ht
  obtain ht | ⟨-, rfl⟩ := requirePriv_eq_next ht
  exacts [hk t ht, h.takeTrap _]

theorem invAfter_tctCheck {k : Outcome} (hk : InvAfter k) : InvAfter (tctCheck s k) := by
  intro t ht
  obtain ht | ⟨-, rfl⟩ := tctCheck_eq_next ht
  exacts [hk t ht, h.takeTrap _]

theorem invAfter_stopAccess (g : Target) (stop : AccessStop) : InvAfter (stopAccess s g stop) := by
  intro t ht
  obtain ⟨e, -, -, -, rfl⟩ := stopAccess_eq_next ht
  exact h.takeTrap _

omit h in
theorem invAfter_withRead {α : Type} {r : Except Nat α} {k : α → Outcome} (hk : ∀ v, InvAfter (k v)) :
    InvAfter (withRead r k) := by
  intro t ht
  obtain ⟨v, -, hv⟩ := withRead_eq_next ht
  exact hk v t hv

theorem invAfter_withData {acc : Access} {g : Target} {k : Nat → Bool → Outcome}
    (hk : ∀ ra little, InvAfter (k ra little)) : InvAfter (withData s acc g k) := by
  intro t ht
  obtain ⟨ra, little, -, ht⟩ | ⟨e, rfl⟩ := withData_eq_next ht
  exacts [hk ra little t ht, h.takeTrap _]

theorem invAfter_withLoad {acc : Access} {g : Target} {k : State → Memory → Nat → Bool → Outcome}
    (hk : ∀ u m ra little, u.Inv → InvAfter (k u m ra little)) : InvAfter (withLoad s acc g k) :=
  invAfter_withData h fun ra little => hk _ _ ra little (h.afterRead ra acc.width)

/-! ### Integer instructions -/

theorem invAfter_finishReg (rd : RegNum) (v : Word64) : InvAfter (finishReg s rd v) :=
  invAfter_next (h.writeReg rd v).advance

theorem invAfter_finishCc (rd : RegNum) (v : Word64) (ccr : BitVec 8) : InvAfter (finishCc s rd v ccr) :=
  invAfter_finishReg (s := { s with ccr := ccr }) (h.of_checked rfl) rd v

theorem invAfter_multiply32 (rd : RegNum) (prod : Word64) (setCc : Bool) : InvAfter (multiply32 s rd prod setCc) :=
  invAfter_finishCc (h.setY _) rd _ _

theorem invAfter_divide32 (rd : RegNum) (divisor : Word32) (result : Word64 × Bool) (setCc : Bool) :
    InvAfter (divide32 s rd divisor result setCc) :=
  invAfter_ite (fun _ => invAfter_raise h _) fun _ => invAfter_finishCc (h.drawFree.setY _) rd _ _

theorem invAfter_movIcc (cond : BitVec 4) (rd : RegNum) (cc : IntCc) (op2 : RegOrImm 11) :
    InvAfter (movIcc cond rd cc op2 s) :=
  invAfter_ite (fun _ => invAfter_finishReg h _ _) fun _ => invAfter_next h.advance

theorem invAfter_movFcc (cond : BitVec 4) (rd : RegNum) (fcc : FccNum) (op2 : RegOrImm 11) :
    InvAfter (movFcc cond rd fcc op2 s) :=
  invAfter_requireFpu h (invAfter_ite (fun _ => invAfter_finishReg h _ _) fun _ => invAfter_next h.advance)

theorem invAfter_movReg (rcond : BitVec 3) (rd rs1 : RegNum) (op2 : RegOrImm 10) :
    InvAfter (movReg rcond rd rs1 op2 s) :=
  invAfter_ite (fun _ => invAfter_finishReg h _ _) fun _ => invAfter_next h.advance

/-! ### Control transfer -/

theorem invAfter_branch (always taken annul : Bool) {target : Word64} (ht : target.extractLsb' 0 2 = 0) :
    InvAfter (branch s always taken annul target) := by
  have hb : (branchStep s always taken annul target).Inv := by
    unfold branchStep
    split_ifs
    · exact h.setPcs ht (low_bits_add_four ht)
    · exact h.setPcs h.npcAligned ht
    · exact h.setPcs (low_bits_add_four h.npcAligned) (low_bits_add_eight h.npcAligned)
    · exact h.advance
  exact invAfter_ite (fun _ => invAfter_tctCheck h (invAfter_next hb)) fun _ => invAfter_next hb

theorem invAfter_branchIcc (cond : BitVec 4) (a : Bool) (disp22 : BitVec 22) : InvAfter (branchIcc cond a disp22 s) :=
  invAfter_branch h _ _ _ (low_bits_pcRelative disp22 h.pcAligned)

theorem invAfter_branchPcc (cond : BitVec 4) (a : Bool) (cc : IntCc) (disp19 : BitVec 19) :
    InvAfter (branchPcc cond a cc disp19 s) :=
  invAfter_branch h _ _ _ (low_bits_pcRelative disp19 h.pcAligned)

theorem invAfter_branchReg (rcond : BitVec 3) (a : Bool) (d16 : BitVec 16) (rs1 : RegNum) :
    InvAfter (branchReg rcond a d16 rs1 s) :=
  invAfter_branch h _ _ _ (low_bits_pcRelative d16 h.pcAligned)

theorem invAfter_branchFcc (cond : BitVec 4) (a : Bool) (disp22 : BitVec 22) : InvAfter (branchFcc cond a disp22 s) :=
  invAfter_requireFpu h (invAfter_branch h _ _ _ (low_bits_pcRelative disp22 h.pcAligned))

theorem invAfter_branchPfcc (cond : BitVec 4) (a : Bool) (fcc : FccNum) (disp19 : BitVec 19) :
    InvAfter (branchPfcc cond a fcc disp19 s) :=
  invAfter_requireFpu h (invAfter_branch h _ _ _ (low_bits_pcRelative disp19 h.pcAligned))

theorem invAfter_trapIcc (cond : BitVec 4) (rs1 : RegNum) (cc : IntCc) (num : RegOrImm 8) :
    InvAfter (trapIcc cond rs1 cc num s) :=
  invAfter_ite (fun _ => invAfter_tctCheck h (invAfter_raise h _)) fun _ => invAfter_next h.advance

theorem invAfter_trapReturn {pcs : TrapFrame → Word64 × Word64}
    (hp : ∀ f, (pcs f).1.extractLsb' 0 2 = 0 ∧ (pcs f).2.extractLsb' 0 2 = 0) : InvAfter (trapReturn s pcs) :=
  invAfter_requirePriv h <| invAfter_ite (fun _ => invAfter_raise h _) fun _ =>
    invAfter_tctCheck h (invAfter_next (h.returnFromTrap.setPcs (hp _).1 (hp _).2))

theorem invAfter_execDone : InvAfter (execDone s) :=
  invAfter_trapReturn h fun f => ⟨low_bits_append f.tnpc, low_bits_add_four (low_bits_append f.tnpc)⟩

theorem invAfter_execRetry : InvAfter (execRetry s) :=
  invAfter_trapReturn h fun f => ⟨low_bits_append f.tpc, low_bits_append f.tnpc⟩

theorem invAfter_execCall (disp30 : BitVec 30) : InvAfter (execCall disp30 s) :=
  invAfter_tctCheck h <| invAfter_next <|
    (h.writeReg _ _).setPcs h.npcAligned (low_bits_pcRelative disp30 h.pcAligned)

theorem invAfter_execJmpl (rd rs1 : RegNum) (op2 : RegOrImm 13) : InvAfter (execJmpl rd rs1 op2 s) :=
  invAfter_ite (fun _ => invAfter_raise h _) fun ht =>
    invAfter_tctCheck h (invAfter_next ((h.writeReg _ _).setPcs h.npcAligned (by simpa using ht)))

theorem invAfter_execReturn (rs1 : RegNum) (op2 : RegOrImm 13) : InvAfter (execReturn rs1 op2 s) :=
  invAfter_ite (fun _ => invAfter_raise h _) fun _ => invAfter_ite (fun _ => invAfter_raise h _) fun ht =>
    invAfter_tctCheck h <| invAfter_next <|
      State.Inv.setPcs (s := restoreWindow s) (h.of_checked rfl) h.npcAligned (by simpa using ht)

/-! ### Loads, stores and atomics -/

theorem invAfter_loadByte (rd : RegNum) (g : Target) (extend : Byte → Word64) : InvAfter (loadByte s rd g extend) :=
  invAfter_withLoad h fun _ _ _ _ hu => invAfter_withRead fun _ => invAfter_finishReg hu _ _

theorem invAfter_loadHalf (rd : RegNum) (g : Target) (extend : Half → Word64) : InvAfter (loadHalf s rd g extend) :=
  invAfter_withLoad h fun _ _ _ _ hu => invAfter_withRead fun _ => invAfter_finishReg hu _ _

theorem invAfter_loadWord (rd : RegNum) (g : Target) (extend : Word32 → Word64) : InvAfter (loadWord s rd g extend) :=
  invAfter_withLoad h fun _ _ _ _ hu => invAfter_withRead fun _ => invAfter_finishReg hu _ _

theorem invAfter_loadDoubleword (rd : RegNum) (acc : Access) (g : Target) : InvAfter (loadDoubleword s rd acc g) :=
  invAfter_withLoad h fun _ _ _ _ hu => invAfter_withRead fun _ => invAfter_finishReg hu _ _

theorem invAfter_finishTwin (rd : RegNum) (v0 v1 : Word64) : InvAfter (finishTwin s rd v0 v1) :=
  invAfter_finishReg (h.writeReg _ _) _ _

theorem invAfter_loadTwinWord (rd : RegNum) (g : Target) : InvAfter (loadTwinWord s rd g) :=
  invAfter_withLoad h fun _ _ _ _ hu => invAfter_withRead fun _ => invAfter_withRead fun _ =>
    invAfter_finishTwin hu _ _ _

theorem invAfter_finishStore (cells : List Host.Cell) : InvAfter (finishStore s cells) :=
  invAfter_next (h.storeBytes cells).advance

theorem invAfter_storeValue {w : Nat} (acc : Access) (g : Target) (v : BitVec w) : InvAfter (storeValue s acc g v) :=
  invAfter_withData h fun _ _ => invAfter_finishStore h _

theorem invAfter_storeTwinWord (rd : RegNum) (g : Target) : InvAfter (storeTwinWord s rd g) :=
  invAfter_withData h fun _ _ => invAfter_finishStore h _

theorem invAfter_finishAtomic (cells : List Host.Cell) (rd : RegNum) (old : Word64) :
    InvAfter (finishAtomic s cells rd old) :=
  invAfter_finishReg (h.storeBytes cells) _ _

theorem invAfter_loadStoreByte (rd : RegNum) (g : Target) : InvAfter (loadStoreByte s rd g) :=
  invAfter_withLoad h fun _ _ _ _ hu => invAfter_withRead fun _ => invAfter_finishAtomic hu _ _ _

theorem invAfter_swapWord (rd : RegNum) (g : Target) : InvAfter (swapWord s rd g) :=
  invAfter_withLoad h fun _ _ _ _ hu => invAfter_withRead fun _ => invAfter_finishAtomic hu _ _ _

theorem invAfter_execCasa (rd rs1 rs2 : RegNum) (src : CasAsi) : InvAfter (execCasa rd rs1 rs2 src s) :=
  invAfter_withLoad h fun _ _ _ _ hu => invAfter_withRead fun _ => invAfter_finishAtomic hu _ _ _

theorem invAfter_execCasxa (rd rs1 rs2 : RegNum) (src : CasAsi) : InvAfter (execCasxa rd rs1 rs2 src s) :=
  invAfter_withLoad h fun _ _ _ _ hu => invAfter_withRead fun _ => invAfter_finishAtomic hu _ _ _

theorem invAfter_execLdtxa (rd rs1 rs2 : RegNum) (asi : Asi) : InvAfter (execLdtxa rd rs1 rs2 asi s) :=
  invAfter_ite (fun _ => invAfter_raise h _) fun _ => invAfter_withLoad h fun _ _ _ _ hu =>
    invAfter_withRead fun _ => invAfter_withRead fun _ => invAfter_finishTwin hu _ _ _

theorem invAfter_execLdxa (rd rs1 : RegNum) (src : AsiOperand) : InvAfter (execLdxa rd rs1 src s) := by
  dsimp only [execLdxa]
  split
  · exact invAfter_loadDoubleword h _ _ _
  · exact invAfter_loadDoubleword h _ _ _
  · split
    · exact invAfter_stopAccess h _ _
    · exact invAfter_finishReg h _ _

/-- A queue register takes its value with bits 5:0 zero; the other registers in ASIs are free of constraints. -/
theorem inv_of_writeAsiRegister {t : State} {asi : Asi} {ea v : Word64}
    (ht : writeAsiRegister s asi ea v = some t) : t.Inv := by
  unfold writeAsiRegister at ht
  split at ht
  · obtain ⟨i, -, rfl⟩ := Option.map_eq_some_iff.1 ht
    exact h.of_checked rfl
  · split at ht <;> cases ht
    all_goals exact h.of_checked rfl
  · split at ht <;> cases ht
    · exact { h with cpuMondoHead := low_bits_queueAligned v }
    · exact { h with devMondoHead := low_bits_queueAligned v }
    · exact { h with resErrorHead := low_bits_queueAligned v }
    · exact { h with nonresErrorHead := low_bits_queueAligned v }
  · cases ht

theorem invAfter_execStxa (rd rs1 : RegNum) (src : AsiOperand) : InvAfter (execStxa rd rs1 src s) := by
  dsimp only [execStxa]
  split
  · exact invAfter_storeValue h _ _ _
  · exact invAfter_storeValue h _ _ _
  · split
    · exact invAfter_stopAccess h _ _
    · exact invAfter_next (inv_of_writeAsiRegister h ‹_›).advance

/-! ### Floating-point loads and stores -/

theorem invAfter_loadFpSingle (rd : RegNum) (g : Target) : InvAfter (loadFpSingle s rd g) :=
  invAfter_requireFpu h <| invAfter_withLoad h fun _ _ _ _ hu => invAfter_withRead fun _ =>
    invAfter_next (hu.writeS _ _).advance

theorem invAfter_loadFpDouble (rd : RegNum) (g : Target) : InvAfter (loadFpDouble s rd g) :=
  invAfter_withLoad h fun _ _ _ _ hu => invAfter_withRead fun _ => invAfter_next (hu.writeFd _ _).advance

theorem State.Inv.writeFds (d : BitVec 6) (vs : List Word64) : (Machine.writeFds s d vs).Inv := by
  induction vs generalizing s d with
  | nil => exact h
  | cons v vs ih => exact ih (h.writeFd d v) _

theorem invAfter_blockLoad (rd : RegNum) (g : Target) : InvAfter (blockLoad s rd g) :=
  invAfter_ite (fun _ => invAfter_requireFpu h <| invAfter_withLoad h fun _ _ _ _ hu => invAfter_withRead fun _ =>
    invAfter_next (hu.writeFds _ _).advance) fun _ => invAfter_raise h _

theorem invAfter_blockStore (rd : RegNum) (g : Target) : InvAfter (blockStore s rd g) :=
  invAfter_ite (fun _ => invAfter_requireFpu h <| invAfter_withData h fun _ _ => invAfter_finishStore h _)
    fun _ => invAfter_raise h _

theorem invAfter_shortLoad (rd : RegNum) (g : Target) : InvAfter (shortLoad s rd g) :=
  invAfter_requireFpu h <| invAfter_ite
    (fun _ => invAfter_withLoad h fun _ _ _ _ hu => invAfter_withRead fun _ => invAfter_next (hu.writeFd _ _).advance)
    fun _ => invAfter_withLoad h fun _ _ _ _ hu => invAfter_withRead fun _ => invAfter_next (hu.writeFd _ _).advance

theorem invAfter_shortStore (rd : RegNum) (g : Target) : InvAfter (shortStore s rd g) :=
  invAfter_requireFpu h (invAfter_storeValue h _ _ _)

theorem invAfter_storeFsr (acc : Access) (g : Target) (cells : Nat → Bool → List Host.Cell) :
    InvAfter (requireFpu s <| withData s acc g fun ra little =>
      finishStore { s with fsr := clearFtt s.fsr } (cells ra little)) :=
  invAfter_requireFpu h <| invAfter_withData h fun _ _ => invAfter_finishStore (h.setFsr (clearFtt_reserved s.fsr)) _

theorem invAfter_execLdfsr (rs1 : RegNum) (op2 : RegOrImm 13) : InvAfter (execLdfsr rs1 op2 s) :=
  invAfter_requireFpu h <| invAfter_withLoad h fun u _ _ _ hu => invAfter_withRead fun v =>
    invAfter_next (hu.setFsr (loadFsrFields_reserved u.fsr (v.setWidth 64) (by decide))).advance

theorem invAfter_execLdxfsr (rs1 : RegNum) (op2 : RegOrImm 13) : InvAfter (execLdxfsr rs1 op2 s) :=
  invAfter_requireFpu h <| invAfter_withLoad h fun u _ _ _ hu => invAfter_withRead fun v =>
    invAfter_next (hu.setFsr (loadFsrFields_reserved u.fsr v (by decide))).advance

theorem invAfter_execLddfa (rd rs1 : RegNum) (src : AsiOperand) : InvAfter (execLddfa rd rs1 src s) := by
  dsimp only [execLddfa]
  split
  · exact invAfter_blockLoad h _ _
  · exact invAfter_shortLoad h _ _
  · exact invAfter_ite (fun _ => invAfter_requireFpu h (invAfter_loadFpDouble h _ _)) fun _ => invAfter_raise h _
  · exact invAfter_requireFpu h (invAfter_loadFpDouble h _ _)

theorem invAfter_execStdfa (rd rs1 : RegNum) (src : AsiOperand) : InvAfter (execStdfa rd rs1 src s) := by
  dsimp only [execStdfa]
  split
  · exact invAfter_blockStore h _ _
  · exact invAfter_blockStore h _ _
  · exact invAfter_shortStore h _ _
  · exact invAfter_raise h _
  · exact invAfter_requireFpu h (invAfter_storeValue h _ _ _)

/-! ### Register windows and state registers -/

theorem invAfter_execSave (rd rs1 : RegNum) (op2 : RegOrImm 13) : InvAfter (execSave rd rs1 op2 s) :=
  invAfter_ite (fun _ => invAfter_raise h _) fun _ => invAfter_ite (fun _ => invAfter_raise h _) fun _ =>
    invAfter_finishReg (s := saveWindow s) (h.of_checked rfl) _ _

theorem invAfter_execRestore (rd rs1 : RegNum) (op2 : RegOrImm 13) : InvAfter (execRestore rd rs1 op2 s) :=
  invAfter_ite (fun _ => invAfter_raise h _) fun _ =>
    invAfter_finishReg (s := restoreWindow s) (h.of_checked rfl) _ _

omit h in
/-- An instruction that ends in a state alike in all that the invariant speaks of. -/
theorem invAfter_advance {t : State} (h : s.Inv) (e : t.checked = s.checked) : InvAfter (.next (advance t)) :=
  invAfter_next (h.of_checked e).advance

theorem invAfter_execSaved : InvAfter (execSaved s) :=
  invAfter_requirePriv h <| invAfter_ite (fun _ => invAfter_refused _) fun _ =>
    invAfter_ite (fun _ => invAfter_advance h rfl) fun _ => invAfter_advance h rfl

theorem invAfter_execRestored : InvAfter (execRestored s) :=
  invAfter_requirePriv h <| invAfter_ite (fun _ => invAfter_refused _) fun _ =>
    invAfter_ite (fun _ => invAfter_advance h rfl) fun _ => invAfter_advance h rfl

theorem invAfter_execFlushw (i : Bool) : InvAfter (execFlushw i s) :=
  invAfter_ite (fun _ => invAfter_raise h _) fun _ => invAfter_next h.advance

theorem invAfter_readPriv (rd : RegNum) (v : Word64) : InvAfter (readPriv s rd v) :=
  invAfter_requirePriv h (invAfter_finishReg h _ _)

theorem invAfter_readCounter (rd : RegNum) (counter : Word64) (denied : Bool) :
    InvAfter (readCounter s rd counter denied) :=
  invAfter_ite (fun _ => invAfter_raise h _) fun _ => invAfter_finishReg h _ _

theorem invAfter_writePriv {t : State} (ht : t.Inv) : InvAfter (writePriv s t) :=
  invAfter_requirePriv h (invAfter_next ht.advance)

theorem invAfter_readTrapLevel (rd : RegNum) (f : TrapFrame → Word64) : InvAfter (readTrapLevel s rd f) :=
  invAfter_requirePriv h <| invAfter_ite (fun _ => invAfter_raise h _) fun _ => invAfter_finishReg h _ _

theorem State.Inv.currentFrame : (Machine.currentFrame s).tstate &&& ~~~tstateMask = 0 := by
  unfold Machine.currentFrame
  split
  exacts [h.tstate2Reserved, h.tstate1Reserved]

/-- A write of a register of the trap level keeps the reserved bits of TSTATE where they are 0 in the frame it
leaves. -/
theorem invAfter_writeTrapLevel {f : TrapFrame → TrapFrame}
    (hf : ∀ r : TrapFrame, r.tstate &&& ~~~tstateMask = 0 → (f r).tstate &&& ~~~tstateMask = 0) :
    InvAfter (writeTrapLevel s f) :=
  invAfter_requirePriv h <| invAfter_ite (fun _ => invAfter_raise h _) fun _ =>
    invAfter_next (h.setFrame (s.tl.val - 1) (hf _ h.currentFrame)).advance

theorem invAfter_execWrprTpc (rs1 : RegNum) (op2 : RegOrImm 13) : InvAfter (execWrprTpc rs1 op2 s) :=
  invAfter_writeTrapLevel h fun _ hr => hr

theorem invAfter_execWrprTnpc (rs1 : RegNum) (op2 : RegOrImm 13) : InvAfter (execWrprTnpc rs1 op2 s) :=
  invAfter_writeTrapLevel h fun _ hr => hr

theorem invAfter_execWrprTstate (rs1 : RegNum) (op2 : RegOrImm 13) : InvAfter (execWrprTstate rs1 op2 s) :=
  invAfter_writeTrapLevel h fun _ _ => and_and_not _ tstateMask

theorem invAfter_execWrprTt (rs1 : RegNum) (op2 : RegOrImm 13) : InvAfter (execWrprTt rs1 op2 s) :=
  invAfter_writeTrapLevel h fun _ hr => hr

/-! ### Floating-point and VIS instructions -/

theorem invAfter_fpFinish (e : FpFlags) {write : State → State} (hw : ∀ u : State, u.Inv → (write u).Inv) :
    InvAfter (fpFinish s e write) := by
  intro t ht
  obtain rfl | ⟨-, rfl⟩ := fpFinish_eq_next ht
  · exact (hw _ (h.setFsr ((accrue_reserved _ _).trans (withFttCexc_reserved _ _ _)))).advance
  · exact (h.setFsr (withFttCexc_reserved _ _ _)).takeTrap _

theorem invAfter_requireFinished (insn : Config.UnfinishedOp) (operands : List Word64) {k : Outcome} (hk : InvAfter k) :
    InvAfter (requireFinished s insn operands k) := by
  rw [requireFinished_eq]
  exact invAfter_requireFpu h hk

theorem invAfter_moveS (rd : RegNum) (v : Word32) : InvAfter (moveS s rd v) :=
  invAfter_fpFinish h _ fun _ hu => hu.writeS _ _

theorem invAfter_moveD (rd : RegNum) (v : Word64) : InvAfter (moveD s rd v) :=
  invAfter_fpFinish h _ fun _ hu => hu.writeFd _ _

theorem invAfter_condMoveS (test : Bool) (rd rs2 : RegNum) : InvAfter (condMoveS s test rd rs2) :=
  invAfter_fpFinish h _ fun u hu => by
    split
    exacts [hu.writeS _ _, hu]

theorem invAfter_condMoveD (test : Bool) (rd rs2 : RegNum) : InvAfter (condMoveD s test rd rs2) :=
  invAfter_fpFinish h _ fun u hu => by
    split
    exacts [hu.writeFd _ _, hu]

theorem invAfter_finishS (rd : RegNum) (r : Nat × FpFlags) : InvAfter (finishS s rd r) :=
  invAfter_fpFinish h _ fun _ hu => hu.writeS _ _

theorem invAfter_finishD (rd : RegNum) (r : Nat × FpFlags) : InvAfter (finishD s rd r) :=
  invAfter_fpFinish h _ fun _ hu => hu.writeFd _ _

theorem invAfter_finishInt32 (rd : RegNum) (b : FpVal) : InvAfter (finishInt32 s rd b) :=
  invAfter_fpFinish h _ fun _ hu => hu.writeS _ _

theorem invAfter_finishInt64 (rd : RegNum) (b : FpVal) : InvAfter (finishInt64 s rd b) :=
  invAfter_fpFinish h _ fun _ hu => hu.writeFd _ _

theorem invAfter_compare (fcc : FccNum) (signalling : Bool) (a b : FpVal) : InvAfter (compare s fcc signalling a b) :=
  invAfter_fpFinish h _ fun u hu => hu.setFsr (withFcc_reserved u.fsr fcc _)

theorem invAfter_fusedS (insn : Config.UnfinishedOp) (rd rs1 rs2 rs3 : RegNum) (minus negate : Bool) :
    InvAfter (fusedS s insn rd rs1 rs2 rs3 minus negate) :=
  invAfter_ite (fun _ => invAfter_requireFinished h _ _ (invAfter_finishS h _ _)) fun _ => invAfter_raise h _

theorem invAfter_fusedD (insn : Config.UnfinishedOp) (rd rs1 rs2 rs3 : RegNum) (minus negate : Bool) :
    InvAfter (fusedD s insn rd rs1 rs2 rs3 minus negate) :=
  invAfter_ite (fun _ => invAfter_requireFinished h _ _ (invAfter_finishD h _ _)) fun _ => invAfter_raise h _

theorem invAfter_writeVisD (rd : RegNum) (v : Word64) : InvAfter (writeVisD s rd v) :=
  invAfter_requireFpu h (invAfter_next (h.writeFd _ _).advance)

theorem invAfter_writeVisS (rd : RegNum) (v : Word32) : InvAfter (writeVisS s rd v) :=
  invAfter_requireFpu h (invAfter_next (h.writeS _ _).advance)

theorem invAfter_alignAddress (rd : RegNum) (sum : Word64) (align : BitVec 3) :
    InvAfter (alignAddress s rd sum align) :=
  invAfter_requireFpu h (invAfter_finishReg (h.setGsr (withGsrAlign_reserved align h.gsrReserved)) _ _)

theorem invAfter_arrayAddress (rd : RegNum) (coords size : Word64) (shift : Nat) :
    InvAfter (arrayAddress s rd coords size shift) :=
  invAfter_ite (fun _ => invAfter_finishReg h _ _) fun _ => invAfter_finishReg h.drawFree _ _

end

/-! ### The instructions -/

/-- Every instruction, from a state of the invariant, leads to one: by the form its meaning has. -/
theorem invAfter_exec {s : State} (h : s.Inv) (i : Instr) : InvAfter (exec i s) := by
  cases i
  case add | and | or | xor | sub | andn | orn | xnor | addc | mulx | subc | sll | srl | sra | sllx | srlx |
      srax | sethi | popc | rdy | rdccr | rdasi | rdpc | rdfprs | edge8n | edge8ln | edge16n | edge16ln |
      edge32n | edge32ln =>
    exact invAfter_finishReg h _ _
  case umul | smul | umulcc | smulcc => exact invAfter_multiply32 h _ _ _
  case udivx | sdivx => exact invAfter_ite (fun _ => invAfter_raise h _) fun _ => invAfter_finishReg h _ _
  case udiv | sdiv | udivcc | sdivcc => exact invAfter_divide32 h _ _ _ _
  case addcc | andcc | orcc | xorcc | subcc | andncc | orncc | xnorcc | addccc | subccc | taddcc | tsubcc |
      edge8cc | edge8lcc | edge16cc | edge16lcc | edge32cc | edge32lcc =>
    exact invAfter_finishCc h _ _ _
  case taddcctv | tsubcctv =>
    exact invAfter_ite (fun _ => invAfter_raise h _) fun _ => invAfter_finishCc h _ _ _
  case mulscc => exact invAfter_finishCc (h.setY _) _ _ _
  case nop | membar | flush => exact invAfter_next h.advance
  case mova rd cc op2 => exact invAfter_movIcc h 0b1000 rd cc op2
  case movn rd cc op2 => exact invAfter_movIcc h 0b0000 rd cc op2
  case movne | move | movg | movle | movge | movl | movgu | movleu | movcc | movcs | movpos | movneg | movvc |
      movvs =>
    exact invAfter_movIcc h _ _ _ _
  case movfa | movfn | movfu | movfg | movfug | movfl | movful | movflg | movfne | movfe | movfue | movfge |
      movfuge | movfle | movfule | movfo =>
    exact invAfter_movFcc h _ _ _ _
  case movrz | movrlez | movrlz | movrnz | movrgz | movrgez => exact invAfter_movReg h _ _ _ _
  case ba => exact invAfter_branchIcc h 0b1000 _ _
  case bn => exact invAfter_branchIcc h 0b0000 _ _
  case bne | be | bg | ble | bge | bl | bgu | bleu | bcc | bcs | bpos | bneg | bvc | bvs =>
    exact invAfter_branchIcc h _ _ _
  case bpa => exact invAfter_branchPcc h 0b1000 _ _ _
  case bpn => exact invAfter_branchPcc h 0b0000 _ _ _
  case bpne | bpe | bpg | bple | bpge | bpl | bpgu | bpleu | bpcc | bpcs | bppos | bpneg | bpvc | bpvs =>
    exact invAfter_branchPcc h _ _ _ _
  case brz | brlez | brlz | brnz | brgz | brgez => exact invAfter_branchReg h _ _ _ _
  case fba | fbn | fbu | fbg | fbug | fbl | fbul | fblg | fbne | fbe | fbue | fbge | fbuge | fble | fbule |
      fbo =>
    exact invAfter_branchFcc h _ _ _
  case fbpa | fbpn | fbpu | fbpg | fbpug | fbpl | fbpul | fbplg | fbpne | fbpe | fbpue | fbpge | fbpuge |
      fbple | fbpule | fbpo =>
    exact invAfter_branchPfcc h _ _ _ _
  case call => exact invAfter_execCall h _
  case jmpl => exact invAfter_execJmpl h _ _ _
  case return_ => exact invAfter_execReturn h _ _
  case ta rs1 cc num => exact invAfter_trapIcc h 0b1000 rs1 cc num
  case tn rs1 cc num => exact invAfter_trapIcc h 0b0000 rs1 cc num
  case tne | te | tg | tle | tge | tl | tgu | tleu | tcc | tcs | tpos | tneg | tvc | tvs =>
    exact invAfter_trapIcc h _ _ _ _
  case done => exact invAfter_execDone h
  case retry => exact invAfter_execRetry h
  case illtrap | ldqf | stqf | ldqfa | stqfa | fmovq | fnegq | fabsq | fsqrtq | fqtox | fxtoq | fqtos | fqtod
      | fitoq | fstoq | fdtoq | fqtoi | faddq | fsubq | fmulq | fdivq | fdmulq | fcmpq | fcmpeq | fmovqicc |
      fmovqxcc | fmovqfcc | fmovrqz | fmovrqlez | fmovrqlz | fmovrqnz | fmovrqgz | fmovrqgez =>
    exact invAfter_raise h .illegalInstruction
  case lduw | ldsw | lduwa | ldswa => exact invAfter_loadWord h _ _ _
  case ldub | ldsb | lduba | ldsba => exact invAfter_loadByte h _ _ _
  case lduh | ldsh | lduha | ldsha => exact invAfter_loadHalf h _ _ _
  case ldtw | ldtwa => exact invAfter_ite (fun _ => invAfter_raise h _) fun _ => invAfter_loadTwinWord h _ _
  case stw | stb | sth | stx | stwa | stba | stha => exact invAfter_storeValue h _ _ _
  case sttw | sttwa => exact invAfter_ite (fun _ => invAfter_raise h _) fun _ => invAfter_storeTwinWord h _ _
  case ldx => exact invAfter_loadDoubleword h _ _ _
  case ldstub | ldstuba => exact invAfter_loadStoreByte h _ _
  case swap | swapa => exact invAfter_swapWord h _ _
  case ldxa => exact invAfter_execLdxa h _ _ _
  case stxa => exact invAfter_execStxa h _ _ _
  case ldtxa => exact invAfter_execLdtxa h _ _ _ _
  case casa => exact invAfter_execCasa h _ _ _ _
  case casxa => exact invAfter_execCasxa h _ _ _ _
  case prefetch | prefetcha =>
    exact invAfter_ite (fun _ => invAfter_next h.advance) fun _ => invAfter_raise h _
  case ldf | ldfa => exact invAfter_loadFpSingle h _ _
  case lddf => exact invAfter_requireFpu h (invAfter_loadFpDouble h _ _)
  case stf | stfa | stdf => exact invAfter_requireFpu h (invAfter_storeValue h _ _ _)
  case ldfsr => exact invAfter_execLdfsr h _ _
  case ldxfsr => exact invAfter_execLdxfsr h _ _
  case stfsr | stxfsr => exact invAfter_storeFsr h _ _ _
  case stpartialf => exact invAfter_requireFpu h (invAfter_withData h fun _ _ => invAfter_finishStore h _)
  case lddfa => exact invAfter_execLddfa h _ _ _
  case stdfa => exact invAfter_execStdfa h _ _ _
  case ldblockf => exact invAfter_blockLoad h _ _
  case ldshortf => exact invAfter_shortLoad h _ _
  case stblockf => exact invAfter_blockStore h _ _
  case stshortf => exact invAfter_shortStore h _ _
  case save => exact invAfter_execSave h _ _ _
  case restore => exact invAfter_execRestore h _ _ _
  case saved => exact invAfter_execSaved h
  case restored => exact invAfter_execRestored h
  case allclean | otherw | normalw | invalw | wrsoftintSet | wrsoftintClr | wrsoftint | wrtickCmpr |
      wrstickCmpr | wrprTba | wrprTl | wrprPil | wrprCwp | wrprCansave | wrprCanrestore | wrprCleanwin |
      wrprOtherwin | wrprWstate | wrprGl =>
    exact invAfter_writePriv h (h.of_checked rfl)
  case wrprPstate => exact invAfter_writePriv h (h.setPstate (and_and_not _ pstateMask))
  case flushw i => exact invAfter_execFlushw h i
  case rdtick | rdstick => exact invAfter_readCounter h _ _ _
  case rdgsr | fcmple16 | fcmpne16 | fcmple32 | fcmpne32 | fcmpgt16 | fcmpeq16 | fcmpgt32 | fcmpeq32 =>
    exact invAfter_requireFpu h (invAfter_finishReg h _ _)
  case bmask =>
    exact invAfter_requireFpu h (invAfter_finishReg (h.setGsr (withGsrMask_reserved _ h.gsrReserved)) _ _)
  case rdsoftint | rdtickCmpr | rdstickCmpr | rdprTick | rdprTba | rdprPstate | rdprTl | rdprPil | rdprCwp |
      rdprCansave | rdprCanrestore | rdprCleanwin | rdprOtherwin | rdprWstate | rdprGl =>
    exact invAfter_readPriv h _ _
  case wry | wrccr | wrasi | wrfprs => exact invAfter_advance h rfl
  case wrgsr => exact invAfter_requireFpu h (invAfter_next (h.setGsr (and_and_not _ gsrMask)).advance)
  case rdprTpc => exact invAfter_readTrapLevel h _ fun f => f.tpc ++ 0#2
  case rdprTnpc => exact invAfter_readTrapLevel h _ fun f => f.tnpc ++ 0#2
  case rdprTstate => exact invAfter_readTrapLevel h _ _
  case rdprTt => exact invAfter_readTrapLevel h _ (·.tt.setWidth 64)
  case wrprTpc => exact invAfter_execWrprTpc h _ _
  case wrprTnpc => exact invAfter_execWrprTnpc h _ _
  case wrprTstate => exact invAfter_execWrprTstate h _ _
  case wrprTt => exact invAfter_execWrprTt h _ _
  case fmovs | fnegs | fabss => exact invAfter_requireFpu h (invAfter_moveS h _ _)
  case fmovd | fnegd | fabsd => exact invAfter_requireFpu h (invAfter_moveD h _ _)
  case fsqrts | fdtos | fadds | fsubs | fmuls | fdivs =>
    exact invAfter_requireFinished h _ _ (invAfter_finishS h _ _)
  case fsqrtd | fstod | faddd | fsubd | fmuld | fdivd | fsmuld =>
    exact invAfter_requireFinished h _ _ (invAfter_finishD h _ _)
  case fstox | fdtox => exact invAfter_requireFinished h _ _ (invAfter_finishInt64 h _ _)
  case fxtos | fitos => exact invAfter_requireFpu h (invAfter_finishS h _ _)
  case fxtod | fitod => exact invAfter_requireFpu h (invAfter_finishD h _ _)
  case fstoi | fdtoi => exact invAfter_requireFinished h _ _ (invAfter_finishInt32 h _ _)
  case fcmps | fcmpd | fcmpes | fcmped => exact invAfter_requireFpu h (invAfter_compare h _ _ _ _)
  case fmovsicc | fmovsxcc | fmovsfcc | fmovrsz | fmovrslez | fmovrslz | fmovrsnz | fmovrsgz | fmovrsgez =>
    exact invAfter_requireFpu h (invAfter_condMoveS h _ _ _)
  case fmovdicc | fmovdxcc | fmovdfcc | fmovrdz | fmovrdlez | fmovrdlz | fmovrdnz | fmovrdgz | fmovrdgez =>
    exact invAfter_requireFpu h (invAfter_condMoveD h _ _ _)
  case fmadds | fmsubs | fnmsubs | fnmadds => exact invAfter_fusedS h _ _ _ _ _ _ _
  case fmaddd | fmsubd | fnmsubd | fnmaddd => exact invAfter_fusedD h _ _ _ _ _ _ _
  case array8 | array16 | array32 => exact invAfter_arrayAddress h _ _ _ _
  case alignaddress | alignaddressLittle => exact invAfter_alignAddress h _ _ _
  case fmul8x16 | fmul8x16au | fmul8x16al | fmul8sux16 | fmul8ulx16 | fmuld8sux16 | fmuld8ulx16 | fpack32 |
      pdist | faligndata | fpmerge | bshuffle | fexpand | fpadd16 | fpadd32 | fpsub16 | fpsub32 | fzerod |
      fnord | fandnot2d | fnot2d | fandnot1d | fnot1d | fxord | fnandd | fandd | fxnord | fsrc1d | fornot2d |
      fsrc2d | fornot1d | ford | foned =>
    exact invAfter_writeVisD h _ _
  case fpack16 | fpackfix | fpadd16s | fpadd32s | fpsub16s | fpsub32s | fzeros | fnors | fandnot2s | fnot2s |
      fandnot1s | fnot1s | fxors | fnands | fands | fxnors | fsrc1s | fornot2s | fsrc2s | fornot1s | fors |
      fones =>
    exact invAfter_writeVisS h _ _
  case siam =>
    exact invAfter_requireFpu h (invAfter_next (h.setGsr (withGsrRounding_reserved _ h.gsrReserved)).advance)

/-! ### A step (60_exceptions.md R1585) -/

theorem invAfter_runWord {s : State} (h : s.Inv) (w : Word32) : InvAfter (runWord s w) := by
  intro t ht
  unfold runWord at ht
  split at ht
  · exact invAfter_raise h .illegalInstruction t ht
  · obtain ht | ⟨d, -, rfl⟩ := commit_eq_next ht
    exacts [invAfter_exec h _ t ht, h.takeTrap _]

/-- Settles O57: the environment's move, the fetch, the instruction and the traps each keep the invariant. -/
theorem stepKeepsInvariant : Obligations.StepKeepsInvariant := by
  intro s t h ht
  have he := h.advanceEnvironment
  unfold step at ht
  split at ht
  · cases ht
  · obtain ⟨ra, w, -, -, ht⟩ | ⟨e, rfl⟩ := withFetch_eq_next ht
    exacts [invAfter_runWord (he.afterRead ra 4) w t ht, he.takeTrap e]

end Sys2Proof.Machine

/-! SUPPORT. The ASI map, translation and the page's checks as 20_memory.md states them. -/

namespace Sys2Proof.Machine

open Sys2Proof.Claims

/-! ### The ASI map (20_memory.md R213 to R216), read off its 256 rows -/

theorem asiInfo_translating_iff (asi : Asi) :
    (asiInfo asi).kind = .translating
      ↔ asi.toNat ∈ contextAsis .primary ∨ asi.toNat ∈ contextAsis .secondary ∨ asi.toNat ∈ contextAsis .nucleus := by
  revert asi
  decide +kernel

theorem asiInfo_ctx {asi : Asi} {ctx : AsiContext} (h : asi.toNat ∈ contextAsis ctx) : (asiInfo asi).ctx = ctx := by
  revert asi
  cases ctx <;> decide +kernel

theorem asiInfo_real_iff (asi : Asi) : (asiInfo asi).kind = .real ↔ asi.toNat ∈ realAsis := by
  revert asi
  decide +kernel

theorem asiInfo_little_iff (asi : Asi) : (asiInfo asi).little = true ↔ asi.toNat ∈ littleAsis := by
  revert asi
  decide +kernel

theorem asiInfo_asIfUser_iff (asi : Asi) : (asiInfo asi).asIfUser = true ↔ asi.toNat ∈ asIfUserAsis := by
  revert asi
  decide +kernel

theorem asiClass_iff (asi : Asi) : ∀ row ∈ classTable, asiClass asi = row.1 ↔ asi.toNat ∈ row.2 := by
  revert asi
  decide +kernel

theorem isNoFault_iff (asi : Asi) : isNoFault asi = true ↔ asi ∈ [0x82#8, 0x83#8, 0x8A#8, 0x8B#8] := by
  revert asi
  decide +kernel

theorem isSpecial_iff (c : AsiClass) : c.isSpecial = true ↔ c ∈ [.twinx, .block, .commit, .pst, .short] := by
  cases c <;> decide

/-! ### Translation by installed entries (20_memory.md R280 to R285) -/

theorem TlbEntry.sz_eq (e : TlbEntry) : e.sz = e.data.toNat % 16 := by
  simp [TlbEntry.sz]

theorem TlbEntry.hits_iff (e : TlbEntry) (ids : List (BitVec 16)) (va : Word64) :
    e.hits ids va = true
      ↔ e.data.getLsbD 63 = true ∧ e.contextId ∈ ids ∧ va.toNat / 2 ^ e.shift = e.tagVa.toNat / 2 ^ e.shift := by
  simp only [TlbEntry.hits, Bool.and_eq_true, List.contains_iff_mem, beq_iff_eq, ← BitVec.toNat_inj,
    BitVec.toNat_ushiftRight, Nat.shiftRight_eq_div_pow, and_assoc]
  rw [eq_comm (a := e.tagVa.toNat / _)]

theorem TlbEntry.realAddress_eq (e : TlbEntry) (va : Word64) :
    e.realAddress va = e.data.toNat % 2 ^ 56 / 2 ^ e.shift * 2 ^ e.shift + va.toNat % 2 ^ e.shift := by
  simp [TlbEntry.realAddress]

/-- A page of a supported size lies below `2^56`, as its first byte does. -/
theorem TlbEntry.realAddress_lt {e : TlbEntry} (va : Word64) (h : e.sz ≤ 7) : e.realAddress va < 2 ^ 56 := by
  have hs : e.shift ≤ 56 := by
    rw [TlbEntry.shift]
    omega
  have hpow : 2 ^ 56 = 2 ^ (56 - e.shift) * 2 ^ e.shift := by rw [← Nat.pow_add, Nat.sub_add_cancel hs]
  have hpage : e.data.toNat % 2 ^ 56 / 2 ^ e.shift < 2 ^ (56 - e.shift) :=
    Nat.div_lt_of_lt_mul (by rw [Nat.mul_comm, ← hpow]; exact Nat.mod_lt _ (by decide))
  have hoffset : va.toNat % 2 ^ e.shift < 2 ^ e.shift := Nat.mod_lt _ (Nat.two_pow_pos _)
  rw [e.realAddress_eq]
  calc e.data.toNat % 2 ^ 56 / 2 ^ e.shift * 2 ^ e.shift + va.toNat % 2 ^ e.shift
      < (e.data.toNat % 2 ^ 56 / 2 ^ e.shift + 1) * 2 ^ e.shift := by
        rw [Nat.add_mul, Nat.one_mul]
        exact Nat.add_lt_add_left hoffset _
    _ ≤ 2 ^ (56 - e.shift) * 2 ^ e.shift := Nat.mul_le_mul_right _ hpage
    _ = 2 ^ 56 := hpow.symm

theorem realAddressOk_iff {ra : Nat} : realAddressOk ra = true ↔ ra < 2 ^ 56 := decide_eq_true_iff

theorem translate_of_lookup_error {s : State} {ctx : AsiContext} {va : Word64} {ev : MmuEvent}
    (h : lookup s ctx va = .error ev) : translate s ctx va = .error ev := by
  rw [translate_eq, h]

theorem translate_of_lookup_ok {s : State} {ctx : AsiContext} {va : Word64} {tr : Translation}
    (h : lookup s ctx va = .ok tr) (hr : tr.ra < 2 ^ 56) : translate s ctx va = .ok tr := by
  rw [translate_eq, h]
  exact if_pos (realAddressOk_iff.2 hr)

theorem translate_identity {s : State} (h : s.tlb = .identity) (ctx : AsiContext) (va : Word64) :
    translate s ctx va
      = if va.toNat < 2 ^ 56 then .ok ⟨va.toNat, ⟨false, false, false, true, false, true, true⟩⟩
        else .error .realAddressRange := by
  have hl : lookup s ctx va = .ok ⟨va.toNat, .identity⟩ := by rw [lookup, h]
  split
  case isTrue hva => exact translate_of_lookup_ok hl hva
  case isFalse hva =>
    rw [translate_eq, hl]
    exact if_neg (mt realAddressOk_iff.1 hva)

section
variable {s : State} {list : List TlbEntry} (hs : s.tlb = .entries list) {ctx : AsiContext} {va : Word64}
include hs

theorem translate_miss (hmiss : ∀ e ∈ list, e.hits (contextIds s ctx) va = false) :
    translate s ctx va = .error .translationMiss := by
  refine translate_of_lookup_error ?_
  rw [lookup, hs]
  simp only
  rw [List.filter_eq_nil_iff.2 fun e he => by simp [hmiss e he]]

/-- Where one entry of the list hits, and none before or after it, the lookup turns on that entry's page size. -/
theorem lookup_one_hit {e : TlbEntry} {l₁ l₂ : List TlbEntry} (hl : list = l₁ ++ e :: l₂)
    (he : e.hits (contextIds s ctx) va = true) (ho : ∀ f ∈ l₁ ++ l₂, f.hits (contextIds s ctx) va = false) :
    lookup s ctx va = if e.sz ≤ 7 then .ok ⟨e.realAddress va, e.attr⟩ else .error .reservedPageSize := by
  have hsel : list.filter (fun f => f.hits (contextIds s ctx) va) = [e] := by
    have h1 := List.filter_eq_nil_iff.2 fun f hf => Bool.not_eq_true _ ▸ ho f (List.mem_append_left _ hf)
    have h2 := List.filter_eq_nil_iff.2 fun f hf => Bool.not_eq_true _ ▸ ho f (List.mem_append_right _ hf)
    rw [hl, List.filter_append, List.filter_cons, if_pos he, h1, h2, List.nil_append]
  rw [lookup, hs]
  simp only [hsel, Config.pageSizeSupported, decide_eq_true_eq]

theorem translate_multipleHit {e f : TlbEntry} {l₁ l₂ l₃ : List TlbEntry} (hl : list = l₁ ++ e :: l₂ ++ f :: l₃)
    (he : e.hits (contextIds s ctx) va = true) (hf : f.hits (contextIds s ctx) va = true) :
    translate s ctx va = .error .multipleHit := by
  have hlen : 2 ≤ (list.filter (·.hits (contextIds s ctx) va)).length := by
    rw [hl, List.filter_append, List.filter_append, List.filter_cons, List.filter_cons, if_pos he, if_pos hf]
    simp only [List.length_append, List.length_cons]
    omega
  refine translate_of_lookup_error ?_
  rw [lookup, hs]
  simp only
  split
  case h_1 h => simp [h] at hlen
  case h_2 h => simp [h] at hlen
  case h_3 => rfl

end

/-! ### The page's checks (20_memory.md R286) -/

theorem checkData_eq (s : State) (attr : PageAttr) (asi : Asi) (writes cacheableOnly : Bool) :
    checkData s attr asi writes cacheableOnly
      = if attr.p = true ∧ (s.priv = false ∨ (asiInfo asi).asIfUser = true) then
          some (.exception .daePrivilegeViolation)
        else if attr.cp = false ∧ cacheableOnly = true then some (.exception .daeNcPage)
        else if attr.nfo = true ∧ asi ∉ [0x82#8, 0x83#8, 0x8A#8, 0x8B#8] then some (.exception .daeNfoPage)
        else if attr.e = true ∧ asi ∈ [0x82#8, 0x83#8, 0x8A#8, 0x8B#8] then some (.exception .daeSideEffectPage)
        else if attr.w = false ∧ writes = true then some (.mmu .writeProtection) else none := by
  simp only [checkData, ← isNoFault_iff, Bool.and_eq_true, Bool.or_eq_true, Bool.not_eq_true, Bool.not_eq_true']

/-! ### Real ASIs (20_memory.md R217) -/

theorem realPlace_of_out_of_range (acc : Access) {g : Target} (h : 2 ^ 56 ≤ g.ea.toNat) :
    realPlace acc g = .error (.mmu .realAddressRange) :=
  if_pos (by rw [Bool.not_eq_true', ← Bool.not_eq_true, realAddressOk_iff]; exact Nat.not_lt.2 h)

theorem asiAllowed_iff {s : State} {asi : Asi} : asiAllowed s asi = true ↔ ¬Barred s asi := asiAllowed_eq_true_iff

/-- Settles O30: the map by its rows, a translation by the entries that hit, the checks in the order of the
definition. -/
theorem translationRelation : Obligations.TranslationRelation := by
  refine ⟨fun asi => ⟨?kind, fun _ => asiInfo_ctx, asiInfo_real_iff asi, asiInfo_little_iff asi,
    asiInfo_asIfUser_iff asi,
    asiClass_iff asi, isSpecial_iff _⟩, fun e ids va => ?entry, fun s list ctx va hs => ?entries,
    fun s ctx va h => translate_identity h ctx va, fun s acc g ha hb hu hk hr => ?real, fun e => rfl,
    fun s attr asi writes cacheableOnly => ?checks⟩
  case kind =>
    rw [asiInfo_translating_iff]
    exact ⟨fun h => h.elim (⟨_, ·⟩) fun h => h.elim (⟨_, ·⟩) (⟨_, ·⟩), fun ⟨ctx, h⟩ => by cases ctx <;> simp [h]⟩
  case entry =>
    rw [← e.sz_eq]
    exact ⟨e.hits_iff ids va, e.realAddress_eq va⟩
  case entries =>
    refine ⟨translate_miss hs, fun e l₁ l₂ hl he ho => ?_,
      fun e f l₁ l₂ l₃ hl he hf => translate_multipleHit hs hl he hf⟩
    have h1 := lookup_one_hit hs hl he ho
    rw [← e.sz_eq]
    refine ⟨fun hz => ?_, fun hz => ?_⟩
    · rw [if_pos hz] at h1
      exact translate_of_lookup_ok h1 (e.realAddress_lt va hz)
    · rw [if_neg (Nat.not_le.2 hz)] at h1
      exact translate_of_lookup_error h1
  case real =>
    rw [dataAccess_of_admitted ha fun _ => ⟨asiAllowed_iff.2 hb, hu⟩, hk]
    exact realPlace_of_out_of_range acc hr
  case checks =>
    intro user noFault r
    have hr : r = _ := checkData_eq s attr asi writes cacheableOnly
    refine ⟨fun h => hr.trans (if_pos h), fun h1 => ?_⟩
    rw [if_neg h1] at hr
    refine ⟨fun h => hr.trans (if_pos h), fun h2 => ?_⟩
    rw [if_neg h2] at hr
    refine ⟨fun h => hr.trans (if_pos h), fun h => ?_, fun h3 h4 => ?_⟩
    · rw [if_neg fun hn => hn.2 h.2, if_pos h] at hr
      exact hr
    · rw [if_neg h3, if_neg h4] at hr
      exact hr

end Sys2Proof.Machine

/-! SUPPORT. The registers in ASIs 0x20, 0x21 and 0x25, read by LDXA and written by STXA (20_memory.md R225 to R227). -/

namespace Sys2Proof.Machine

open Sys2Proof.Claims

/-! ### The end of an instruction that writes an R register -/

theorem writePhys_frame (s : State) (p : PhysReg) (v : Word64) :
    { writePhys s p v with globals := s.globals, windows := s.windows } = s := by
  cases p <;> rfl

theorem writesR_advance (s : State) (rd : RegNum) (v : Word64) : WritesR s (advance (writeReg s rd v)) rd v where
  destination := by
    rw [readReg_advance, readReg_writeReg]
    by_cases h : rd = 0#5 <;> simp [h]
  others p hp := by rw [readPhys_advance, readPhys_writeReg_of_ne s rd v hp]
  frame := congrArg (fun t : State => { t with pc := s.pc, npc := s.npc }) (writePhys_frame s (phys s.gl s.cwp rd) v)

/-- An instruction that comes down to writing `R[rd]` in `s` gives that register. -/
theorem givesR_of_finishReg {i : Instr} {s : State} {rd : RegNum} {v : Word64} (h : exec i s = finishReg s rd v) :
    GivesR i s s rd v :=
  ⟨_, h, writesR_advance s rd v, by simp, by simp⟩

/-! ### Access exceptions that leave -/

theorem faultAddress_eq_sentVa (s : State) (g : Target) : faultAddress s g = sentVa s g := faultAddress_eq s g

/-- An access exception of column H leaves with the address and the ASI of its access (60_exceptions.md
R1570, R1610). -/
theorem leavesAt_of_exception {i : Instr} {s : State} {g : Target} {e : Exception}
    (h : exec i s = stopAccess s g (.exception e)) (he : e.toPrivileged = false) : LeavesAt i s e.tt g := by
  rw [LeavesAt, LeavesAs, h, stopAccess, raiseAt_eq_fault (.inl he), faultAddress_eq_sentVa]

/-! ### LDXA and STXA at a register ASI -/

theorem asiInfo_kind_of_reg {asi : Asi} (h : asiClass asi = .reg) : (asiInfo asi).kind = .nontranslating := by
  revert asi
  decide +kernel

/-- An aligned access of an instruction that may use register ASIs goes to a register. -/
theorem dataAccess_of_reg {s : State} {acc : Access} {g : Target} (hc : asiClass g.asi = .reg) (hb : ¬Barred s g.asi)
    (ha : acc.align.check g.ea = none) (hu : acc.use.valid .reg = true) : dataAccess s acc g = .ok .register := by
  rw [dataAccess_of_admitted ha fun _ => ⟨asiAllowed_iff.2 hb, hc ▸ hu⟩, asiInfo_kind_of_reg hc]

section
variable {s : State} {rd rs1 : RegNum} {src : AsiOperand} (hc : asiClass (explicitAsi s src) = .reg)
  (hb : ¬Barred s (explicitAsi s src)) (ha : (alternateAddress s rs1 src).toNat % 8 = 0)
include hc hb ha

theorem exec_ldxa_of_reg : exec (.ldxa rd rs1 src) s =
    match readAsiRegister s (explicitAsi s src) (alternateAddress s rs1 src) with
    | none => stopAccess s (alternateTarget s rs1 src) (.exception .daeInvalidAsi)
    | some v => finishReg s rd v := by
  have h : dataAccess s .loadExtended (alternateTarget s rs1 src) = .ok .register :=
    dataAccess_of_reg hc hb (if_pos ha) rfl
  show execLdxa rd rs1 src s = _
  simp only [execLdxa, h]
  rfl

theorem exec_stxa_of_reg : exec (.stxa rd rs1 src) s =
    match writeAsiRegister s (explicitAsi s src) (alternateAddress s rs1 src) (readReg s rd) with
    | none => stopAccess s (alternateTarget s rs1 src) (.exception .daeInvalidAsi)
    | some t => .next (advance t) := by
  have h : dataAccess s .storeExtended (alternateTarget s rs1 src) = .ok .register :=
    dataAccess_of_reg hc hb (if_pos ha) rfl
  show execStxa rd rs1 src s = _
  simp only [execStxa, h]
  rfl

theorem givesR_ldxa_of_reg {v : Word64}
    (hv : readAsiRegister s (explicitAsi s src) (alternateAddress s rs1 src) = some v) :
    GivesR (.ldxa rd rs1 src) s s rd v :=
  givesR_of_finishReg (by rw [exec_ldxa_of_reg hc hb ha, hv])

theorem exec_stxa_eq_next {t : State}
    (ht : writeAsiRegister s (explicitAsi s src) (alternateAddress s rs1 src) (readReg s rd) = some t) :
    exec (.stxa rd rs1 src) s = .next (advance t) := by
  rw [exec_stxa_of_reg hc hb ha, ht]

theorem leavesAt_ldxa_of_reg (hn : readAsiRegister s (explicitAsi s src) (alternateAddress s rs1 src) = none) :
    LeavesAt (.ldxa rd rs1 src) s 0x014 (alternateTarget s rs1 src) :=
  leavesAt_of_exception (e := .daeInvalidAsi) (by rw [exec_ldxa_of_reg hc hb ha, hn]) rfl

theorem leavesAt_stxa_of_reg
    (hn : writeAsiRegister s (explicitAsi s src) (alternateAddress s rs1 src) (readReg s rd) = none) :
    LeavesAt (.stxa rd rs1 src) s 0x014 (alternateTarget s rs1 src) :=
  leavesAt_of_exception (e := .daeInvalidAsi) (by rw [exec_stxa_of_reg hc hb ha, hn]) rfl

end

/-! ### The registers themselves -/

theorem scratchpadIndex_of_mul (k : Fin 8) : scratchpadIndex (BitVec.ofNat 64 (8 * k.val)) = some k := by
  revert k
  decide

theorem readAsiRegister_scratchpad (s : State) (k : Fin 8) :
    readAsiRegister s 0x20#8 (BitVec.ofNat 64 (8 * k.val)) = some s.scratchpad[k] :=
  congrArg (Option.map fun i : Fin 8 => s.scratchpad[i]) (scratchpadIndex_of_mul k)

theorem writeAsiRegister_scratchpad (s : State) (k : Fin 8) (v : Word64) :
    writeAsiRegister s 0x20#8 (BitVec.ofNat 64 (8 * k.val)) v
      = some { s with scratchpad := s.scratchpad.set k.val v k.isLt } := by
  show Option.map _ (scratchpadIndex _) = _
  rw [scratchpadIndex_of_mul, Option.map_some]

theorem contextBitsOf_eq (v : Word64) : contextBitsOf v = BitVec.ofNat 16 v.toNat := by
  apply BitVec.eq_of_toNat_eq
  simp [contextBitsOf, Config.contextBits]

theorem queueAligned_eq (v : Word64) : queueAligned v = BitVec.ofNat 64 (v.toNat / 64 * 64) := by
  apply BitVec.eq_of_toNat_eq
  rw [queueAligned, BitVec.toNat_append, ← Nat.shiftLeft_add_eq_or_of_lt (BitVec.isLt _), Nat.shiftLeft_eq]
  simp
  omega

theorem readAsiRegister_context (s : State) : ∀ row ∈ contextTable,
    readAsiRegister s 0x21#8 row.1 = some (BitVec.ofNat 64 (row.2.1 s).toNat) := by
  simp only [contextTable, List.forall_mem_cons, BitVec.ofNat_toNat]
  exact ⟨rfl, rfl, rfl, rfl, List.forall_mem_nil _⟩

theorem writeAsiRegister_context (s : State) (v : Word64) : ∀ row ∈ contextTable,
    writeAsiRegister s 0x21#8 row.1 v = some (row.2.2 s (BitVec.ofNat 16 v.toNat)) := by
  simp only [contextTable, List.forall_mem_cons, ← contextBitsOf_eq]
  exact ⟨rfl, rfl, rfl, rfl, List.forall_mem_nil _⟩

theorem readAsiRegister_queue (s : State) : ∀ row ∈ queueTable,
    readAsiRegister s 0x25#8 row.1 = some (row.2.1 s) ∧ readAsiRegister s 0x25#8 (row.1 + 8) = some (row.2.2.1 s) := by
  simp only [queueTable, List.forall_mem_cons]
  exact ⟨⟨rfl, rfl⟩, ⟨rfl, rfl⟩, ⟨rfl, rfl⟩, ⟨rfl, rfl⟩, List.forall_mem_nil _⟩

theorem writeAsiRegister_queue (s : State) (v : Word64) : ∀ row ∈ queueTable,
    writeAsiRegister s 0x25#8 row.1 v = some (row.2.2.2 s (BitVec.ofNat 64 (v.toNat / 64 * 64)))
      ∧ writeAsiRegister s 0x25#8 (row.1 + 8) v = none := by
  simp only [queueTable, List.forall_mem_cons, ← queueAligned_eq]
  exact ⟨⟨rfl, rfl⟩, ⟨rfl, rfl⟩, ⟨rfl, rfl⟩, ⟨rfl, rfl⟩, List.forall_mem_nil _⟩

/-- Every address that names a register is a multiple of 8. -/
theorem contextTable_aligned : ∀ row ∈ contextTable, row.1.toNat % 8 = 0 := by
  simp [contextTable]

theorem queueTable_aligned : ∀ row ∈ queueTable, row.1.toNat % 8 = 0 ∧ (row.1 + 8).toNat % 8 = 0 := by
  simp [queueTable]

theorem npc_of_context (s : State) (w : BitVec 16) : ∀ row ∈ contextTable, (row.2.2 s w).npc = s.npc := by
  simp [contextTable]

theorem npc_of_queue (s : State) (w : Word64) : ∀ row ∈ queueTable, (row.2.2.2 s w).npc = s.npc := by
  simp [queueTable]

/-- The ASIs that privileged mode may not use are those from 0x30 to 0x7F (20_memory.md R212). -/
theorem not_barred_of_priv {s : State} {asi : Asi} (hp : s.priv = true) (h : asi.toNat < 0x30) : ¬Barred s asi := by
  rintro (⟨hn, -⟩ | ⟨-, hl, -⟩)
  · exact absurd (hp.symm.trans hn) (by decide)
  · exact absurd h (Nat.not_lt.2 hl)

/-- Settles O27: in privileged mode the access goes to a register, which is the one the tables name. -/
theorem asiRegisters : Obligations.AsiRegisters := by
  intro s rd rs1 src hp ea v
  refine ⟨fun hx k hk => ?scratchpad, fun hx row hrow hea => ?context, fun hx => ?queue⟩
  all_goals
    have hc : asiClass (explicitAsi s src) = .reg := by rw [hx]; rfl
    have hb : ¬Barred s (explicitAsi s src) := not_barred_of_priv hp (by rw [hx]; decide)
  case scratchpad =>
    have ha : ea.toNat % 8 = 0 := by rw [hk, BitVec.toNat_ofNat]; omega
    have hr := readAsiRegister_scratchpad s k
    have hw := writeAsiRegister_scratchpad s k v
    rw [← hk, ← hx] at hr hw
    exact ⟨givesR_ldxa_of_reg hc hb ha hr, exec_stxa_eq_next hc hb ha hw⟩
  case context =>
    have ha : ea.toNat % 8 = 0 := hea ▸ contextTable_aligned row hrow
    have hr := readAsiRegister_context s row hrow
    have hw := writeAsiRegister_context s v row hrow
    rw [← hea, ← hx] at hr hw
    refine ⟨givesR_ldxa_of_reg hc hb ha hr, ?_⟩
    rw [exec_stxa_eq_next hc hb ha hw, advance, npc_of_context s _ row hrow]
  case queue =>
    intro row hrow
    obtain ⟨hr, hr8⟩ := readAsiRegister_queue s row hrow
    obtain ⟨hw, hw8⟩ := writeAsiRegister_queue s v row hrow
    obtain ⟨ha, ha8⟩ := queueTable_aligned row hrow
    refine ⟨fun hea => ?head, fun hea => ?tail⟩
    case head =>
      rw [← hea, ← hx] at hr hw
      rw [← hea] at ha
      refine ⟨givesR_ldxa_of_reg hc hb ha hr, ?_⟩
      rw [exec_stxa_eq_next hc hb ha hw, advance, npc_of_queue s _ row hrow]
    case tail =>
      rw [← hea, ← hx] at hr8 hw8
      rw [← hea] at ha8
      refine ⟨givesR_ldxa_of_reg hc hb ha8 hr8, ?_⟩
      have hl := leavesAt_stxa_of_reg hc hb ha8 hw8
      rwa [alternateTarget, hx] at hl

end Sys2Proof.Machine

/-! SUPPORT. Where an admitted access goes, or what stops it (20_memory.md R204 to R217, R236, R245,
R252, R285, R286, R296, R300). -/

namespace Sys2Proof.Machine

open Sys2Proof.Claims

/-! ### Addresses and ASIs (20_memory.md R204, R210, R211) -/

theorem operand2_eq_second {n : Nat} (s : State) (o : RegOrImm n) : operand2 s o = second s o := by
  cases o <;> rfl

theorem implicitTarget_eq (s : State) (rs1 : RegNum) (op2 : RegOrImm 13) :
    implicitTarget s rs1 op2 = ⟨readReg s rs1 + second s op2,
      if s.tl = 0 then (if s.pstate.getLsbD 9 then 0x88 else 0x80)
      else if s.pstate.getLsbD 9 then 0x0C else 0x04, false⟩ := by
  rw [implicitTarget, effectiveAddress, operand2_eq_second]
  rfl

/-! ### What an access asks for -/

/-- What an address must be a multiple of (20_memory.md R245, R246). -/
def Alignment.multiple : Alignment → Nat
  | .natural n => n
  | .loadDouble | .storeDouble => 8

theorem Alignment.check_eq_none_iff {a : Alignment} {ea : Word64} : a.check ea = none ↔ ea.toNat % a.multiple = 0 := by
  cases a with
  | natural n => simp [Alignment.check, Alignment.multiple]
  | loadDouble =>
    simp only [Alignment.check, Alignment.multiple]
    split_ifs <;> simp <;> omega
  | storeDouble =>
    simp only [Alignment.check, Alignment.multiple]
    split_ifs <;> simp <;> omega

/-- The classes of 20_memory.md R215 by instruction group. -/
def AsiUse.classes : AsiUse → List AsiClass
  | .load | .loadDouble => [.normal, .io, .noFault]
  | .loadExtended => [.normal, .io, .noFault, .reg]
  | .store => [.normal, .io]
  | .storeExtended => [.normal, .io, .reg]
  | .atomic => [.normal]
  | .twin => [.twinx]
  | .blockLoad => [.block]
  | .blockStore => [.block, .commit]
  | .short => [.short]
  | .partialStore => [.pst]

theorem AsiUse.valid_iff {u : AsiUse} {c : AsiClass} : u.valid c = true ↔ c ∈ u.classes := by
  cases u <;> cases c <;> decide

theorem accessTable_holds : ∀ row ∈ accessTable, row.access.width = row.width ∧ row.access.writes = row.writes
    ∧ row.access.cacheableOnly = row.cacheableOnly ∧ row.access.align.multiple = row.multiple
    ∧ row.access.use.classes = row.classes := by
  decide

/-! ### An admitted access (20_memory.md R300 steps 6 and 8) -/

theorem accessVa_eq_sentVa {s : State} {g : Target} (hk : (asiInfo g.asi).kind = .translating) :
    accessVa s g = sentVa s g := by
  rw [← faultAddress_eq_sentVa, faultAddress, hk]

theorem dataWatchHit_iff_watched {s : State} {acc : Access} {g : Target} :
    dataWatchHit s (sentVa s g) acc.width acc.writes = true ↔ Watched s acc g :=
  dataWatchHit_eq_true_iff

section
variable {s : State} {acc : Access} {g : Target} (h : Admitted s acc g)
include h

theorem dataAccess_admitted : dataAccess s acc g = match (asiInfo g.asi).kind with
    | .translating =>
      if dataWatchHit s (accessVa s g) acc.width acc.writes then .error (.exception .vaWatchpoint)
      else translatedPlace s acc g
    | .real => realPlace acc g
    | .nontranslating => .ok .register :=
  dataAccess_of_admitted h.1 fun hx => ⟨asiAllowed_iff.2 (h.2 hx).1, (h.2 hx).2⟩

theorem dataAccess_of_watched (hk : (asiInfo g.asi).kind = .translating) (hw : Watched s acc g) :
    dataAccess s acc g = .error (.exception .vaWatchpoint) := by
  rw [dataAccess_admitted h, hk, accessVa_eq_sentVa hk]
  exact if_pos (dataWatchHit_iff_watched.2 hw)

/-- With no watchpoint on it, an access through a translating ASI goes by the translation of the
address it sends out. -/
theorem dataAccess_of_not_watched (hk : (asiInfo g.asi).kind = .translating) (hw : ¬Watched s acc g) :
    dataAccess s acc g = match translate s (asiInfo g.asi).ctx (sentVa s g) with
      | .error ev => .error (.mmu ev)
      | .ok tr =>
        match checkData s tr.attr g.asi acc.writes acc.cacheableOnly with
        | some stop => .error stop
        | none => .ok (.memory tr.ra ((asiInfo g.asi).little ^^ tr.attr.ie)) := by
  rw [dataAccess_admitted h, hk, ← accessVa_eq_sentVa hk]
  exact if_neg (by rw [accessVa_eq_sentVa hk]; exact mt dataWatchHit_iff_watched.1 hw)

theorem reaches_of_translate (hk : (asiInfo g.asi).kind = .translating) (hw : ¬Watched s acc g) {tr : Translation}
    (ht : translate s (asiInfo g.asi).ctx (sentVa s g) = .ok tr)
    (hc : checkData s tr.attr g.asi acc.writes acc.cacheableOnly = none) :
    Reaches s acc g tr.ra ((asiInfo g.asi).little ^^ tr.attr.ie) := by
  rw [Reaches, dataAccess_of_not_watched h hk hw, ht]
  simp only [hc]

theorem dataAccess_of_translate_error (hk : (asiInfo g.asi).kind = .translating) (hw : ¬Watched s acc g) {ev : MmuEvent}
    (ht : translate s (asiInfo g.asi).ctx (sentVa s g) = .error ev) : dataAccess s acc g = .error (.mmu ev) := by
  rw [dataAccess_of_not_watched h hk hw, ht]

theorem dataAccess_of_page (hk : (asiInfo g.asi).kind = .translating) (hw : ¬Watched s acc g) {tr : Translation}
    {stop : AccessStop} (ht : translate s (asiInfo g.asi).ctx (sentVa s g) = .ok tr)
    (hc : checkData s tr.attr g.asi acc.writes acc.cacheableOnly = some stop) : dataAccess s acc g = .error stop := by
  rw [dataAccess_of_not_watched h hk hw, ht]
  simp only [hc]

theorem dataAccess_of_real (hk : (asiInfo g.asi).kind = .real) : dataAccess s acc g = realPlace acc g := by
  rw [dataAccess_admitted h, hk]

end

/-- The identity map lets every access through (92_eei_decisions.md D30). -/
theorem checkData_identity (s : State) (asi : Asi) (writes cacheableOnly : Bool) :
    checkData s ⟨false, false, false, true, false, true, true⟩ asi writes cacheableOnly = none := by
  simp [checkData]

theorem sentVa_toNat {s : State} {g : Target} (hk : (asiInfo g.asi).kind = .translating) :
    (sentVa s g).toNat = if s.am then g.ea.toNat % 2 ^ 32 else g.ea.toNat := by
  cases ha : s.am
  case false => simp [sentVa, ha]
  case true =>
    simp only [sentVa, ha, hk, and_self, if_true, BitVec.toNat_ofNat]
    omega

/-- A real address has the default attributes: cacheable, and in the byte order of the ASI (20_memory.md R217;
log 15). -/
theorem realPlace_eq {acc : Access} {g : Target} (hr : g.ea.toNat < 2 ^ 56) :
    realPlace acc g = if acc.cacheableOnly = true ∧ asiClass g.asi = .io then .error (.exception .daeNcPage)
      else .ok (.memory g.ea.toNat (asiInfo g.asi).little) := by
  simp [realPlace, realAddressOk_iff.2 hr, Config.realAttr]

/-- Settles O28: the targets by definition, the table row by row, an admitted access by the kind of its ASI. -/
theorem accessReachesMemory : Obligations.AccessReachesMemory := by
  refine ⟨fun s rs1 rs2 op2 imm asi => ⟨implicitTarget_eq s rs1 op2, rfl, rfl, rfl, rfl, rfl⟩, fun row hrow => ?table,
    fun s acc g h => ⟨fun hk hw => ⟨fun tr => reaches_of_translate h hk hw, fun a hi hea ha => ?identity⟩,
      fun hk hr hc => ?real⟩⟩
  case table =>
    obtain ⟨hwidth, hwrites, hcacheable, hmultiple, hclasses⟩ := accessTable_holds row hrow
    exact ⟨hwidth, hwrites, hcacheable, fun ea => hmultiple ▸ Alignment.check_eq_none_iff,
      fun c => hclasses ▸ AsiUse.valid_iff⟩
  case identity =>
    have ht := translate_identity hi (asiInfo g.asi).ctx (sentVa s g)
    rw [sentVa_toNat hk, ← hea, if_pos ha] at ht
    have hreach := reaches_of_translate h hk hw ht (checkData_identity s g.asi acc.writes acc.cacheableOnly)
    rwa [Bool.xor_false] at hreach
  case real =>
    rw [Reaches, dataAccess_of_real h hk, realPlace_eq hr, if_neg fun hn => hc hn.1 hn.2]

end Sys2Proof.Machine

/-! SUPPORT. Which access each load, store and atomic makes, and that what stops the access stops the
instruction (20_memory.md R212 to R222, R245, R246, R300; 60_exceptions.md R1570, R1610, R1654). -/

namespace Sys2Proof.Machine

open Sys2Proof.Claims

/-! ### The access procedure's stops, in its order (20_memory.md R300) -/

theorem AsiUse.not_misuses_of_not_special (u : AsiUse) {c : AsiClass} (h : c.isSpecial = false) :
    u.misuses c = false := by
  simp [AsiUse.misuses, h]

theorem AsiUse.misuses_iff {u : AsiUse} {c : AsiClass} : u.misuses c = true
    ↔ c.isSpecial = true ∧ u.valid c = false ∧ ¬(u = .loadDouble ∧ c ∈ [.commit, .pst]) := by
  cases u <;> cases c <;> decide

section
variable {s : State} {acc : Access} {g : Target}

theorem not_asiAllowed_of_barred {asi : Asi} (hb : Barred s asi) : asiAllowed s asi = false :=
  Bool.eq_false_iff.2 fun h => asiAllowed_iff.1 h hb

/-- Step 3: a special ASI with an instruction it is not meant for, whatever the address. -/
theorem dataAccess_of_misuse (hx : g.explicit = true) (hu : acc.use.misuses (asiClass g.asi) = true) :
    dataAccess s acc g = .error (.exception (if asiAllowed s g.asi then .daeInvalidAsi else .privilegedAction)) :=
  if_pos (by rw [hx, hu]; rfl)

/-- Step 4: a misaligned address. -/
theorem dataAccess_of_misaligned (hu : g.explicit = true → acc.use.misuses (asiClass g.asi) = false) {e : Exception}
    (he : acc.align.check g.ea = some e) : dataAccess s acc g = .error (.exception e) := by
  rw [dataAccess, if_neg, he]
  rintro h
  obtain ⟨hx, hm⟩ := (Bool.and_eq_true _ _).mp h
  exact absurd ((hu hx).symm.trans hm) (by decide)

/-- Steps 3 and 5: at an aligned address, an ASI that the mode may not use. -/
theorem dataAccess_of_barred (hx : g.explicit = true) (hb : Barred s g.asi) (ha : acc.align.check g.ea = none) :
    dataAccess s acc g = .error (.exception .privilegedAction) := by
  have hn := not_asiAllowed_of_barred hb
  cases hu : acc.use.misuses (asiClass g.asi)
  case true => rw [dataAccess_of_misuse hx hu, hn]; rfl
  case false => simp [dataAccess, hx, hu, ha, hn]

/-- Steps 3 and 7: at an aligned address, an ASI that the instruction may not use. -/
theorem dataAccess_of_unfit (hx : g.explicit = true) (hb : ¬Barred s g.asi) (ha : acc.align.check g.ea = none)
    (hv : acc.use.valid (asiClass g.asi) = false) : dataAccess s acc g = .error (.exception .daeInvalidAsi) := by
  have hn := asiAllowed_iff.2 hb
  cases hu : acc.use.misuses (asiClass g.asi)
  case true => rw [dataAccess_of_misuse hx hu, hn]; rfl
  case false => simp [dataAccess, hx, hu, ha, hn, hv]

end

/-! ### What it is for an instruction to make an access -/

/-- What stops the access `acc` at `g` stops `i`, in the way the access procedure says (20_memory.md R300). -/
def Makes (i : Instr) (s : State) (acc : Access) (g : Target) : Prop :=
  ∀ stop, dataAccess s acc g = .error stop → exec i s = stopAccess s g stop

section
variable {i : Instr} {s : State} {acc : Access} {g : Target}

theorem makes_of_withData {k : Nat → Bool → Outcome} (h : exec i s = withData s acc g k) : Makes i s acc g :=
  fun _ hs => h.trans (withData_of_error k hs)

theorem makes_of_requireFpu {k : Nat → Bool → Outcome} (hf : fpuEnabled s = true)
    (h : exec i s = requireFpu s (withData s acc g k)) : Makes i s acc g :=
  makes_of_withData (h.trans (requireFpu_of_enabled _ hf))

theorem accessExceptions_toPrivileged : ∀ e ∈ accessExceptions, e.toPrivileged = false := by decide

theorem accessExceptions_tt : ∀ e ∈ accessExceptions, (e, e.tt) ∈ accessTraps := by decide

section
variable (hm : Makes i s acc g)
include hm

theorem Makes.leavesAt {e : Exception} (he : e.toPrivileged = false) (h : dataAccess s acc g = .error (.exception e)) :
    LeavesAt i s e.tt g :=
  leavesAt_of_exception (hm _ h) he

theorem Makes.heeds : Heeds i s acc g := by
  intro stop hs
  have hi := hm stop hs
  obtain ⟨ev, rfl⟩ | rfl | ⟨e, he, rfl⟩ := dataAccess_eq_error hs
  · rw [stopAccess, faultAddress_eq_sentVa] at hi
    exact hi
  · refine .inl ⟨rfl, ?_⟩
    split
    case isTrue htl => exact hi.trans (raiseAt_eq_next_iff.2 ⟨rfl, htl, rfl⟩)
    case isFalse htl =>
      have htl : s.tl = 2 := Fin.ext (by have := s.tl.isLt; simp only [Fin.val_two] at *; omega)
      rw [stopAccess, raiseAt_eq_fault (.inr htl), faultAddress_eq_sentVa] at hi
      exact hi
  · exact .inr ⟨e.tt, accessExceptions_tt e he, hm.leavesAt (accessExceptions_toPrivileged e he) hs⟩

theorem Makes.misaligned {n : Nat} (hn : acc.align = .natural n)
    (hu : g.explicit = true → acc.use.misuses (asiClass g.asi) = false) : Misaligned i s g n := fun ha =>
  hm.leavesAt (e := .memAddressNotAligned) rfl (dataAccess_of_misaligned hu (by rw [hn]; exact if_neg ha))

theorem Makes.halfAlignedLoad (hn : acc.align = .loadDouble)
    (hu : g.explicit = true → acc.use.misuses (asiClass g.asi) = false) : HalfAligned i s g 0x035 :=
  ⟨fun ha => hm.leavesAt (e := .memAddressNotAligned) rfl (dataAccess_of_misaligned hu (by rw [hn]; exact if_pos ha)),
   fun ha => hm.leavesAt (e := .lddfMemAddressNotAligned) rfl (dataAccess_of_misaligned hu (by
    rw [hn, Alignment.check, if_neg (by omega), if_pos (by omega)]))⟩

theorem Makes.halfAlignedStore (hn : acc.align = .storeDouble)
    (hu : g.explicit = true → acc.use.misuses (asiClass g.asi) = false) : HalfAligned i s g 0x036 :=
  ⟨fun ha => hm.leavesAt (e := .memAddressNotAligned) rfl (dataAccess_of_misaligned hu (by rw [hn]; exact if_pos ha)),
   fun ha => hm.leavesAt (e := .stdfMemAddressNotAligned) rfl (dataAccess_of_misaligned hu (by
    rw [hn, Alignment.check, if_neg (by omega), if_pos (by omega)]))⟩

theorem Makes.leavesAt_of_barred (hx : g.explicit = true) (hb : Barred s g.asi)
    (ha : g.ea.toNat % acc.align.multiple = 0) : LeavesAt i s 0x037 g :=
  hm.leavesAt (e := .privilegedAction) rfl (dataAccess_of_barred hx hb (Alignment.check_eq_none_iff.2 ha))

theorem Makes.leavesAt_of_unfit (hx : g.explicit = true) (hb : ¬Barred s g.asi)
    (ha : g.ea.toNat % acc.align.multiple = 0) (hv : acc.use.valid (asiClass g.asi) = false) : LeavesAt i s 0x014 g :=
  hm.leavesAt (e := .daeInvalidAsi) rfl (dataAccess_of_unfit hx hb (Alignment.check_eq_none_iff.2 ha) hv)

theorem Makes.leavesAt_of_misuse (hx : g.explicit = true) (hb : ¬Barred s g.asi)
    (hu : acc.use.misuses (asiClass g.asi) = true) : LeavesAt i s 0x014 g :=
  hm.leavesAt (e := .daeInvalidAsi) rfl (by rw [dataAccess_of_misuse hx hu, asiAllowed_iff.2 hb]; rfl)

end
end

/-! ### The access of each instruction -/

section
variable (s : State) (rd rs1 rs2 : RegNum) (op2 : RegOrImm 13) (src : AsiOperand) (cas : CasAsi) (asi : Asi)

theorem makes_load_plain : ∀ row ∈ loadTable,
    Makes (row.plain rd rs1 op2) s (.load row.width) (implicitTarget s rs1 op2) := by
  simp only [loadTable, List.forall_mem_cons]
  refine ⟨?_, ?_, ?_, ?_, ?_, ?_, ?_, List.forall_mem_nil _⟩
  all_goals exact makes_of_withData rfl

theorem makes_ldxa : Makes (.ldxa rd rs1 src) s .loadExtended (alternateTarget s rs1 src) := by
  intro stop hs
  show execLdxa rd rs1 src s = _
  simp only [execLdxa, hs]
  exact withLoad_of_error _ hs

theorem makes_stxa : Makes (.stxa rd rs1 src) s .storeExtended (alternateTarget s rs1 src) := by
  intro stop hs
  show execStxa rd rs1 src s = _
  simp only [execStxa, hs]
  exact withData_of_error _ hs

theorem makes_load_alternate : ∀ row ∈ loadTable,
    Makes (row.alternate rd rs1 src) s row.access (alternateTarget s rs1 src) := by
  simp only [loadTable, List.forall_mem_cons]
  refine ⟨?_, ?_, ?_, ?_, ?_, ?_, makes_ldxa s rd rs1 src, List.forall_mem_nil _⟩
  all_goals exact makes_of_withData rfl

theorem makes_store_plain : ∀ row ∈ storeTable,
    Makes (row.plain rd rs1 op2) s (.store row.width) (implicitTarget s rs1 op2) := by
  simp only [storeTable, List.forall_mem_cons]
  refine ⟨?_, ?_, ?_, ?_, List.forall_mem_nil _⟩
  all_goals exact makes_of_withData rfl

theorem makes_store_alternate : ∀ row ∈ storeTable,
    Makes (row.alternate rd rs1 src) s row.access (alternateTarget s rs1 src) := by
  simp only [storeTable, List.forall_mem_cons]
  refine ⟨?_, ?_, ?_, makes_stxa s rd rs1 src, List.forall_mem_nil _⟩
  all_goals exact makes_of_withData rfl

theorem makes_ldstub : Makes (.ldstub rd rs1 op2) s (.atomic 1) (implicitTarget s rs1 op2) := makes_of_withData rfl
theorem makes_ldstuba : Makes (.ldstuba rd rs1 src) s (.atomic 1) (alternateTarget s rs1 src) := makes_of_withData rfl
theorem makes_swap : Makes (.swap rd rs1 op2) s (.atomic 4) (implicitTarget s rs1 op2) := makes_of_withData rfl
theorem makes_swapa : Makes (.swapa rd rs1 src) s (.atomic 4) (alternateTarget s rs1 src) := makes_of_withData rfl
theorem makes_casa : Makes (.casa rd rs1 rs2 cas) s (.atomic 4) (casTarget s rs1 cas) := makes_of_withData rfl
theorem makes_casxa : Makes (.casxa rd rs1 rs2 cas) s (.atomic 8) (casTarget s rs1 cas) := makes_of_withData rfl

section
variable {rd} (he : rd.getLsbD 0 = false)
include he

theorem not_odd : ¬rd.getLsbD 0 = true := fun h => absurd (he.symm.trans h) (by decide)

theorem makes_ldtw : Makes (.ldtw rd rs1 op2) s (.load 8) (implicitTarget s rs1 op2) :=
  makes_of_withData (if_neg (not_odd he))

theorem makes_sttw : Makes (.sttw rd rs1 op2) s (.store 8) (implicitTarget s rs1 op2) :=
  makes_of_withData (if_neg (not_odd he))

theorem makes_ldtwa : Makes (.ldtwa rd rs1 src) s (.load 8) (alternateTarget s rs1 src) :=
  makes_of_withData (if_neg (not_odd he))

theorem makes_sttwa : Makes (.sttwa rd rs1 src) s (.store 8) (alternateTarget s rs1 src) :=
  makes_of_withData (if_neg (not_odd he))

theorem makes_ldtxa : Makes (.ldtxa rd rs1 rs2 asi) s .twin (immediateTarget s rs1 rs2 asi) :=
  makes_of_withData (if_neg (not_odd he))

end

section
variable {s} (hf : fpuEnabled s = true)
include hf

theorem makes_ldf : Makes (.ldf rd rs1 op2) s (.load 4) (implicitTarget s rs1 op2) := makes_of_requireFpu hf rfl
theorem makes_stf : Makes (.stf rd rs1 op2) s (.store 4) (implicitTarget s rs1 op2) := makes_of_requireFpu hf rfl
theorem makes_ldfa : Makes (.ldfa rd rs1 src) s (.load 4) (alternateTarget s rs1 src) := makes_of_requireFpu hf rfl
theorem makes_stfa : Makes (.stfa rd rs1 src) s (.store 4) (alternateTarget s rs1 src) := makes_of_requireFpu hf rfl
theorem makes_ldfsr : Makes (.ldfsr rs1 op2) s (.load 4) (implicitTarget s rs1 op2) := makes_of_requireFpu hf rfl
theorem makes_ldxfsr : Makes (.ldxfsr rs1 op2) s (.load 8) (implicitTarget s rs1 op2) := makes_of_requireFpu hf rfl
theorem makes_stfsr : Makes (.stfsr rs1 op2) s (.store 4) (implicitTarget s rs1 op2) := makes_of_requireFpu hf rfl
theorem makes_stxfsr : Makes (.stxfsr rs1 op2) s (.store 8) (implicitTarget s rs1 op2) := makes_of_requireFpu hf rfl
theorem makes_lddf : Makes (.lddf rd rs1 op2) s .loadDouble (implicitTarget s rs1 op2) := makes_of_requireFpu hf rfl
theorem makes_stdf : Makes (.stdf rd rs1 op2) s .storeDouble (implicitTarget s rs1 op2) := makes_of_requireFpu hf rfl

theorem makes_stpartialf : Makes (.stpartialf rd rs1 rs2 asi) s .partialStore ⟨readReg s rs1, asi, true⟩ :=
  makes_of_requireFpu hf rfl

/-! #### Block and short accesses (43_fp_load_store.md R985 to R991) -/

section
variable {rd} {i : Instr} {g : Target}

theorem makes_of_blockLoad (h : exec i s = blockLoad s rd g) (ha : (doubleNumber rd).toNat % 16 = 0) :
    Makes i s .blockLoad g :=
  makes_of_requireFpu hf (h.trans (if_pos (blockAligned_iff.2 ha)))

theorem makes_of_blockStore (h : exec i s = blockStore s rd g) (ha : (doubleNumber rd).toNat % 16 = 0) :
    Makes i s .blockStore g :=
  makes_of_requireFpu hf (h.trans (if_pos (blockAligned_iff.2 ha)))

theorem makes_of_shortLoad (h : exec i s = shortLoad s rd g) :
    Makes i s (.shortLoad (if g.asi.getLsbD 1 then 2 else 1)) g := by
  rw [shortLoad, requireFpu_of_enabled _ hf, shortIsHalf] at h
  split
  case isTrue hb => exact makes_of_withData (h.trans (if_pos hb))
  case isFalse hb => exact makes_of_withData (h.trans (if_neg hb))

theorem makes_of_shortStore (h : exec i s = shortStore s rd g) :
    Makes i s (.shortStore (if g.asi.getLsbD 1 then 2 else 1)) g :=
  makes_of_requireFpu hf h

end
end
end

/-! #### LDDFA and STDFA: the ASI selects the access (43_fp_load_store.md R951, R961, R976) -/

section
variable {s : State} {rd rs1 : RegNum} {src : AsiOperand}

theorem exec_lddfa_of_block (hc : asiClass (alternateTarget s rs1 src).asi = .block) :
    exec (.lddfa rd rs1 src) s = blockLoad s rd (alternateTarget s rs1 src) := by
  show execLddfa rd rs1 src s = _
  simp only [execLddfa, hc]

theorem exec_lddfa_of_short (hc : asiClass (alternateTarget s rs1 src).asi = .short) :
    exec (.lddfa rd rs1 src) s = shortLoad s rd (alternateTarget s rs1 src) := by
  show execLddfa rd rs1 src s = _
  simp only [execLddfa, hc]

/-- LDDFA loads a double register through a commit ASI, its register aligned, and through every ASI that
selects no other access. -/
theorem exec_lddfa_of_double (hc : asiClass (alternateTarget s rs1 src).asi ∉ [.block, .short])
    (ha : asiClass (alternateTarget s rs1 src).asi = .commit → (doubleNumber rd).toNat % 16 = 0) :
    exec (.lddfa rd rs1 src) s = requireFpu s (loadFpDouble s rd (alternateTarget s rs1 src)) := by
  show execLddfa rd rs1 src s = _
  dsimp only [execLddfa]
  split
  case h_1 h => exact absurd (by simp [h]) hc
  case h_2 h => exact absurd (by simp [h]) hc
  case h_3 h => exact if_pos (blockAligned_iff.2 (ha h))
  case h_4 => rfl

theorem exec_stdfa_of_block
    (hc : asiClass (alternateTarget s rs1 src).asi = .block ∨ asiClass (alternateTarget s rs1 src).asi = .commit) :
    exec (.stdfa rd rs1 src) s = blockStore s rd (alternateTarget s rs1 src) := by
  show execStdfa rd rs1 src s = _
  obtain hc | hc := hc <;> simp only [execStdfa, hc]

theorem exec_stdfa_of_short (hc : asiClass (alternateTarget s rs1 src).asi = .short) :
    exec (.stdfa rd rs1 src) s = shortStore s rd (alternateTarget s rs1 src) := by
  show execStdfa rd rs1 src s = _
  simp only [execStdfa, hc]

theorem exec_stdfa_of_double (hc : asiClass (alternateTarget s rs1 src).asi ∉ [.block, .commit, .short, .pst]) :
    exec (.stdfa rd rs1 src) s = requireFpu s (storeFpDouble s rd (alternateTarget s rs1 src)) := by
  show execStdfa rd rs1 src s = _
  dsimp only [execStdfa]
  split
  case h_5 => rfl
  all_goals exact absurd (by simp [*]) hc

variable (hf : fpuEnabled s = true)
include hf

theorem makes_lddfa_double {c : AsiClass} (h : asiClass (alternateTarget s rs1 src).asi = c) (hc : c ∉ [.block, .short])
    (ha : c = .commit → (doubleNumber rd).toNat % 16 = 0) :
    Makes (.lddfa rd rs1 src) s .loadDouble (alternateTarget s rs1 src) :=
  makes_of_requireFpu hf (exec_lddfa_of_double (h ▸ hc) (h ▸ ha))

theorem makes_stdfa_double {c : AsiClass} (h : asiClass (alternateTarget s rs1 src).asi = c)
    (hc : c ∉ [.block, .commit, .short, .pst]) :
    Makes (.stdfa rd rs1 src) s .storeDouble (alternateTarget s rs1 src) :=
  makes_of_requireFpu hf (exec_stdfa_of_double (h ▸ hc))

end

end Sys2Proof.Machine

/-! SUPPORT. Form by form, what stops a load, store or atomic (20_memory.md R212 to R227, R245, R246, R300). -/

namespace Sys2Proof.Machine

open Sys2Proof.Claims

/-! ### The classes the instruction groups may not use (20_memory.md R215) -/

/-- The groups of the integer accesses and of LDFA, STFA and STDFA: no special ASI is meant for them. -/
def AsiUse.ordinary : List AsiUse := [.load, .loadExtended, .store, .storeExtended, .atomic]

theorem AsiUse.misuses_of_special {c : AsiClass} (hc : c.isSpecial = true) :
    ∀ u ∈ AsiUse.ordinary, u.misuses c = true := by
  cases c <;> revert hc <;> decide

theorem loadTable_access : ∀ row ∈ loadTable,
    row.access.align = .natural row.width ∧ row.access.use ∈ AsiUse.ordinary := by decide

theorem storeTable_access : ∀ row ∈ storeTable,
    row.access.align = .natural row.width ∧ row.access.use ∈ AsiUse.ordinary := by decide

theorem loadTable_unfit : ∀ row ∈ loadTable, ∀ c ∈ loadUnfit, (row.width = 8 → c ≠ .reg) →
    row.access.use.valid c = false := by decide

theorem storeTable_unfit : ∀ row ∈ storeTable, ∀ c ∈ storeUnfit, (row.width = 8 → c ≠ .reg) →
    row.access.use.valid c = false := by decide

theorem load_unfit : ∀ c ∈ loadUnfit, AsiUse.load.valid c = false ∧ AsiUse.loadDouble.valid c = false := by decide

theorem store_unfit : ∀ c ∈ storeUnfit, AsiUse.store.valid c = false := by decide

theorem atomic_unfit : ∀ c ∈ atomicUnfit, AsiUse.atomic.valid c = false := by decide

/-- Below 0x80 there is no commit, partial-store or short ASI (20_memory.md R214). -/
theorem class_of_low (asi : Asi) : asi.toNat ≤ 0x7F → asiClass asi ∉ [.commit, .pst, .short] := by
  revert asi
  decide +kernel

/-- An ASI that a mode may not use is below 0x80 (20_memory.md R212). -/
theorem class_of_barred {s : State} {asi : Asi} (hb : Barred s asi) : asiClass asi ∉ [.commit, .pst, .short] :=
  class_of_low asi (hb.elim (·.2) (·.2.2))

/-! ### Addresses of register ASIs that name no register (20_memory.md R225 to R227) -/

theorem scratchpadIndex_eq_some {ea : Word64} {k : Fin 8} (h : scratchpadIndex ea = some k) :
    ea = BitVec.ofNat 64 (8 * k.val) := by
  unfold scratchpadIndex at h
  split at h <;> cases h
  apply BitVec.eq_of_toNat_eq
  simp only [BitVec.toNat_ofNat, Fin.val_ofNat]
  omega

theorem namesRegister_of_read {s : State} {asi : Asi} {ea v : Word64} (h : readAsiRegister s asi ea = some v) :
    NamesRegister asi ea := by
  unfold readAsiRegister at h
  split at h
  case h_1 ha =>
    obtain ⟨k, hk, -⟩ := Option.map_eq_some_iff.1 h
    exact .inl ⟨BitVec.eq_of_toNat_eq ha, k, scratchpadIndex_eq_some hk⟩
  case h_2 ha =>
    refine .inr (.inl ⟨BitVec.eq_of_toNat_eq ha, ?_⟩)
    split at h
    case h_5 => cases h
    all_goals simp [contextTable, ← BitVec.toNat_inj, *]
  case h_3 ha =>
    refine .inr (.inr ⟨BitVec.eq_of_toNat_eq ha, ?_⟩)
    split at h
    case h_9 => cases h
    all_goals simp [queueTable, ← BitVec.toNat_inj, *]
  case h_4 => cases h

theorem namesRegister_of_write {s t : State} {asi : Asi} {ea v : Word64} (h : writeAsiRegister s asi ea v = some t) :
    NamesRegister asi ea := by
  unfold writeAsiRegister at h
  split at h
  case h_1 ha =>
    obtain ⟨k, hk, -⟩ := Option.map_eq_some_iff.1 h
    exact .inl ⟨BitVec.eq_of_toNat_eq ha, k, scratchpadIndex_eq_some hk⟩
  case h_2 ha =>
    refine .inr (.inl ⟨BitVec.eq_of_toNat_eq ha, ?_⟩)
    split at h
    case h_5 => cases h
    all_goals simp [contextTable, ← BitVec.toNat_inj, *]
  case h_3 ha =>
    refine .inr (.inr ⟨BitVec.eq_of_toNat_eq ha, ?_⟩)
    split at h
    case h_5 => cases h
    all_goals simp [queueTable, ← BitVec.toNat_inj, *]
  case h_4 => cases h

theorem leaves_of_illegal {i : Instr} {s : State} (h : exec i s = raise s .illegalInstruction) : Leaves i s 0x010 :=
  h.trans (raiseAt_eq_fault (.inl rfl))

/-- The classes through which LDDFA and STDFA move a double register. -/
theorem double_class {c : AsiClass} (h : c ∉ [.block, .commit, .short]) :
    c ∉ [.block, .short] ∧ c ≠ .commit ∧ (c ≠ .pst → c ∉ [.block, .commit, .short, .pst]) := by
  cases c <;> revert h <;> decide

theorem ordinary_class {c : AsiClass} (h : c.isSpecial = false) : c ∉ [.block, .commit, .short] ∧ c ≠ .pst := by
  cases c <;> revert h <;> decide

theorem low_class {c : AsiClass} (h : c ∉ [.commit, .pst, .short]) (hb : c ≠ .block) :
    c ∉ [.block, .commit, .short] ∧ c ≠ .pst := by
  cases c <;> revert h hb <;> decide

theorem unfit_not_special : ∀ c ∈ storeUnfit, c.isSpecial = false := by decide

/-- An implicit ASI is never misused. -/
theorem implicit_not_misused {s : State} {rs1 : RegNum} {op2 : RegOrImm 13} {p : Prop}
    (h : (implicitTarget s rs1 op2).explicit = true) : p := by
  cases h

/-! ### The clauses, in the order of the statement -/

section
variable (s : State) (rd rs1 rs2 : RegNum) (op2 : RegOrImm 13) (src : AsiOperand) (cas : CasAsi) (asi : Asi)

/-- A special ASI that the mode may use stops every instruction it is not meant for (20_memory.md R219 to R222). -/
theorem specialAsi_stops :
    let alt := alternateTarget s rs1 src
    (asiClass alt.asi).isSpecial = true → ¬Barred s alt.asi →
      (∀ row ∈ loadTable, LeavesAt (row.alternate rd rs1 src) s 0x014 alt)
      ∧ (∀ row ∈ storeTable, LeavesAt (row.alternate rd rs1 src) s 0x014 alt)
      ∧ LeavesAt (.ldstuba rd rs1 src) s 0x014 alt ∧ LeavesAt (.swapa rd rs1 src) s 0x014 alt
      ∧ (rd.getLsbD 0 = false → LeavesAt (.ldtwa rd rs1 src) s 0x014 alt ∧ LeavesAt (.sttwa rd rs1 src) s 0x014 alt)
      ∧ (fpuEnabled s = true → LeavesAt (.ldfa rd rs1 src) s 0x014 alt ∧ LeavesAt (.stfa rd rs1 src) s 0x014 alt
        ∧ (asiClass alt.asi = .twinx →
          LeavesAt (.lddfa rd rs1 src) s 0x014 alt ∧ LeavesAt (.stdfa rd rs1 src) s 0x014 alt)
        ∧ (asiClass alt.asi = .pst ∨ (asiClass alt.asi = .commit ∧ (doubleNumber rd).toNat % 16 = 0) →
          alt.ea.toNat % 8 = 0 → LeavesAt (.lddfa rd rs1 src) s 0x014 alt)) := by
  intro alt hs hb
  have mis := AsiUse.misuses_of_special hs
  refine ⟨fun row hrow => (makes_load_alternate s rd rs1 src row hrow).leavesAt_of_misuse rfl hb
      (mis _ (loadTable_access row hrow).2),
    fun row hrow => (makes_store_alternate s rd rs1 src row hrow).leavesAt_of_misuse rfl hb
      (mis _ (storeTable_access row hrow).2),
    (makes_ldstuba s rd rs1 src).leavesAt_of_misuse rfl hb (mis .atomic (by decide)),
    (makes_swapa s rd rs1 src).leavesAt_of_misuse rfl hb (mis .atomic (by decide)), fun he => ⟨?_, ?_⟩,
    fun hf => ⟨?_, ?_, fun hc => ⟨?_, ?_⟩, fun hc ha => ?lddfa⟩⟩
  · exact (makes_ldtwa s rs1 src he).leavesAt_of_misuse rfl hb (mis .load (by decide))
  · exact (makes_sttwa s rs1 src he).leavesAt_of_misuse rfl hb (mis .store (by decide))
  · exact (makes_ldfa rd rs1 src hf).leavesAt_of_misuse rfl hb (mis .load (by decide))
  · exact (makes_stfa rd rs1 src hf).leavesAt_of_misuse rfl hb (mis .store (by decide))
  · exact (makes_lddfa_double hf hc (by decide) nofun).leavesAt_of_misuse rfl hb
      (congrArg (AsiUse.misuses .loadDouble) hc)
  · exact (makes_stdfa_double hf hc (by decide)).leavesAt_of_misuse rfl hb (mis .store (by decide))
  case lddfa =>
    obtain hc | ⟨hc, hrd⟩ := hc
    · exact (makes_lddfa_double hf hc (by decide) nofun).leavesAt_of_unfit rfl hb ha
        (congrArg (AsiUse.valid .loadDouble) hc)
    · exact (makes_lddfa_double hf hc (by decide) fun _ => hrd).leavesAt_of_unfit rfl hb ha
        (congrArg (AsiUse.valid .loadDouble) hc)

/-- Misaligned addresses of the alternate forms, through an ASI that is not special (20_memory.md R245, R246). -/
theorem alternate_misaligned :
    let alt := alternateTarget s rs1 src
    (asiClass alt.asi).isSpecial = false →
      (∀ row ∈ loadTable, Misaligned (row.alternate rd rs1 src) s alt row.width)
      ∧ (∀ row ∈ storeTable, Misaligned (row.alternate rd rs1 src) s alt row.width)
      ∧ Misaligned (.swapa rd rs1 src) s alt 4
      ∧ (rd.getLsbD 0 = false → Misaligned (.ldtwa rd rs1 src) s alt 8 ∧ Misaligned (.sttwa rd rs1 src) s alt 8)
      ∧ (fpuEnabled s = true → Misaligned (.ldfa rd rs1 src) s alt 4 ∧ Misaligned (.stfa rd rs1 src) s alt 4
        ∧ HalfAligned (.lddfa rd rs1 src) s alt 0x035 ∧ HalfAligned (.stdfa rd rs1 src) s alt 0x036) := by
  intro alt hs
  have fit (u : AsiUse) (_ : alt.explicit = true) := u.not_misuses_of_not_special hs
  obtain ⟨hd, hpst⟩ := ordinary_class hs
  obtain ⟨hl, hn, hst⟩ := double_class hd
  refine ⟨fun row hrow => (makes_load_alternate s rd rs1 src row hrow).misaligned
      (loadTable_access row hrow).1 (fit _),
    fun row hrow => (makes_store_alternate s rd rs1 src row hrow).misaligned
      (storeTable_access row hrow).1 (fit _),
    (makes_swapa s rd rs1 src).misaligned rfl (fit _),
    fun he => ⟨(makes_ldtwa s rs1 src he).misaligned rfl (fit _),
      (makes_sttwa s rs1 src he).misaligned rfl (fit _)⟩,
    fun hf => ⟨(makes_ldfa rd rs1 src hf).misaligned rfl (fit _),
      (makes_stfa rd rs1 src hf).misaligned rfl (fit _), ?_, ?_⟩⟩
  · exact (makes_lddfa_double hf rfl hl fun h => absurd h hn).halfAlignedLoad rfl (fit _)
  · exact (makes_stdfa_double hf rfl (hst hpst)).halfAlignedStore rfl (fit _)

/-- Misaligned addresses of the block, commit, short and partial-store accesses (20_memory.md R245, R246;
92_eei_decisions.md D35). -/
theorem special_misaligned :
    let alt := alternateTarget s rs1 src
    let imm := immediateTarget s rs1 rs2 asi
    fpuEnabled s = true →
      ((doubleNumber rd).toNat % 16 = 0 →
        (asiClass asi = .block → Misaligned (.ldblockf rd rs1 rs2 asi) s imm 64)
        ∧ (asiClass asi = .block ∨ asiClass asi = .commit → Misaligned (.stblockf rd rs1 rs2 asi) s imm 64)
        ∧ (asiClass alt.asi = .block → Misaligned (.lddfa rd rs1 src) s alt 64)
        ∧ (asiClass alt.asi = .block ∨ asiClass alt.asi = .commit → Misaligned (.stdfa rd rs1 src) s alt 64)
        ∧ (asiClass alt.asi = .commit → HalfAligned (.lddfa rd rs1 src) s alt 0x035))
      ∧ (asiClass alt.asi = .pst → HalfAligned (.lddfa rd rs1 src) s alt 0x035)
      ∧ (asiClass asi = .short → asi.getLsbD 1 = true →
        Misaligned (.ldshortf rd rs1 rs2 asi) s imm 2 ∧ Misaligned (.stshortf rd rs1 rs2 asi) s imm 2)
      ∧ (asiClass alt.asi = .short → alt.asi.getLsbD 1 = true →
        Misaligned (.lddfa rd rs1 src) s alt 2 ∧ Misaligned (.stdfa rd rs1 src) s alt 2)
      ∧ (asiClass asi = .pst → HalfAligned (.stpartialf rd rs1 rs2 asi) s ⟨readReg s rs1, asi, true⟩ 0x036) := by
  intro alt imm hf
  refine ⟨fun hrd => ⟨fun hc => ?_, fun hc => ?_, fun hc => ?_, fun hc => ?_, fun hc => ?_⟩, fun hc => ?_,
    fun hc hb => ⟨?_, ?_⟩, fun hc hb => ⟨?_, ?_⟩, fun hc => ?_⟩
  · exact (makes_of_blockLoad hf rfl hrd).misaligned rfl fun _ => congrArg (AsiUse.misuses .blockLoad) hc
  · refine (makes_of_blockStore hf rfl hrd).misaligned rfl fun _ => ?_
    exact hc.elim (congrArg (AsiUse.misuses .blockStore)) (congrArg (AsiUse.misuses .blockStore))
  · exact (makes_of_blockLoad hf (exec_lddfa_of_block hc) hrd).misaligned rfl fun _ =>
      congrArg (AsiUse.misuses .blockLoad) hc
  · refine (makes_of_blockStore hf (exec_stdfa_of_block hc) hrd).misaligned rfl fun _ => ?_
    exact hc.elim (congrArg (AsiUse.misuses .blockStore)) (congrArg (AsiUse.misuses .blockStore))
  · exact (makes_lddfa_double hf hc (by decide) fun _ => hrd).halfAlignedLoad rfl fun _ =>
      congrArg (AsiUse.misuses .loadDouble) hc
  · exact (makes_lddfa_double hf hc (by decide) nofun).halfAlignedLoad rfl fun _ =>
      congrArg (AsiUse.misuses .loadDouble) hc
  · exact (makes_of_shortLoad hf rfl).misaligned (congrArg Alignment.natural (if_pos hb)) fun _ =>
      congrArg (AsiUse.misuses .short) hc
  · exact (makes_of_shortStore hf rfl).misaligned (congrArg Alignment.natural (if_pos hb)) fun _ =>
      congrArg (AsiUse.misuses .short) hc
  · exact (makes_of_shortLoad hf (exec_lddfa_of_short hc)).misaligned (congrArg Alignment.natural (if_pos hb)) fun _ =>
      congrArg (AsiUse.misuses .short) hc
  · exact (makes_of_shortStore hf (exec_stdfa_of_short hc)).misaligned (congrArg Alignment.natural (if_pos hb)) fun _ =>
      congrArg (AsiUse.misuses .short) hc
  · exact (makes_stpartialf rd rs1 rs2 asi hf).halfAlignedStore rfl fun _ => congrArg (AsiUse.misuses .partialStore) hc

/-- Restricted ASIs at an address aligned for the access (20_memory.md R212). -/
theorem barredAsi_stops :
    let alt := alternateTarget s rs1 src
    Barred s alt.asi →
      (∀ row ∈ loadTable, alt.ea.toNat % row.width = 0 → LeavesAt (row.alternate rd rs1 src) s 0x037 alt)
      ∧ (∀ row ∈ storeTable, alt.ea.toNat % row.width = 0 → LeavesAt (row.alternate rd rs1 src) s 0x037 alt)
      ∧ LeavesAt (.ldstuba rd rs1 src) s 0x037 alt
      ∧ (alt.ea.toNat % 4 = 0 → LeavesAt (.swapa rd rs1 src) s 0x037 alt)
      ∧ (rd.getLsbD 0 = false → alt.ea.toNat % 8 = 0 →
        LeavesAt (.ldtwa rd rs1 src) s 0x037 alt ∧ LeavesAt (.sttwa rd rs1 src) s 0x037 alt)
      ∧ (fpuEnabled s = true →
        (alt.ea.toNat % 4 = 0 → LeavesAt (.ldfa rd rs1 src) s 0x037 alt ∧ LeavesAt (.stfa rd rs1 src) s 0x037 alt)
        ∧ (alt.ea.toNat % 64 = 0 → (doubleNumber rd).toNat % 16 = 0 →
          LeavesAt (.lddfa rd rs1 src) s 0x037 alt ∧ LeavesAt (.stdfa rd rs1 src) s 0x037 alt)
        ∧ (alt.ea.toNat % 8 = 0 → asiClass alt.asi ≠ .block →
          LeavesAt (.lddfa rd rs1 src) s 0x037 alt ∧ LeavesAt (.stdfa rd rs1 src) s 0x037 alt)) := by
  intro alt hb
  have double (hf : fpuEnabled s = true) (ha : alt.ea.toNat % 8 = 0) (hc : asiClass alt.asi ≠ .block) :
      LeavesAt (.lddfa rd rs1 src) s 0x037 alt ∧ LeavesAt (.stdfa rd rs1 src) s 0x037 alt := by
    obtain ⟨hd, hpst⟩ := low_class (class_of_barred hb) hc
    obtain ⟨hl, hn, hst⟩ := double_class hd
    exact ⟨(makes_lddfa_double hf rfl hl fun h => absurd h hn).leavesAt_of_barred rfl hb ha,
      (makes_stdfa_double hf rfl (hst hpst)).leavesAt_of_barred rfl hb ha⟩
  refine ⟨fun row hrow ha => (makes_load_alternate s rd rs1 src row hrow).leavesAt_of_barred rfl hb
      ((loadTable_access row hrow).1 ▸ ha),
    fun row hrow ha => (makes_store_alternate s rd rs1 src row hrow).leavesAt_of_barred rfl hb
      ((storeTable_access row hrow).1 ▸ ha),
    (makes_ldstuba s rd rs1 src).leavesAt_of_barred rfl hb (Nat.mod_one _),
    (makes_swapa s rd rs1 src).leavesAt_of_barred rfl hb,
    fun he ha => ⟨(makes_ldtwa s rs1 src he).leavesAt_of_barred rfl hb ha,
      (makes_sttwa s rs1 src he).leavesAt_of_barred rfl hb ha⟩,
    fun hf => ⟨fun ha => ⟨(makes_ldfa rd rs1 src hf).leavesAt_of_barred rfl hb ha,
      (makes_stfa rd rs1 src hf).leavesAt_of_barred rfl hb ha⟩, fun ha hrd => ?_, double hf⟩⟩
  by_cases hc : asiClass alt.asi = .block
  · exact ⟨(makes_of_blockLoad hf (exec_lddfa_of_block hc) hrd).leavesAt_of_barred rfl hb ha,
      (makes_of_blockStore hf (exec_stdfa_of_block (.inl hc)) hrd).leavesAt_of_barred rfl hb ha⟩
  · exact double hf (by omega) hc

/-- ASIs that are not special and that the instruction may not use (20_memory.md R215, R224 to R227). -/
theorem unfitAsi_stops :
    let alt := alternateTarget s rs1 src
    let class_ := asiClass alt.asi
    ¬Barred s alt.asi →
      (∀ row ∈ loadTable, class_ ∈ loadUnfit → (row.width = 8 → class_ ≠ .reg) → alt.ea.toNat % row.width = 0 →
        LeavesAt (row.alternate rd rs1 src) s 0x014 alt)
      ∧ (∀ row ∈ storeTable, class_ ∈ storeUnfit → (row.width = 8 → class_ ≠ .reg) → alt.ea.toNat % row.width = 0 →
        LeavesAt (row.alternate rd rs1 src) s 0x014 alt)
      ∧ (class_ ∈ atomicUnfit → LeavesAt (.ldstuba rd rs1 src) s 0x014 alt
        ∧ (alt.ea.toNat % 4 = 0 → LeavesAt (.swapa rd rs1 src) s 0x014 alt))
      ∧ (rd.getLsbD 0 = false → alt.ea.toNat % 8 = 0 →
        (class_ ∈ loadUnfit → LeavesAt (.ldtwa rd rs1 src) s 0x014 alt)
        ∧ (class_ ∈ storeUnfit → LeavesAt (.sttwa rd rs1 src) s 0x014 alt))
      ∧ (fpuEnabled s = true →
        (alt.ea.toNat % 4 = 0 → (class_ ∈ loadUnfit → LeavesAt (.ldfa rd rs1 src) s 0x014 alt)
          ∧ (class_ ∈ storeUnfit → LeavesAt (.stfa rd rs1 src) s 0x014 alt))
        ∧ (alt.ea.toNat % 8 = 0 → (class_ ∈ loadUnfit → LeavesAt (.lddfa rd rs1 src) s 0x014 alt)
          ∧ (class_ ∈ storeUnfit → LeavesAt (.stdfa rd rs1 src) s 0x014 alt)))
      ∧ (class_ = .reg → ¬NamesRegister alt.asi alt.ea → alt.ea.toNat % 8 = 0 →
        LeavesAt (.ldxa rd rs1 src) s 0x014 alt ∧ LeavesAt (.stxa rd rs1 src) s 0x014 alt) := by
  intro alt class_ hb
  refine ⟨fun row hrow hc hr ha => ?_, fun row hrow hc hr ha => ?_, fun hc => ⟨?_, fun ha => ?_⟩,
    fun he ha => ⟨fun hc => ?_, fun hc => ?_⟩,
    fun hf => ⟨fun ha => ⟨fun hc => ?_, fun hc => ?_⟩, fun ha => ⟨fun hc => ?_, fun hc => ?_⟩⟩,
    fun hc hn ha => ⟨?_, ?_⟩⟩
  · exact (makes_load_alternate s rd rs1 src row hrow).leavesAt_of_unfit rfl hb
      ((loadTable_access row hrow).1 ▸ ha) (loadTable_unfit row hrow _ hc hr)
  · exact (makes_store_alternate s rd rs1 src row hrow).leavesAt_of_unfit rfl hb
      ((storeTable_access row hrow).1 ▸ ha) (storeTable_unfit row hrow _ hc hr)
  · exact (makes_ldstuba s rd rs1 src).leavesAt_of_unfit rfl hb (Nat.mod_one _) (atomic_unfit _ hc)
  · exact (makes_swapa s rd rs1 src).leavesAt_of_unfit rfl hb ha (atomic_unfit _ hc)
  · exact (makes_ldtwa s rs1 src he).leavesAt_of_unfit rfl hb ha (load_unfit _ hc).1
  · exact (makes_sttwa s rs1 src he).leavesAt_of_unfit rfl hb ha (store_unfit _ hc)
  · exact (makes_ldfa rd rs1 src hf).leavesAt_of_unfit rfl hb ha (load_unfit _ hc).1
  · exact (makes_stfa rd rs1 src hf).leavesAt_of_unfit rfl hb ha (store_unfit _ hc)
  · obtain ⟨hd, -⟩ := ordinary_class (unfit_not_special _ (List.mem_cons_of_mem _ hc))
    obtain ⟨hl, hn, -⟩ := double_class hd
    exact (makes_lddfa_double hf rfl hl fun h => absurd h hn).leavesAt_of_unfit rfl hb ha (load_unfit _ hc).2
  · obtain ⟨hd, hpst⟩ := ordinary_class (unfit_not_special _ hc)
    exact (makes_stdfa_double hf rfl ((double_class hd).2.2 hpst)).leavesAt_of_unfit rfl hb ha (store_unfit _ hc)
  · exact leavesAt_ldxa_of_reg hc hb ha (Option.eq_none_iff_forall_ne_some.2 fun _ h => hn (namesRegister_of_read h))
  · exact leavesAt_stxa_of_reg hc hb ha (Option.eq_none_iff_forall_ne_some.2 fun _ h => hn (namesRegister_of_write h))

end

/-- Settles O29: the access each form makes, and the check of the access procedure that stops it. -/
theorem accessStops : Obligations.AccessStops := by
  intro s rd rs1 rs2 op2 src cas asi even fpu plain alt imm cmp part class_
  have hcasa := makes_casa s rd rs1 rs2 cas
  have hcasxa := makes_casxa s rd rs1 rs2 cas
  refine ⟨?odd, specialAsi_stops s rd rs1 src, ?specialCas, ?plainLoads, ?plainStores, ?plainSwap, ?plainTwin,
    ?plainFp, alternate_misaligned s rd rs1 src, ?alternateCas, ?ldtxa,
    special_misaligned s rd rs1 rs2 src asi, barredAsi_stops s rd rs1 src, ?barredCas, ?barredImm,
    unfitAsi_stops s rd rs1 src, ?unfitCas, ?stops,
    fun row hrow => ⟨(makes_load_plain s rd rs1 op2 row hrow).heeds,
      (makes_load_alternate s rd rs1 src row hrow).heeds⟩,
    fun row hrow => ⟨(makes_store_plain s rd rs1 op2 row hrow).heeds,
      (makes_store_alternate s rd rs1 src row hrow).heeds⟩,
    (makes_ldstub s rd rs1 op2).heeds, (makes_ldstuba s rd rs1 src).heeds,
    (makes_swap s rd rs1 op2).heeds, (makes_swapa s rd rs1 src).heeds,
    hcasa.heeds, hcasxa.heeds, ?heedsTwin, ?heedsFp⟩
  case odd =>
    intro ho
    refine ⟨?_, ?_, ?_, ?_, ?_⟩
    all_goals exact leaves_of_illegal (if_pos ho)
  case specialCas =>
    intro hs hb
    have mis := AsiUse.misuses_of_special hs .atomic (by decide)
    exact ⟨hcasa.leavesAt_of_misuse rfl hb mis, hcasxa.leavesAt_of_misuse rfl hb mis⟩
  case plainLoads =>
    exact fun row hrow => (makes_load_plain s rd rs1 op2 row hrow).misaligned rfl implicit_not_misused
  case plainStores =>
    exact fun row hrow => (makes_store_plain s rd rs1 op2 row hrow).misaligned rfl implicit_not_misused
  case plainSwap => exact (makes_swap s rd rs1 op2).misaligned rfl implicit_not_misused
  case plainTwin =>
    exact fun he => ⟨(makes_ldtw s rs1 op2 he).misaligned rfl implicit_not_misused,
      (makes_sttw s rs1 op2 he).misaligned rfl implicit_not_misused⟩
  case plainFp =>
    exact fun hf => ⟨(makes_ldf rd rs1 op2 hf).misaligned rfl implicit_not_misused,
      (makes_stf rd rs1 op2 hf).misaligned rfl implicit_not_misused,
      (makes_ldfsr rs1 op2 hf).misaligned rfl implicit_not_misused,
      (makes_ldxfsr rs1 op2 hf).misaligned rfl implicit_not_misused,
      (makes_stfsr rs1 op2 hf).misaligned rfl implicit_not_misused,
      (makes_stxfsr rs1 op2 hf).misaligned rfl implicit_not_misused,
      (makes_lddf rd rs1 op2 hf).halfAlignedLoad rfl implicit_not_misused,
      (makes_stdf rd rs1 op2 hf).halfAlignedStore rfl implicit_not_misused⟩
  case alternateCas =>
    intro hs
    have fit (_ : cmp.explicit = true) := AsiUse.atomic.not_misuses_of_not_special hs
    exact ⟨hcasa.misaligned rfl fit, hcasxa.misaligned rfl fit⟩
  case ldtxa =>
    exact fun he hc => (makes_ldtxa s rs1 rs2 asi he).misaligned rfl fun _ =>
      congrArg (AsiUse.misuses .twin) hc
  case barredCas => exact fun hb => ⟨hcasa.leavesAt_of_barred rfl hb, hcasxa.leavesAt_of_barred rfl hb⟩
  case barredImm =>
    exact fun hb => ⟨fun he => (makes_ldtxa s rs1 rs2 asi he).leavesAt_of_barred rfl hb, fun hf hrd ha =>
      ⟨(makes_of_blockLoad hf rfl hrd).leavesAt_of_barred rfl hb ha,
       (makes_of_blockStore hf rfl hrd).leavesAt_of_barred rfl hb ha⟩⟩
  case unfitCas =>
    exact fun hb hc => ⟨fun ha => hcasa.leavesAt_of_unfit rfl hb ha (atomic_unfit _ hc),
      fun ha => hcasxa.leavesAt_of_unfit rfl hb ha (atomic_unfit _ hc)⟩
  case stops =>
    intro acc g
    refine ⟨fun hx hb hs hv hn => ?_, fun h hk => ⟨dataAccess_of_watched h hk, fun hw =>
      ⟨fun ev => dataAccess_of_translate_error h hk hw, fun tr stop => dataAccess_of_page h hk hw⟩⟩,
      fun h hk => ⟨fun hr => ?_, fun hr hc hio => ?_⟩⟩
    · rw [dataAccess_of_misuse hx (AsiUse.misuses_iff.2 ⟨hs, hv, hn⟩), not_asiAllowed_of_barred hb]
      rfl
    · rw [dataAccess_of_real h hk, realPlace_of_out_of_range acc hr]
    · rw [dataAccess_of_real h hk, realPlace_eq hr, if_pos ⟨hc, hio⟩]
  case heedsTwin =>
    exact fun he => ⟨(makes_ldtw s rs1 op2 he).heeds, (makes_sttw s rs1 op2 he).heeds, (makes_ldtwa s rs1 src he).heeds,
      (makes_sttwa s rs1 src he).heeds, (makes_ldtxa s rs1 rs2 asi he).heeds⟩
  case heedsFp =>
    intro hf
    refine ⟨(makes_ldf rd rs1 op2 hf).heeds, (makes_stf rd rs1 op2 hf).heeds, (makes_ldfa rd rs1 src hf).heeds,
      (makes_stfa rd rs1 src hf).heeds, (makes_ldfsr rs1 op2 hf).heeds, (makes_ldxfsr rs1 op2 hf).heeds,
      (makes_stfsr rs1 op2 hf).heeds, (makes_stxfsr rs1 op2 hf).heeds, (makes_lddf rd rs1 op2 hf).heeds,
      (makes_stdf rd rs1 op2 hf).heeds, (makes_of_shortLoad hf rfl).heeds, (makes_of_shortStore hf rfl).heeds,
      (makes_stpartialf rd rs1 rs2 asi hf).heeds,
      fun hc => ⟨(makes_of_shortLoad hf (exec_lddfa_of_short hc)).heeds,
        (makes_of_shortStore hf (exec_stdfa_of_short hc)).heeds⟩,
      fun hc => ?_, fun hrd => ⟨(makes_of_blockLoad hf rfl hrd).heeds, (makes_of_blockStore hf rfl hrd).heeds,
        fun hc => ⟨(makes_of_blockLoad hf (exec_lddfa_of_block hc) hrd).heeds,
          (makes_of_blockStore hf (exec_stdfa_of_block (.inl hc)) hrd).heeds⟩,
        fun hc => ⟨(makes_lddfa_double hf hc (by decide) fun _ => hrd).heeds,
          (makes_of_blockStore hf (exec_stdfa_of_block (.inr hc)) hrd).heeds⟩⟩⟩
    obtain ⟨hl, hn, hst⟩ := double_class hc
    exact ⟨(makes_lddfa_double hf rfl hl fun h => absurd h hn).heeds,
      fun hpst => (makes_stdfa_double hf rfl (hst hpst)).heeds⟩

end Sys2Proof.Machine

/-! SUPPORT. Conditions on the operands: the tables of 30_encoding.md R350 to R352, and what they say after a compare (40_integer.md R402). -/

namespace Sys2Proof.Machine

open Sys2Proof.Claims

/-! ### Register conditions (30_encoding.md R352) -/

theorem beq_zero_eq_toInt {w : Nat} (v : BitVec w) : (v == 0) = decide (v.toInt = 0) := by
  rw [Bool.eq_iff_iff, beq_iff_eq, decide_eq_true_iff, ← BitVec.toInt_inj, BitVec.ofNat_eq_ofNat, BitVec.toInt_zero]

/-- Each register condition is a test of the sign and of zero. -/
theorem rcondTest_signed (v : Word64) :
    rcondTest 0b001 v = decide (v.toInt = 0) ∧ rcondTest 0b010 v = decide (v.toInt ≤ 0)
      ∧ rcondTest 0b011 v = decide (v.toInt < 0) ∧ rcondTest 0b101 v = decide (v.toInt ≠ 0)
      ∧ rcondTest 0b110 v = decide (0 < v.toInt) ∧ rcondTest 0b111 v = decide (0 ≤ v.toInt) := by
  have hn : v.msb = decide (v.toInt < 0) := BitVec.msb_eq_toInt
  simp only [rcondTest, beq_zero_eq_toInt, hn]
  refine ⟨rfl, ?le, rfl, ?ne, ?gt, ?ge⟩
  all_goals grind

/-- Bits 28:25 of a word whose `rcond` is one of the two reserved values. -/
theorem cond_of_reserved_rcond {c : BitVec 4} (h : c.extractLsb' 0 3 ∈ [0b000#3, 0b100#3]) :
    c = 0b0000#4 ∨ c = 0b0100#4 ∨ c = 0b1000#4 ∨ c = 0b1100#4 := by
  revert c; decide

/-- A BPr word with a reserved `rcond`: the fields `op` and `op2` select BPr's table, which has no entry for it. -/
theorem undecoded_bpr {w : Word32} (hop : fieldOp w = 0b00) (hop2 : fieldOp2 w = 0b011)
    (hrcond : w.extractLsb' 25 3 ∈ [0b000#3, 0b100#3]) : Undecoded w := by
  have hd : decode w = decodeBpr w := by rw [decode, hop, decodeFormat2, hop2]; rfl
  have hlow : ((fieldRd w).extractLsb' 0 4).extractLsb' 0 3 = w.extractLsb' 25 3 := by
    ext i hi
    simp [fieldRd, show i < 5 by omega]
  rw [← hlow] at hrcond
  refine ⟨.reservedOpcode, hd.trans ?_⟩
  rcases cond_of_reserved_rcond hrcond with h | h | h | h
  all_goals rw [decodeBpr, h]; rfl

/-- Settles O3: the tables on condition codes are finite; the register conditions are tests of sign and zero. -/
theorem conditionTables : Obligations.ConditionTables := by
  refine ⟨?icc, ?iccNegate, ?fcc, ?fccNegate, rcondTest_signed, fun w => undecoded_bpr⟩
  case icc => decide
  case iccNegate => decide
  case fcc => decide
  case fccNegate => decide

/-! ### The codes of a difference order its operands (40_integer.md R402) -/

section
variable {w : Nat} (a b : BitVec w)

/-- `n` and `v` of a difference differ exactly where the first operand is the smaller signed integer. -/
theorem sub_sign_xor_overflow :
    ((a - b).msb ^^ (a.msb != b.msb && (a - b).msb != a.msb)) = decide (a.toInt < b.toInt) := by
  have hv : (a.msb != b.msb && (a - b).msb != a.msb) = a.ssubOverflow b := by
    have hbits : ∀ x y d : Bool, (x != y && d != x) = (!x && y && d || x && !y && !d) := by decide
    rw [BitVec.ssubOverflow_eq, hbits]
  cases ho : a.ssubOverflow b with
  | false =>
    have hsub := BitVec.toInt_sub_of_not_ssubOverflow (x := a) (y := b) (by simp [ho])
    rw [hv, ho, Bool.xor_false, BitVec.msb_eq_toInt, hsub]
    exact decide_eq_decide.2 (by omega)
  | true =>
    rw [hv, ho, Bool.xor_true]
    obtain ⟨hab, hda⟩ : a.msb ≠ b.msb ∧ (a - b).msb ≠ a.msb := by simpa [ho] using hv
    rw [Bool.eq_not.2 hda, Bool.not_not, BitVec.msb_eq_toInt]
    simp only [BitVec.msb_eq_toInt, ne_eq, decide_eq_decide] at hab
    exact decide_eq_decide.2 (by omega)

theorem subCodes_of_no_borrow : subCodes a b false
    = nzvc (a - b).msb (decide (a = b)) (a.msb != b.msb && (a - b).msb != a.msb) (decide (a.toNat < b.toNat)) := by
  have hz : (a - b == 0) = decide (a = b) := by
    rw [Bool.eq_iff_iff, beq_iff_eq, decide_eq_true_iff, sub_eq_zero]
  simp only [subCodes, Bool.toNat_false, BitVec.sub_zero, Nat.add_zero, hz]

/-- The conditions on the codes of a difference, at one width. -/
theorem iccTest_subCodes :
    let cc := subCodes a b false
    iccTest 0b0001 cc = decide (a = b) ∧ iccTest 0b1001 cc = decide (a ≠ b)
    ∧ iccTest 0b1010 cc = decide (b.toInt < a.toInt) ∧ iccTest 0b0010 cc = decide (a.toInt ≤ b.toInt)
    ∧ iccTest 0b1011 cc = decide (b.toInt ≤ a.toInt) ∧ iccTest 0b0011 cc = decide (a.toInt < b.toInt)
    ∧ iccTest 0b1100 cc = decide (b.toNat < a.toNat) ∧ iccTest 0b0100 cc = decide (a.toNat ≤ b.toNat)
    ∧ iccTest 0b1101 cc = decide (b.toNat ≤ a.toNat) ∧ iccTest 0b0101 cc = decide (a.toNat < b.toNat) := by
  obtain ⟨-, -, hne, he, hg, hle, hge, hl, hgu, hleu, hcc, hcs, -⟩ := conditionTables.1 (a - b).msb (decide (a = b))
    (a.msb != b.msb && (a - b).msb != a.msb) (decide (a.toNat < b.toNat))
  rw [sub_sign_xor_overflow] at hg hle hge hl
  have hi : a = b ↔ a.toInt = b.toInt := BitVec.toInt_inj.symm
  have hu : a = b ↔ a.toNat = b.toNat := BitVec.toNat_inj.symm
  simp only [subCodes_of_no_borrow, hne, he, hg, hle, hge, hl, hgu, hleu, hcc, hcs]
  refine ⟨?e, ?ne, ?g, ?le, ?ge, ?l, ?gu, ?leu, ?cc, ?cs⟩
  all_goals grind

end

/-- Settles O5: each half of CCR holds the codes of the difference at its width. -/
theorem compareThenTest : Obligations.CompareThenTest := by
  intro a b
  have hx : (ccSub a b false).extractLsb' 4 4 = subCodes a b false := extract_high _ _
  have hi : (ccSub a b false).extractLsb' 0 4 = subCodes (a.setWidth 32) (b.setWidth 32) false := extract_low _ _
  obtain ⟨e, ne, g, le, ge, l, gu, leu, cc, cs⟩ := iccTest_subCodes a b
  obtain ⟨e', ne', g', le', ge', l', gu', leu', cc', cs'⟩ := iccTest_subCodes (a.setWidth 32) (b.setWidth 32)
  rw [hx, hi]
  exact ⟨e, ne, g, le, ge, l, gu, leu, cc, cs, e', ne', g', le', ge', l', gu', leu', cc', cs'⟩

end Sys2Proof.Machine

/-! SUPPORT. Encoding and decoding are inverse: what each form of word decodes to, and which word each decoder's result encodes to (30_encoding.md R330 to R369). -/

namespace Sys2Proof

/-! ### The forms: a word written field by field, then decoded -/

section
variable (op : BitVec 2) (rd : RegNum) (op3 : BitVec 6) (rs1 : RegNum)

theorem decAlu_format3 (k : RegNum → RegNum → RegOrImm 13 → Instr) (op2 : RegOrImm 13) :
    decAlu k (format3 op rd op3 rs1 (lowRegImm13 op2)) = .ok (k rd rs1 op2) := by
  simp [decAlu, readOr]

theorem decAddr_format3 (k : RegNum → RegOrImm 13 → Instr) (op2 : RegOrImm 13) :
    decAddr k (format3 op rd op3 rs1 (lowRegImm13 op2)) = .ok (k rs1 op2) := by
  simp [decAddr, readOr]

theorem decShift_shift32 (k32 : RegNum → RegNum → RegOrImm 5 → Instr)
    (k64 : RegNum → RegNum → RegOrImm 6 → Instr) (count : RegOrImm 5) : decShift k32 k64 (format3 op rd op3 rs1 (lowShift32 count)) = .ok (k32 rd rs1 count) := by
  simp [decShift, readOr]

theorem decShift_shift64 (k32 : RegNum → RegNum → RegOrImm 5 → Instr)
    (k64 : RegNum → RegNum → RegOrImm 6 → Instr) (count : RegOrImm 6) : decShift k32 k64 (format3 op rd op3 rs1 (lowShift64 count)) = .ok (k64 rd rs1 count) := by
  simp [decShift, readOr]

theorem decAlt_format3 (k : RegNum → RegNum → AsiOperand → Instr) (src : AsiOperand) :
    decAlt k (format3 op rd op3 rs1 (lowAsi src)) = .ok (k rd rs1 src) := by
  simp [decAlt]

theorem decCas_format3 (k : RegNum → RegNum → RegNum → CasAsi → Instr) (rs2 : RegNum) (src : CasAsi) :
    decCas k (format3 op rd op3 rs1 (lowCas rs2 src)) = .ok (k rd rs1 rs2 src) := by
  simp [decCas, readOr]

theorem decRd_format3 (k : RegNum → Instr) : decRd k (format3 op rd op3 rs1 0#14) = .ok (k rd) := by
  simp [decRd, requireZero]

theorem decFull_format3 (i : Instr) : decFull i (format3 op rd op3 0#5 0#14) = .ok i := by
  simp [decFull, requireZero]

theorem decF3_format3 (k : RegNum → RegNum → RegNum → Instr) (opf : BitVec 9) (rs2 : RegNum) :
    decF3 k (format3 op rd op3 rs1 (lowFpop opf rs2)) = .ok (k rd rs1 rs2) := by
  simp [decF3]

theorem decF2_format3 (k : RegNum → RegNum → Instr) (opf : BitVec 9) (rs2 : RegNum) :
    decF2 k (format3 op rd op3 0#5 (lowFpop opf rs2)) = .ok (k rd rs2) := by
  simp [decF2, requireZero]

theorem decF1_format3 (k : RegNum → RegNum → Instr) (opf : BitVec 9) :
    decF1 k (format3 op rd op3 rs1 (lowFpop opf 0#5)) = .ok (k rd rs1) := by
  simp [decF1, requireZero]

theorem decF0_format3 (k : RegNum → Instr) (opf : BitVec 9) :
    decF0 k (format3 op rd op3 0#5 (lowFpop opf 0#5)) = .ok (k rd) := by
  simp [decF0, requireZero]

theorem decFcmp_format3 (k : FccNum → RegNum → RegNum → Instr) (fcc : FccNum) (opf : BitVec 9) (rs2 : RegNum) :
    decFcmp k (format3 op (0#3 ++ fcc) op3 rs1 (lowFpop opf rs2)) = .ok (k fcc rs1 rs2) := by
  simp [decFcmp, requireZero, extract_high 0#3 fcc, extract_low 0#3 fcc]

theorem decFmovIcc_format3 (k : RegNum → BitVec 4 → RegNum → Instr) (cond : BitVec 4) (opf : BitVec 9)
    (rs2 : RegNum) : decFmovIcc k (format3 op rd op3 (0#1 ++ cond) (lowFpop opf rs2)) = .ok (k rd cond rs2) := by
  simp [decFmovIcc, requireZero, extract_high 0#1 cond, extract_low 0#1 cond]

theorem decFmovFcc_format3 (k : RegNum → FccNum → BitVec 4 → RegNum → Instr) (fcc : FccNum) (cond : BitVec 4)
    (opf : BitVec 9) (rs2 : RegNum) :
    decFmovFcc k fcc (format3 op rd op3 (0#1 ++ cond) (lowFpop opf rs2)) = .ok (k rd fcc cond rs2) := by
  simp [decFmovFcc, requireZero, extract_high 0#1 cond, extract_low 0#1 cond]

theorem decFma_format3 (k : RegNum → RegNum → RegNum → RegNum → Instr) (rs3 : RegNum) (op5 : BitVec 4)
    (rs2 : RegNum) : decFma k (format3 op rd op3 rs1 (lowFma rs3 op5 rs2)) = .ok (k rd rs1 rs3 rs2) := by
  simp [decFma]

theorem decMovIcc_format3 (k : RegNum → IntCc → RegOrImm 11 → Instr) (cc : IntCc) (op2 : RegOrImm 11) :
    decMovIcc k (format3 op rd op3 rs1 (lowMovcc cc.bits op2)) = .ok (k rd cc op2) := by
  simp [decMovIcc, readOr]

theorem decMovFcc_format3 (k : RegNum → FccNum → RegOrImm 11 → Instr) (fcc : FccNum) (op2 : RegOrImm 11) :
    decMovFcc k (format3 op rd op3 rs1 (lowMovcc fcc op2)) = .ok (k rd fcc op2) := by
  simp [decMovFcc, readOr]

theorem decMovr_format3 (k : RegNum → RegNum → RegOrImm 10 → Instr) (rcond : BitVec 3) (op2 : RegOrImm 10) :
    decMovr k (format3 op rd op3 rs1 (lowMovr rcond op2)) = .ok (k rd rs1 op2) := by
  simp [decMovr, readOr]

theorem decTcc_format3 (k : RegNum → IntCc → RegOrImm 8 → Instr) (cc : IntCc) (num : RegOrImm 8) :
    decTcc k (format3 op rd op3 rs1 (lowTcc cc.bits num)) = .ok (k rs1 cc num) := by
  simp [decTcc, readOr]

end

section
variable (a : Bool) (cond : BitVec 4) (op2 : BitVec 3) (p : Bool)

theorem decBranch_format2 (k : Bool → BitVec 22 → Instr) (disp22 : BitVec 22) :
    decBranch k (format2 (topBranch a cond) op2 disp22) = .ok (k a disp22) := by
  simp only [decBranch, fieldRd_format2, topBranch_annul, fieldLow22_format2]

theorem decBpcc_format2 (k : Bool → IntCc → Bool → BitVec 19 → Instr) (cc : IntCc) (disp19 : BitVec 19) :
    decBpcc k (format2 (topBranch a cond) op2 (low22Pred cc.bits p disp19)) = .ok (k a cc p disp19) := by
  simp only [decBpcc, readOr, fieldRd_format2, topBranch_annul, fieldLow22_format2, low22Pred_cc, readIntCc_bits,
    low22Pred_p, low22Pred_disp]

theorem decFbp_format2 (k : Bool → FccNum → Bool → BitVec 19 → Instr) (fcc : FccNum) (disp19 : BitVec 19) :
    decFbp k (format2 (topBranch a cond) op2 (low22Pred fcc p disp19)) = .ok (k a fcc p disp19) := by
  simp only [decFbp, fieldRd_format2, topBranch_annul, fieldLow22_format2, low22Pred_cc, low22Pred_p, low22Pred_disp]

theorem decBpr_format2 (k : Bool → BitVec 16 → Bool → RegNum → Instr) (d16 : BitVec 16) (rs1 : RegNum) :
    decBpr k (format2 (topBranch a cond) op2 (low22Bpr d16 p rs1)) = .ok (k a d16 p rs1) := by
  simp only [decBpr, fieldRd_format2, topBranch_annul, fieldLow22_format2, low22Bpr_disp, low22Bpr_p, low22Bpr_rs1]

end

/-! ### The forms of one opcode each -/

section
variable (op : BitVec 2) (rd : RegNum) (op3 : BitVec 6) (rs1 : RegNum)

/-- A SETHI term stands for a word unless that word is NOP (30_encoding.md R332). -/
theorem sethi_wellFormed_iff {rd : RegNum} {imm22 : BitVec 22} :
    (Instr.sethi rd imm22).wellFormed = true ↔ ¬(rd = 0#5 ∧ imm22 = 0#22) := by
  show (!(rd == 0#5 && imm22 == 0#22)) = true ↔ _
  simp [imp_iff_not_or]

theorem decodeSethi_format2 {imm22 : BitVec 22} (h : ¬(rd = 0#5 ∧ imm22 = 0#22)) :
    decodeSethi (format2 rd 4#3 imm22) = .ok (.sethi rd imm22) := by
  simp [decodeSethi, h]

theorem decAddr_rdZero (k : RegNum → RegOrImm 13 → Instr) (op2 : RegOrImm 13) :
    requireZero (fieldRd (format3 op 0#5 op3 rs1 (lowRegImm13 op2)) == 0#5)
      (decAddr k (format3 op 0#5 op3 rs1 (lowRegImm13 op2))) = .ok (k rs1 op2) := by
  simp [requireZero, decAddr_format3]

theorem requireEven_format3 {low : BitVec 14} (h : evenRegister rd = true) (d : Decoded) :
    requireEven (fieldRd (format3 op rd op3 rs1 low)) d = d := by
  simp [requireEven, h]

theorem decodePopc_format3 (op2 : RegOrImm 13) :
    decodePopc (format3 op rd op3 0#5 (lowRegImm13 op2)) = .ok (.popc rd op2) := by
  simp [decodePopc, readOr]

theorem decodeMembar_format3 (cmask : BitVec 3) (mmask : BitVec 4) :
    decodeMembar (format3 op 0#5 op3 rs1 (0x40#7 ++ cmask ++ mmask)) = .ok (.membar cmask mmask) := by
  have hi : (0x40#7 ++ cmask ++ mmask).extractLsb' 7 7 = 0x40#7 :=
    (extract_within_high _ _ (by decide)).trans (extract_high _ _)
  have hc : (0x40#7 ++ cmask ++ mmask).extractLsb' 4 3 = cmask :=
    (extract_within_high _ _ (by decide)).trans (extract_low _ _)
  have hm : (0x40#7 ++ cmask ++ mmask).extractLsb' 0 4 = mmask := extract_low _ _
  simp only [decodeMembar, fieldRd_format3, fieldLow_format3, hi, hc, hm, and_self, if_true]

theorem decodeFlushw_format3 (i : Bool) :
    decodeFlushw (format3 op 0#5 op3 0#5 (bit i ++ 0#13)) = .ok (.flushw i) := by
  cases i <;> simp [decodeFlushw, requireZero, bit]

theorem decodeSiam_format3 (opf : BitVec 9) (mode : BitVec 3) :
    decodeSiam (format3 op 0#5 op3 0#5 (lowFpop opf (0#2 ++ mode))) = .ok (.siam mode) := by
  have hz : (lowFpop opf (0#2 ++ mode)).extractLsb' 3 2 = 0#2 :=
    (extract_within_low _ _ (by decide)).trans (extract_high _ _)
  have hm : (lowFpop opf (0#2 ++ mode)).extractLsb' 0 3 = mode :=
    (extract_within_low _ _ (by decide)).trans (extract_low _ _)
  simp [decodeSiam, requireZero, hz, hm]

/-! #### LDTWA, LDDFA and STDFA: `imm_asi` selects the instruction (20_memory.md R215) -/

theorem decodeLdtwa_ldtwa {src : AsiOperand} (he : evenRegister rd = true)
    (h : src.immAsiIs (!isTwinxAsi ·) = true) :
    decodeLdtwa (format3 op rd op3 rs1 (lowAsi src)) = .ok (.ldtwa rd rs1 src) := by
  cases src with
  | immAsi rs2 asi => simp_all [decodeLdtwa, requireEven, AsiOperand.immAsiIs]
  | asiReg v => simp [decodeLdtwa, requireEven, he]

theorem decodeLdtwa_ldtxa {rs2 : RegNum} {asi : Asi} (he : evenRegister rd = true) (h : isTwinxAsi asi = true) :
    decodeLdtwa (format3 op rd op3 rs1 (lowAsi (.immAsi rs2 asi))) = .ok (.ldtxa rd rs1 rs2 asi) := by
  simp [decodeLdtwa, requireEven, he, h]

theorem decodeLddfa_lddfa {src : AsiOperand} (h : src.immAsiIs (fun a => !isBlockAsi a && !isShortAsi a) = true) :
    decodeLddfa (format3 op rd op3 rs1 (lowAsi src)) = .ok (.lddfa rd rs1 src) := by
  cases src with
  | immAsi rs2 asi => simp_all [decodeLddfa, AsiOperand.immAsiIs]
  | asiReg v => simp [decodeLddfa]

theorem decodeLddfa_ldblockf {rs2 : RegNum} {asi : Asi} (h : isBlockAsi asi = true) :
    decodeLddfa (format3 op rd op3 rs1 (lowAsi (.immAsi rs2 asi))) = .ok (.ldblockf rd rs1 rs2 asi) := by
  simp [decodeLddfa, h]

theorem decodeLddfa_ldshortf {rs2 : RegNum} {asi : Asi} (h : isShortAsi asi = true) :
    decodeLddfa (format3 op rd op3 rs1 (lowAsi (.immAsi rs2 asi))) = .ok (.ldshortf rd rs1 rs2 asi) := by
  have hc : Machine.asiClass asi = .short := beq_iff_eq.1 h
  have hb : isBlockAsi asi = false := by rw [isBlockAsi, hc]; rfl
  simp [decodeLddfa, hb, h]

theorem decodeStdfa_stdfa {src : AsiOperand}
    (h : src.immAsiIs (fun a => !isBlockStoreAsi a && !isShortAsi a && !isPartialAsi a) = true) :
    decodeStdfa (format3 op rd op3 rs1 (lowAsi src)) = .ok (.stdfa rd rs1 src) := by
  cases src with
  | immAsi rs2 asi => simp_all [decodeStdfa, AsiOperand.immAsiIs]
  | asiReg v => simp [decodeStdfa]

theorem decodeStdfa_stblockf {rs2 : RegNum} {asi : Asi} (h : isBlockStoreAsi asi = true) :
    decodeStdfa (format3 op rd op3 rs1 (lowAsi (.immAsi rs2 asi))) = .ok (.stblockf rd rs1 rs2 asi) := by
  simp [decodeStdfa, h]

theorem decodeStdfa_stshortf {rs2 : RegNum} {asi : Asi} (h : isShortAsi asi = true) :
    decodeStdfa (format3 op rd op3 rs1 (lowAsi (.immAsi rs2 asi))) = .ok (.stshortf rd rs1 rs2 asi) := by
  have hc : Machine.asiClass asi = .short := beq_iff_eq.1 h
  have hb : isBlockStoreAsi asi = false := by rw [isBlockStoreAsi, hc]; rfl
  simp [decodeStdfa, hb, h]

theorem decodeStdfa_stpartialf {rs2 : RegNum} {asi : Asi} (h : isPartialAsi asi = true) :
    decodeStdfa (format3 op rd op3 rs1 (lowAsi (.immAsi rs2 asi))) = .ok (.stpartialf rd rs1 rs2 asi) := by
  have hc : Machine.asiClass asi = .pst := beq_iff_eq.1 h
  have hb : isBlockStoreAsi asi = false := by rw [isBlockStoreAsi, hc]; rfl
  have hs : isShortAsi asi = false := by rw [isShortAsi, hc]; rfl
  simp [decodeStdfa, hb, hs, h]

/-! #### PREFETCH and PREFETCHA: `fcn` in the place of `rd` (30_encoding.md R364) -/

theorem decodePrefetch_format3 {fcn : BitVec 5} (op2 : RegOrImm 13) (h : prefetchFcnDefined fcn = true) :
    decodePrefetch (format3 op fcn op3 rs1 (lowRegImm13 op2)) = .ok (.prefetch fcn rs1 op2) := by
  simp [decodePrefetch, h, decAlu_format3]

theorem decodePrefetcha_format3 {fcn : BitVec 5} (src : AsiOperand) (h : prefetchFcnDefined fcn = true) :
    decodePrefetcha (format3 op fcn op3 rs1 (lowAsi src)) = .ok (.prefetcha fcn rs1 src) := by
  simp [decodePrefetcha, h, decAlt_format3]

end

/-! ### The tables: a word whose field selects an entry decodes by that entry (30_encoding.md R346, R361 to R369) -/

section
variable {d : Word32 → Decoded} {rd : RegNum} {op3 : BitVec 6} {rs1 : RegNum} {low : BitVec 14}

theorem decode_format1 (disp30 : BitVec 30) : decode (format1 disp30) = .ok (.call disp30) := by
  rw [decode, fieldOp_format1, ← fieldDisp30_format1 disp30]; simp

theorem decode_format2 {top : BitVec 5} {op2 : BitVec 3} {low22 : BitVec 22}
    (h : ∀ w, fieldOp2 w = op2 → decodeFormat2 w = d w) :
    decode (format2 top op2 low22) = d (format2 top op2 low22) := by
  rw [decode, fieldOp_format2, ← h _ (fieldOp2_format2 ..)]; rfl

theorem decode_arith (h : ∀ w, fieldOp3 w = op3 → decodeArith w = d w) :
    decode (format3 2#2 rd op3 rs1 low) = d (format3 2#2 rd op3 rs1 low) := by
  rw [decode, fieldOp_format3, ← h _ (fieldOp3_format3 ..)]; rfl

theorem decode_mem (h : ∀ w, fieldOp3 w = op3 → decodeMem w = d w) :
    decode (format3 3#2 rd op3 rs1 low) = d (format3 3#2 rd op3 rs1 low) := by
  rw [decode, fieldOp_format3, ← h _ (fieldOp3_format3 ..)]; rfl

theorem decode_rdasr (h : ∀ w, fieldRs1 w = rs1 → decodeRdasr w = d w) :
    decode (format3 2#2 rd 0x28#6 rs1 low) = d (format3 2#2 rd 0x28#6 rs1 low) :=
  (decode_arith fun w hw => by rw [decodeArith, hw]; rfl).trans (h _ (fieldRs1_format3 ..))

theorem decode_rdpr (h : ∀ w, fieldRs1 w = rs1 → decodeRdpr w = d w) :
    decode (format3 2#2 rd 0x2A#6 rs1 low) = d (format3 2#2 rd 0x2A#6 rs1 low) :=
  (decode_arith fun w hw => by rw [decodeArith, hw]; rfl).trans (h _ (fieldRs1_format3 ..))

theorem decode_movcc (h : ∀ w, fieldRs1 w = rs1 → decodeMovcc w = d w) :
    decode (format3 2#2 rd 0x2C#6 rs1 low) = d (format3 2#2 rd 0x2C#6 rs1 low) :=
  (decode_arith fun w hw => by rw [decodeArith, hw]; rfl).trans (h _ (fieldRs1_format3 ..))

theorem decode_wrasr (h : ∀ w, fieldRd w = rd → decodeWrasr w = d w) :
    decode (format3 2#2 rd 0x30#6 rs1 low) = d (format3 2#2 rd 0x30#6 rs1 low) :=
  (decode_arith fun w hw => by rw [decodeArith, hw]; rfl).trans (h _ (fieldRd_format3 ..))

theorem decode_saved (h : ∀ w, fieldRd w = rd → decodeSaved w = d w) :
    decode (format3 2#2 rd 0x31#6 rs1 low) = d (format3 2#2 rd 0x31#6 rs1 low) :=
  (decode_arith fun w hw => by rw [decodeArith, hw]; rfl).trans (h _ (fieldRd_format3 ..))

theorem decode_wrpr (h : ∀ w, fieldRd w = rd → decodeWrpr w = d w) :
    decode (format3 2#2 rd 0x32#6 rs1 low) = d (format3 2#2 rd 0x32#6 rs1 low) :=
  (decode_arith fun w hw => by rw [decodeArith, hw]; rfl).trans (h _ (fieldRd_format3 ..))

theorem decode_tcc (h : ∀ w, fieldRd w = rd → decodeTcc w = d w) :
    decode (format3 2#2 rd 0x3A#6 rs1 low) = d (format3 2#2 rd 0x3A#6 rs1 low) :=
  (decode_arith fun w hw => by rw [decodeArith, hw]; rfl).trans (h _ (fieldRd_format3 ..))

theorem decode_done (h : ∀ w, fieldRd w = rd → decodeDone w = d w) :
    decode (format3 2#2 rd 0x3E#6 rs1 low) = d (format3 2#2 rd 0x3E#6 rs1 low) :=
  (decode_arith fun w hw => by rw [decodeArith, hw]; rfl).trans (h _ (fieldRd_format3 ..))

theorem decode_ldfsr (h : ∀ w, fieldRd w = rd → decodeLdfsr w = d w) :
    decode (format3 3#2 rd 0x21#6 rs1 low) = d (format3 3#2 rd 0x21#6 rs1 low) :=
  (decode_mem fun w hw => by rw [decodeMem, hw]; rfl).trans (h _ (fieldRd_format3 ..))

theorem decode_stfsr (h : ∀ w, fieldRd w = rd → decodeStfsr w = d w) :
    decode (format3 3#2 rd 0x25#6 rs1 low) = d (format3 3#2 rd 0x25#6 rs1 low) :=
  (decode_mem fun w hw => by rw [decodeMem, hw]; rfl).trans (h _ (fieldRd_format3 ..))

theorem decode_fpop1 {opf : BitVec 9} {rs2 : RegNum}
    (h : ∀ w, lowOpf (fieldLow w) = opf → decodeFpop1 w = d w) :
    decode (format3 2#2 rd 0x34#6 rs1 (lowFpop opf rs2)) = d (format3 2#2 rd 0x34#6 rs1 (lowFpop opf rs2)) :=
  (decode_arith fun w hw => by rw [decodeArith, hw]; rfl).trans (h _ (by rw [fieldLow_format3, lowFpop_lowOpf]))

theorem decode_fpop2 {opf : BitVec 9} {rs2 : RegNum}
    (h : ∀ w, lowOpf (fieldLow w) = opf → decodeFpop2 w = d w) :
    decode (format3 2#2 rd 0x35#6 rs1 (lowFpop opf rs2)) = d (format3 2#2 rd 0x35#6 rs1 (lowFpop opf rs2)) :=
  (decode_arith fun w hw => by rw [decodeArith, hw]; rfl).trans (h _ (by rw [fieldLow_format3, lowFpop_lowOpf]))

theorem decode_vis {opf : BitVec 9} {rs2 : RegNum}
    (h : ∀ w, lowOpf (fieldLow w) = opf → decodeVis w = d w) :
    decode (format3 2#2 rd 0x36#6 rs1 (lowFpop opf rs2)) = d (format3 2#2 rd 0x36#6 rs1 (lowFpop opf rs2)) :=
  (decode_arith fun w hw => by rw [decodeArith, hw]; rfl).trans (h _ (by rw [fieldLow_format3, lowFpop_lowOpf]))

theorem decode_fma {rs3 rs2 : RegNum} {op5 : BitVec 4}
    (h : ∀ w, lowOp5 (fieldLow w) = op5 → decodeFma w = d w) :
    decode (format3 2#2 rd 0x37#6 rs1 (lowFma rs3 op5 rs2)) = d (format3 2#2 rd 0x37#6 rs1 (lowFma rs3 op5 rs2)) :=
  (decode_arith fun w hw => by rw [decodeArith, hw]; rfl).trans (h _ (by rw [fieldLow_format3, lowFma_lowOp5]))

theorem decode_movr {rcond : BitVec 3} {op2 : RegOrImm 10}
    (h : ∀ w, lowRcond (fieldLow w) = rcond → decodeMovr w = d w) :
    decode (format3 2#2 rd 0x2F#6 rs1 (lowMovr rcond op2)) = d (format3 2#2 rd 0x2F#6 rs1 (lowMovr rcond op2)) :=
  (decode_arith fun w hw => by rw [decodeArith, hw]; rfl).trans (h _ (by rw [fieldLow_format3, lowRcond_lowMovr]))

end

section
variable {d : Word32 → Decoded} {a : Bool} {cond : BitVec 4} {low22 : BitVec 22}

theorem decode_bicc (h : ∀ w, (fieldRd w).extractLsb' 0 4 = cond → decodeBicc w = d w) :
    decode (format2 (topBranch a cond) 2#3 low22) = d (format2 (topBranch a cond) 2#3 low22) :=
  (decode_format2 fun w hw => by rw [decodeFormat2, hw]; rfl).trans (h _ (by rw [fieldRd_format2, topBranch_cond]))

theorem decode_fbfcc (h : ∀ w, (fieldRd w).extractLsb' 0 4 = cond → decodeFbfcc w = d w) :
    decode (format2 (topBranch a cond) 6#3 low22) = d (format2 (topBranch a cond) 6#3 low22) :=
  (decode_format2 fun w hw => by rw [decodeFormat2, hw]; rfl).trans (h _ (by rw [fieldRd_format2, topBranch_cond]))

theorem decode_bpcc (h : ∀ w, (fieldRd w).extractLsb' 0 4 = cond → decodeBpcc w = d w) :
    decode (format2 (topBranch a cond) 1#3 low22) = d (format2 (topBranch a cond) 1#3 low22) :=
  (decode_format2 fun w hw => by rw [decodeFormat2, hw]; rfl).trans (h _ (by rw [fieldRd_format2, topBranch_cond]))

theorem decode_fbpfcc (h : ∀ w, (fieldRd w).extractLsb' 0 4 = cond → decodeFbpfcc w = d w) :
    decode (format2 (topBranch a cond) 5#3 low22) = d (format2 (topBranch a cond) 5#3 low22) :=
  (decode_format2 fun w hw => by rw [decodeFormat2, hw]; rfl).trans (h _ (by rw [fieldRd_format2, topBranch_cond]))

theorem decode_bpr (h : ∀ w, (fieldRd w).extractLsb' 0 4 = cond → decodeBpr w = d w) :
    decode (format2 (topBranch a cond) 3#3 low22) = d (format2 (topBranch a cond) 3#3 low22) :=
  (decode_format2 fun w hw => by rw [decodeFormat2, hw]; rfl).trans (h _ (by rw [fieldRd_format2, topBranch_cond]))

end

theorem fcc_cases (fcc : FccNum) : fcc = 0 ∨ fcc = 1 ∨ fcc = 2 ∨ fcc = 3 := by
  revert fcc; decide

/-! ### Every well-formed instruction -/

/-- Settles O58: by the form of the instruction, its word reaches the table entry of its own opcode, which reads the operands back. -/
theorem encodeDecode : Obligations.EncodeDecode := by
  intro i hwf
  cases i
  case bn | be | ble | bl | bleu | bcs | bneg | bvs | ba | bne | bg | bge | bgu | bcc | bpos | bvc =>
    exact (decode_bicc fun w h => by rw [decodeBicc, h]; rfl).trans (decBranch_format2 ..)
  case fbn | fbne | fblg | fbul | fbl | fbug | fbg | fbu | fba | fbe | fbue | fbge | fbuge | fble | fbule |
      fbo =>
    exact (decode_fbfcc fun w h => by rw [decodeFbfcc, h]; rfl).trans (decBranch_format2 ..)
  case bpn | bpe | bple | bpl | bpleu | bpcs | bpneg | bpvs | bpa | bpne | bpg | bpge | bpgu | bpcc | bppos |
      bpvc =>
    exact (decode_bpcc fun w h => by rw [decodeBpcc, h]; rfl).trans (decBpcc_format2 ..)
  case fbpn | fbpne | fbplg | fbpul | fbpl | fbpug | fbpg | fbpu | fbpa | fbpe | fbpue | fbpge | fbpuge |
      fbple | fbpule | fbpo =>
    exact (decode_fbpfcc fun w h => by rw [decodeFbpfcc, h]; rfl).trans (decFbp_format2 ..)
  case brz | brlez | brlz | brnz | brgz | brgez =>
    exact (decode_bpr fun w h => by rw [decodeBpr, h]; rfl).trans (decBpr_format2 ..)
  case movfn | movfne | movflg | movful | movfl | movfug | movfg | movfu | movfa | movfe | movfue | movfge |
      movfuge | movfle | movfule | movfo =>
    exact (decode_movcc fun w h => by rw [decodeMovcc, h]; rfl).trans (decMovFcc_format3 ..)
  case movn | move | movle | movl | movleu | movcs | movneg | movvs | mova | movne | movg | movge | movgu |
      movcc | movpos | movvc =>
    exact (decode_movcc fun w h => by rw [decodeMovcc, h]; rfl).trans (decMovIcc_format3 ..)
  case movrz | movrlez | movrlz | movrnz | movrgz | movrgez =>
    exact (decode_movr fun w h => by rw [decodeMovr, h]; rfl).trans (decMovr_format3 ..)
  case tn | te | tle | tl | tleu | tcs | tneg | tvs | ta | tne | tg | tge | tgu | tcc | tpos | tvc =>
    exact (decode_tcc fun w h => by rw [decodeTcc, h]; rfl).trans (decTcc_format3 ..)
  case rdy | rdccr | rdasi | rdtick | rdpc | rdfprs | rdgsr | rdsoftint | rdtickCmpr | rdstick | rdstickCmpr =>
    exact (decode_rdasr fun w h => by rw [decodeRdasr, h]; rfl).trans (decRd_format3 ..)
  case wry | wrccr | wrasi | wrfprs | wrgsr | wrsoftintSet | wrsoftintClr | wrsoftint | wrtickCmpr |
      wrstickCmpr =>
    exact (decode_wrasr fun w h => by rw [decodeWrasr, h]; rfl).trans (decAddr_format3 ..)
  case rdprTpc | rdprTnpc | rdprTstate | rdprTt | rdprTick | rdprTba | rdprPstate | rdprTl | rdprPil | rdprCwp |
      rdprCansave | rdprCanrestore | rdprCleanwin | rdprOtherwin | rdprWstate | rdprGl =>
    exact (decode_rdpr fun w h => by rw [decodeRdpr, h]; rfl).trans (decRd_format3 ..)
  case wrprTpc | wrprTnpc | wrprTstate | wrprTt | wrprTba | wrprPstate | wrprTl | wrprPil | wrprCwp |
      wrprCansave | wrprCanrestore | wrprCleanwin | wrprOtherwin | wrprWstate | wrprGl =>
    exact (decode_wrpr fun w h => by rw [decodeWrpr, h]; rfl).trans (decAddr_format3 ..)
  case saved | restored | allclean | otherw | normalw | invalw =>
    exact (decode_saved fun w h => by rw [decodeSaved, h]; rfl).trans (decFull_format3 ..)
  case done | retry =>
    exact (decode_done fun w h => by rw [decodeDone, h]; rfl).trans (decFull_format3 ..)
  case fmovs | fmovd | fmovq | fnegs | fnegd | fnegq | fabss | fabsd | fabsq | fsqrts | fsqrtd | fsqrtq |
      fstox | fdtox | fqtox | fxtos | fxtod | fxtoq | fitos | fdtos | fqtos | fitod | fstod | fqtod | fitoq |
      fstoq | fdtoq | fstoi | fdtoi | fqtoi =>
    exact (decode_fpop1 fun w h => by rw [decodeFpop1, h]; rfl).trans (decF2_format3 ..)
  case fadds | faddd | faddq | fsubs | fsubd | fsubq | fmuls | fmuld | fmulq | fdivs | fdivd | fdivq | fsmuld |
      fdmulq =>
    exact (decode_fpop1 fun w h => by rw [decodeFpop1, h]; rfl).trans (decF3_format3 ..)
  case fmovrsz | fmovrdz | fmovrqz | fmovrslez | fmovrdlez | fmovrqlez | fmovrslz | fmovrdlz | fmovrqlz |
      fmovrsnz | fmovrdnz | fmovrqnz | fmovrsgz | fmovrdgz | fmovrqgz | fmovrsgez | fmovrdgez | fmovrqgez =>
    exact (decode_fpop2 fun w h => by rw [decodeFpop2, h]; rfl).trans (decF3_format3 ..)
  case fcmps | fcmpd | fcmpq | fcmpes | fcmped | fcmpeq =>
    exact (decode_fpop2 fun w h => by rw [decodeFpop2, h]; rfl).trans (decFcmp_format3 ..)
  case fmovsicc | fmovdicc | fmovqicc | fmovsxcc | fmovdxcc | fmovqxcc =>
    exact (decode_fpop2 fun w h => by rw [decodeFpop2, h]; rfl).trans (decFmovIcc_format3 ..)
  case edge8cc | edge8n | edge8lcc | edge8ln | edge16cc | edge16n | edge16lcc | edge16ln | edge32cc | edge32n |
      edge32lcc | edge32ln | array8 | array16 | array32 | alignaddress | bmask | alignaddressLittle | fcmple16 |
      fcmpne16 | fcmple32 | fcmpne32 | fcmpgt16 | fcmpeq16 | fcmpgt32 | fcmpeq32 | fmul8x16 | fmul8x16au |
      fmul8x16al | fmul8sux16 | fmul8ulx16 | fmuld8sux16 | fmuld8ulx16 | fpack32 | pdist | faligndata |
      fpmerge | bshuffle | fpadd16 | fpadd16s | fpadd32 | fpadd32s | fpsub16 | fpsub16s | fpsub32 | fpsub32s |
      fnord | fnors | fandnot2d | fandnot2s | fandnot1d | fandnot1s | fxord | fxors | fnandd | fnands | fandd |
      fands | fxnord | fxnors | fornot2d | fornot2s | fornot1d | fornot1s | ford | fors =>
    exact (decode_vis fun w h => by rw [decodeVis, h]; rfl).trans (decF3_format3 ..)
  case fpack16 | fpackfix | fexpand | fnot2d | fnot2s | fsrc2d | fsrc2s =>
    exact (decode_vis fun w h => by rw [decodeVis, h]; rfl).trans (decF2_format3 ..)
  case fzerod | fzeros | foned | fones =>
    exact (decode_vis fun w h => by rw [decodeVis, h]; rfl).trans (decF0_format3 ..)
  case fnot1d | fnot1s | fsrc1d | fsrc1s =>
    exact (decode_vis fun w h => by rw [decodeVis, h]; rfl).trans (decF1_format3 ..)
  case fmadds | fmaddd | fmsubs | fmsubd | fnmsubs | fnmsubd | fnmadds | fnmaddd =>
    exact (decode_fma fun w h => by rw [decodeFma, h]; rfl).trans (decFma_format3 ..)
  case add | and | or | xor | sub | andn | orn | xnor | addc | mulx | umul | smul | subc | udivx | udiv | sdiv |
      addcc | andcc | orcc | xorcc | subcc | andncc | orncc | xnorcc | addccc | umulcc | smulcc | subccc |
      udivcc | sdivcc | taddcc | tsubcc | taddcctv | tsubcctv | mulscc | sdivx | jmpl | save | restore =>
    exact (decode_arith fun w h => by rw [decodeArith, h]; rfl).trans (decAlu_format3 ..)
  case sll | srl | sra =>
    exact (decode_arith fun w h => by rw [decodeArith, h]; rfl).trans (decShift_shift32 ..)
  case sllx | srlx | srax =>
    exact (decode_arith fun w h => by rw [decodeArith, h]; rfl).trans (decShift_shift64 ..)
  case ldfsr | ldxfsr =>
    exact (decode_ldfsr fun w h => by rw [decodeLdfsr, h]; rfl).trans (decAddr_format3 ..)
  case stfsr | stxfsr =>
    exact (decode_stfsr fun w h => by rw [decodeStfsr, h]; rfl).trans (decAddr_format3 ..)
  case lduw | ldub | lduh | stw | stb | sth | ldsw | ldsb | ldsh | ldx | ldstub | stx | swap | ldf | ldqf |
      lddf | stf | stqf | stdf =>
    exact (decode_mem fun w h => by rw [decodeMem, h]; rfl).trans (decAlu_format3 ..)
  case lduwa | lduba | lduha | stwa | stba | stha | ldswa | ldsba | ldsha | ldxa | ldstuba | stxa | swapa |
      ldfa | ldqfa | stfa | stqfa =>
    exact (decode_mem fun w h => by rw [decodeMem, h]; rfl).trans (decAlt_format3 ..)
  case casa | casxa =>
    exact (decode_mem fun w h => by rw [decodeMem, h]; rfl).trans (decCas_format3 ..)
  case ldtw | sttw =>
    exact (decode_mem (d := fun w => requireEven (fieldRd w) (decAlu _ w)) fun w h => by rw [decodeMem, h]; rfl).trans
      ((requireEven_format3 _ _ _ _ hwf _).trans (decAlu_format3 ..))
  case sttwa =>
    exact (decode_mem (d := fun w => requireEven (fieldRd w) (decAlt _ w)) fun w h => by rw [decodeMem, h]; rfl).trans
      ((requireEven_format3 _ _ _ _ hwf _).trans (decAlt_format3 ..))
  case ldtwa =>
    obtain ⟨heven, hasi⟩ := Bool.and_eq_true_iff.1 hwf
    exact (decode_mem fun w h => by rw [decodeMem, h]; rfl).trans (decodeLdtwa_ldtwa _ _ _ _ heven hasi)
  case ldtxa =>
    obtain ⟨heven, hasi⟩ := Bool.and_eq_true_iff.1 hwf
    exact (decode_mem fun w h => by rw [decodeMem, h]; rfl).trans (decodeLdtwa_ldtxa _ _ _ _ heven hasi)
  case prefetch => exact (decode_mem fun w h => by rw [decodeMem, h]; rfl).trans (decodePrefetch_format3 _ _ _ _ hwf)
  case prefetcha => exact (decode_mem fun w h => by rw [decodeMem, h]; rfl).trans (decodePrefetcha_format3 _ _ _ _ hwf)
  case lddfa => exact (decode_mem fun w h => by rw [decodeMem, h]; rfl).trans (decodeLddfa_lddfa _ _ _ _ hwf)
  case ldblockf => exact (decode_mem fun w h => by rw [decodeMem, h]; rfl).trans (decodeLddfa_ldblockf _ _ _ _ hwf)
  case ldshortf => exact (decode_mem fun w h => by rw [decodeMem, h]; rfl).trans (decodeLddfa_ldshortf _ _ _ _ hwf)
  case stdfa => exact (decode_mem fun w h => by rw [decodeMem, h]; rfl).trans (decodeStdfa_stdfa _ _ _ _ hwf)
  case stblockf => exact (decode_mem fun w h => by rw [decodeMem, h]; rfl).trans (decodeStdfa_stblockf _ _ _ _ hwf)
  case stshortf => exact (decode_mem fun w h => by rw [decodeMem, h]; rfl).trans (decodeStdfa_stshortf _ _ _ _ hwf)
  case stpartialf => exact (decode_mem fun w h => by rw [decodeMem, h]; rfl).trans (decodeStdfa_stpartialf _ _ _ _ hwf)
  case return_ | flush =>
    exact (decode_arith (d := fun w => requireZero (fieldRd w == 0#5) (decAddr _ w)) fun w h => by
      rw [decodeArith, h]; rfl).trans (decAddr_rdZero ..)
  case popc => exact (decode_arith fun w h => by rw [decodeArith, h]; rfl).trans (decodePopc_format3 ..)
  case membar => exact (decode_rdasr fun w h => by rw [decodeRdasr, h]; rfl).trans (decodeMembar_format3 ..)
  case flushw => exact (decode_arith fun w h => by rw [decodeArith, h]; rfl).trans (decodeFlushw_format3 ..)
  case siam => exact (decode_vis fun w h => by rw [decodeVis, h]; rfl).trans (decodeSiam_format3 ..)
  case call disp30 => exact decode_format1 disp30
  case nop => rfl
  case sethi rd imm22 =>
    exact (decode_format2 fun w h => by rw [decodeFormat2, h]; rfl).trans
      (decodeSethi_format2 _ (sethi_wellFormed_iff.1 hwf))
  case illtrap ignored const22 =>
    exact (decode_format2 (d := fun w => .ok (.illtrap (fieldRd w) (fieldLow22 w))) fun w h => by
      rw [decodeFormat2, h]; rfl).trans (by rw [fieldRd_format2, fieldLow22_format2])
  case fmovsfcc rd fcc cond rs2 | fmovdfcc rd fcc cond rs2 | fmovqfcc rd fcc cond rs2 =>
    rcases fcc_cases fcc with rfl | rfl | rfl | rfl
    all_goals exact (decode_fpop2 fun w h => by rw [decodeFpop2, h]; rfl).trans (decFmovFcc_format3 ..)

/-! ### Words of R385 -/

theorem decode_of_encode {i : Instr} {w : Word32} (hwf : i.wellFormed = true) (h : encode i = w) : decode w = .ok i :=
  h ▸ encodeDecode i hwf

/-- Settles O60: each word is the encoding of its instruction, so it decodes to it. -/
theorem decodeWords : Obligations.DecodeWords := by
  unfold Obligations.DecodeWords
  and_intros
  all_goals exact decode_of_encode rfl rfl

/-! ### Words put together again from their fields -/

/-- Two adjacent fields are one. -/
theorem extract_append {w : Nat} (x : BitVec w) (s a b : Nat) :
    x.extractLsb' (s + a) b ++ x.extractLsb' s a = x.extractLsb' s (b + a) :=
  BitVec.extractLsb'_append_extractLsb'_eq_extractLsb' rfl

/-- A word is its two fields. -/
theorem extract_append₂ (a b : Nat) (x : BitVec (b + a)) : x.extractLsb' a b ++ x.extractLsb' 0 a = x := by
  have e := extract_append x 0 a b
  rw [Nat.zero_add, BitVec.extractLsb'_eq_self] at e
  exact e

/-- A word of three fields. -/
theorem extract_append₃ (a b c : Nat) (x : BitVec (c + b + a)) :
    x.extractLsb' (a + b) c ++ x.extractLsb' a b ++ x.extractLsb' 0 a = x := by
  rw [extract_append, extract_append₂]

/-- A word of four fields. -/
theorem extract_append₄ (a b c d : Nat) (x : BitVec (d + c + b + a)) :
    x.extractLsb' (a + b + c) d ++ x.extractLsb' (a + b) c ++ x.extractLsb' a b ++ x.extractLsb' 0 a = x := by
  rw [extract_append, extract_append₃]

/-- A word of five fields. -/
theorem extract_append₅ (a b c d e : Nat) (x : BitVec (e + d + c + b + a)) :
    x.extractLsb' (a + b + c + d) e ++ x.extractLsb' (a + b + c) d ++ x.extractLsb' (a + b) c ++ x.extractLsb' a b
      ++ x.extractLsb' 0 a = x := by
  rw [extract_append, extract_append₄]

/-- One bit as a field. -/
theorem bit_getLsbD {w : Nat} (x : BitVec w) (k : Nat) : bit (x.getLsbD k) = x.extractLsb' k 1 := by
  ext i hi
  obtain rfl : i = 0 := by omega
  simp [bit]

theorem format3_fields (w : Word32) :
    format3 (fieldOp w) (fieldRd w) (fieldOp3 w) (fieldRs1 w) (fieldLow w) = w :=
  extract_append₅ 14 5 6 5 2 w

theorem format2_fields {w : Word32} (h : fieldOp w = 0#2) : format2 (fieldRd w) (fieldOp2 w) (fieldLow22 w) = w := by
  rw [format2, ← h]
  exact extract_append₄ 22 3 5 2 w

theorem format1_fields {w : Word32} (h : fieldOp w = 1#2) : format1 (fieldDisp30 w) = w := by
  rw [format1, ← h]
  exact extract_append₂ 30 2 w

theorem topBranch_fields (x : BitVec 5) : topBranch (x.getLsbD 4) (x.extractLsb' 0 4) = x := by
  rw [topBranch, bit_getLsbD]
  exact extract_append₂ 4 1 x

theorem low22Pred_fields (x : BitVec 22) :
    low22Pred (x.extractLsb' 20 2) (x.getLsbD 19) (x.extractLsb' 0 19) = x := by
  rw [low22Pred, bit_getLsbD]
  exact extract_append₃ 19 1 2 x

theorem low22Bpr_fields (x : BitVec 22) :
    low22Bpr (x.extractLsb' 20 2 ++ x.extractLsb' 0 14) (x.getLsbD 19) (x.extractLsb' 14 5) = x := by
  rw [low22Bpr, bit_getLsbD, extract_low, extract_high]
  exact extract_append₄ 14 5 1 2 x

theorem lowFpop_fields (l : BitVec 14) : lowFpop (lowOpf l) (lowRs2 l) = l := extract_append₂ 5 9 l

theorem lowFma_fields (l : BitVec 14) : lowFma (lowRs3 l) (lowOp5 l) (lowRs2 l) = l := extract_append₃ 5 4 5 l

/-! ### Operands: read, then written again -/

/-- A one-bit field that is not 1 is 0. -/
theorem bit_eq_zero {x : BitVec 1} (h : ¬x = 1#1) : x = 0#1 := (BitVec.eq_zero_or_eq_one x).resolve_right h

theorem lowRegImm13_of_read {l : BitVec 14} {o : RegOrImm 13} (h : readRegImm13 l = some o) : lowRegImm13 o = l := by
  unfold readRegImm13 at h
  split at h
  next hi =>
    cases h
    rw [lowRegImm13, ← hi]
    exact extract_append₂ 13 1 l
  next hi =>
    split at h
    next hz =>
      cases h
      have e := extract_append₃ 5 8 1 l
      rw [bit_eq_zero hi, hz] at e
      exact e
    next => cases h

theorem lowShift32_of_read {l : BitVec 14} {o : RegOrImm 5} (hx : ¬l.extractLsb' 12 1 = 1#1)
    (h : readShift32 l = some o) : lowShift32 o = l := by
  have e := extract_append₄ 5 7 1 1 l
  unfold readShift32 at h
  split at h
  next hz =>
    split at h
    next hi =>
      cases h
      rw [hi, bit_eq_zero hx, hz] at e
      exact e
    next hi =>
      cases h
      rw [bit_eq_zero hi, bit_eq_zero hx, hz] at e
      exact e
  next => cases h

theorem lowShift64_of_read {l : BitVec 14} {o : RegOrImm 6} (hx : l.extractLsb' 12 1 = 1#1)
    (h : readShift64 l = some o) : lowShift64 o = l := by
  unfold readShift64 at h
  split at h
  next hi =>
    split at h
    next hz =>
      cases h
      have e := extract_append₄ 6 6 1 1 l
      rw [hi, hx, hz] at e
      exact e
    next => cases h
  next hi =>
    split at h
    next hz =>
      cases h
      have e := extract_append₄ 5 7 1 1 l
      rw [bit_eq_zero hi, hx, hz] at e
      exact e
    next => cases h

theorem lowAsi_readAsi (l : BitVec 14) : lowAsi (readAsi l) = l := by
  unfold readAsi
  split
  next hi =>
    rw [lowAsi, ← hi]
    exact extract_append₂ 13 1 l
  next hi =>
    rw [lowAsi, ← bit_eq_zero hi]
    exact extract_append₃ 5 8 1 l

theorem lowCas_of_read {l : BitVec 14} {o : CasAsi} (h : readCas l = some o) : lowCas (lowRs2 l) o = l := by
  have e := extract_append₃ 5 8 1 l
  unfold readCas at h
  split at h
  next hi =>
    split at h
    next hz =>
      cases h
      rw [hi, hz] at e
      exact e
    next => cases h
  next hi =>
    cases h
    rw [bit_eq_zero hi] at e
    exact e

theorem lowMovcc_of_read {l : BitVec 14} {o : RegOrImm 11} (h : readMovcc l = some o) : lowMovcc (lowCc l) o = l := by
  unfold readMovcc at h
  split at h
  next hi =>
    cases h
    rw [lowMovcc, ← hi]
    exact extract_append₃ 11 2 1 l
  next hi =>
    split at h
    next hz =>
      cases h
      rw [lowMovcc, ← bit_eq_zero hi, ← hz]
      exact extract_append₄ 5 6 2 1 l
    next => cases h

theorem lowMovr_of_read {l : BitVec 14} {o : RegOrImm 10} (h : readMovr l = some o) : lowMovr (lowRcond l) o = l := by
  unfold readMovr at h
  split at h
  next hi =>
    cases h
    rw [lowMovr, ← hi]
    exact extract_append₃ 10 3 1 l
  next hi =>
    split at h
    next hz =>
      cases h
      rw [lowMovr, ← bit_eq_zero hi, ← hz]
      exact extract_append₄ 5 5 3 1 l
    next => cases h

theorem lowTcc_of_read {l : BitVec 14} {o : RegOrImm 8} (h : readTcc l = some o) : lowTcc (lowCc l) o = l := by
  unfold readTcc at h
  split at h
  next hi =>
    split at h
    next hz =>
      cases h
      rw [lowTcc, ← hi, ← hz]
      exact extract_append₄ 8 3 2 1 l
    next => cases h
  next hi =>
    split at h
    next hz =>
      cases h
      rw [lowTcc, ← bit_eq_zero hi, ← hz]
      exact extract_append₄ 5 6 2 1 l
    next => cases h

theorem bits_of_readIntCc {c : BitVec 2} {cc : IntCc} (h : readIntCc c = some cc) : cc.bits = c := by
  unfold readIntCc at h
  split at h
  next hc => cases h; exact hc.symm
  next =>
    split at h
    next hc => cases h; exact hc.symm
    next => cases h

/-! ### A decoding whose instruction has the word decoded -/

/-- The instruction stands for the word: it is well formed, and the word is its encoding. -/
def WordOf (i : Instr) (w : Word32) : Prop := i.wellFormed = true ∧ encode i = w

/-- What the decoding gives, where it gives an instruction, stands for `w`. -/
def EncodesTo (w : Word32) (d : Decoded) : Prop := ∀ i, d = .ok i → WordOf i w

theorem encodesTo_ok {w : Word32} {i : Instr} (h : WordOf i w) : EncodesTo w (.ok i) := by
  rintro _ ⟨⟩; exact h

theorem encodesTo_error (w : Word32) (r : DecodeReject) : EncodesTo w (.error r) := by
  intro i h; cases h

theorem encodesTo_readOr {w : Word32} {α : Type} {o : Option α} {k : α → Instr}
    (h : ∀ v, o = some v → WordOf (k v) w) : EncodesTo w (readOr o k) := by
  cases o with
  | none => exact encodesTo_error w _
  | some v => exact encodesTo_ok (h v rfl)

theorem encodesTo_requireZero {w : Word32} {b : Bool} {d : Decoded} (h : b = true → EncodesTo w d) :
    EncodesTo w (requireZero b d) := by
  cases b with
  | false => exact encodesTo_error w _
  | true => exact h rfl

theorem encodesTo_requireEven {w : Word32} {rd : RegNum} {d : Decoded}
    (h : evenRegister rd = true → EncodesTo w d) : EncodesTo w (requireEven rd d) := by
  unfold requireEven
  split
  next he => exact h he
  next => exact encodesTo_error w _

/-! ### The forms: a word decoded, then written again -/

/-- A field read as a number is that number's bit vector. -/
theorem field_eq {n m : Nat} {x : BitVec n} (h : x.toNat = m) : x = BitVec.ofNat n m := by
  rw [← h, BitVec.ofNat_toNat, BitVec.setWidth_eq]

theorem format3_eq {w : Word32} {op : BitVec 2} {op3 : BitVec 6} (hop : fieldOp w = op) (hop3 : fieldOp3 w = op3) :
    format3 op (fieldRd w) op3 (fieldRs1 w) (fieldLow w) = w := by
  rw [← hop, ← hop3, format3_fields]

theorem format2_eq {w : Word32} {op2 : BitVec 3} (hop : fieldOp w = 0#2) (hop2 : fieldOp2 w = op2) :
    format2 (fieldRd w) op2 (fieldLow22 w) = w := by
  rw [← hop2, format2_fields hop]

/-- `rs1` of FMOVcc: the reserved bit 18 over `cond`. -/
theorem cond_of_reserved {w : Word32} (h : ((fieldRs1 w).extractLsb' 4 1 == 0#1) = true) :
    0#1 ++ (fieldRs1 w).extractLsb' 0 4 = fieldRs1 w := by
  rw [← beq_iff_eq.1 h]; exact extract_append₂ 4 1 (fieldRs1 w)

section
variable {w : Word32} {op : BitVec 2} {op3 : BitVec 6}
  (hw : format3 op (fieldRd w) op3 (fieldRs1 w) (fieldLow w) = w)
include hw

theorem encodesTo_decAlu {k : RegNum → RegNum → RegOrImm 13 → Instr}
    (hk : ∀ o, WordOf (k (fieldRd w) (fieldRs1 w) o) (format3 op (fieldRd w) op3 (fieldRs1 w) (lowRegImm13 o))) :
    EncodesTo w (decAlu k w) :=
  encodesTo_readOr fun o ho => by simpa only [lowRegImm13_of_read ho, hw] using hk o

theorem encodesTo_decAddr {k : RegNum → RegOrImm 13 → Instr} {rd : RegNum} (hrd : fieldRd w = rd)
    (hk : ∀ o, WordOf (k (fieldRs1 w) o) (format3 op rd op3 (fieldRs1 w) (lowRegImm13 o))) :
    EncodesTo w (decAddr k w) :=
  encodesTo_readOr fun o ho => by simpa only [lowRegImm13_of_read ho, ← hrd, hw] using hk o

theorem encodesTo_decShift {k32 : RegNum → RegNum → RegOrImm 5 → Instr}
    {k64 : RegNum → RegNum → RegOrImm 6 → Instr}
    (h32 : ∀ o, WordOf (k32 (fieldRd w) (fieldRs1 w) o) (format3 op (fieldRd w) op3 (fieldRs1 w) (lowShift32 o)))
    (h64 : ∀ o, WordOf (k64 (fieldRd w) (fieldRs1 w) o) (format3 op (fieldRd w) op3 (fieldRs1 w) (lowShift64 o))) :
    EncodesTo w (decShift k32 k64 w) := by
  unfold decShift
  split
  next hx => exact encodesTo_readOr fun o ho => by simpa only [lowShift64_of_read hx ho, hw] using h64 o
  next hx => exact encodesTo_readOr fun o ho => by simpa only [lowShift32_of_read hx ho, hw] using h32 o

theorem encodesTo_decAlt {k : RegNum → RegNum → AsiOperand → Instr}
    (hk : WordOf (k (fieldRd w) (fieldRs1 w) (readAsi (fieldLow w)))
      (format3 op (fieldRd w) op3 (fieldRs1 w) (lowAsi (readAsi (fieldLow w))))) :
    EncodesTo w (decAlt k w) :=
  encodesTo_ok (by simpa only [lowAsi_readAsi, hw] using hk)

theorem encodesTo_decCas {k : RegNum → RegNum → RegNum → CasAsi → Instr}
    (hk : ∀ o, WordOf (k (fieldRd w) (fieldRs1 w) (lowRs2 (fieldLow w)) o)
      (format3 op (fieldRd w) op3 (fieldRs1 w) (lowCas (lowRs2 (fieldLow w)) o))) :
    EncodesTo w (decCas k w) :=
  encodesTo_readOr fun o ho => by simpa only [lowCas_of_read ho, hw] using hk o

theorem encodesTo_decRd {k : RegNum → Instr} {rs1 : RegNum} (hrs1 : fieldRs1 w = rs1)
    (hk : WordOf (k (fieldRd w)) (format3 op (fieldRd w) op3 rs1 0#14)) : EncodesTo w (decRd k w) :=
  encodesTo_requireZero fun hz => encodesTo_ok (by rwa [← beq_iff_eq.1 hz, ← hrs1, hw] at hk)

theorem encodesTo_decFull {i : Instr} {rd : RegNum} (hrd : fieldRd w = rd)
    (hk : WordOf i (format3 op rd op3 0#5 0#14)) : EncodesTo w (decFull i w) :=
  encodesTo_requireZero fun hz => encodesTo_ok (by
    obtain ⟨hrs1, hlow⟩ := Bool.and_eq_true_iff.1 hz
    rwa [← beq_iff_eq.1 hrs1, ← beq_iff_eq.1 hlow, ← hrd, hw] at hk)

theorem encodesTo_decMovIcc {k : RegNum → IntCc → RegOrImm 11 → Instr} {rs1 : RegNum} (hrs1 : fieldRs1 w = rs1)
    (hk : ∀ cc o, WordOf (k (fieldRd w) cc o) (format3 op (fieldRd w) op3 rs1 (lowMovcc cc.bits o))) :
    EncodesTo w (decMovIcc k w) := by
  unfold decMovIcc
  split
  next cc hcc =>
    exact encodesTo_readOr fun o ho => by
      simpa only [bits_of_readIntCc hcc, lowMovcc_of_read ho, ← hrs1, hw] using hk cc o
  next => exact encodesTo_error w _

theorem encodesTo_decMovFcc {k : RegNum → FccNum → RegOrImm 11 → Instr} {rs1 : RegNum} (hrs1 : fieldRs1 w = rs1)
    (hk : ∀ fcc o, WordOf (k (fieldRd w) fcc o) (format3 op (fieldRd w) op3 rs1 (lowMovcc fcc o))) :
    EncodesTo w (decMovFcc k w) :=
  encodesTo_readOr fun o ho => by simpa only [lowMovcc_of_read ho, ← hrs1, hw] using hk (lowCc (fieldLow w)) o

theorem encodesTo_decMovr {k : RegNum → RegNum → RegOrImm 10 → Instr} {rcond : BitVec 3}
    (hrcond : lowRcond (fieldLow w) = rcond)
    (hk : ∀ o, WordOf (k (fieldRd w) (fieldRs1 w) o) (format3 op (fieldRd w) op3 (fieldRs1 w) (lowMovr rcond o))) :
    EncodesTo w (decMovr k w) :=
  encodesTo_readOr fun o ho => by simpa only [← hrcond, lowMovr_of_read ho, hw] using hk o

theorem encodesTo_decTcc {k : RegNum → IntCc → RegOrImm 8 → Instr} {rd : RegNum} (hrd : fieldRd w = rd)
    (hk : ∀ cc o, WordOf (k (fieldRs1 w) cc o) (format3 op rd op3 (fieldRs1 w) (lowTcc cc.bits o))) :
    EncodesTo w (decTcc k w) := by
  unfold decTcc
  split
  next cc hcc =>
    exact encodesTo_readOr fun o ho => by
      simpa only [bits_of_readIntCc hcc, lowTcc_of_read ho, ← hrd, hw] using hk cc o
  next => exact encodesTo_error w _

theorem encodesTo_decFma {k : RegNum → RegNum → RegNum → RegNum → Instr} {op5 : BitVec 4}
    (hop5 : lowOp5 (fieldLow w) = op5)
    (hk : ∀ rs3 rs2, WordOf (k (fieldRd w) (fieldRs1 w) rs3 rs2)
      (format3 op (fieldRd w) op3 (fieldRs1 w) (lowFma rs3 op5 rs2))) :
    EncodesTo w (decFma k w) :=
  encodesTo_ok (by simpa only [← hop5, lowFma_fields, hw] using hk (lowRs3 (fieldLow w)) (lowRs2 (fieldLow w)))

/-! #### F register operations: `opf` is part of the opcode -/

variable {opf : BitVec 9} (hopf : lowOpf (fieldLow w) = opf)
include hopf

/-- The word by its `opf` and `rs2`. -/
theorem format3_fpop : format3 op (fieldRd w) op3 (fieldRs1 w) (lowFpop opf (lowRs2 (fieldLow w))) = w := by
  rw [← hopf, lowFpop_fields, hw]

theorem encodesTo_decF3 {k : RegNum → RegNum → RegNum → Instr}
    (hk : ∀ rs2, WordOf (k (fieldRd w) (fieldRs1 w) rs2)
      (format3 op (fieldRd w) op3 (fieldRs1 w) (lowFpop opf rs2))) :
    EncodesTo w (decF3 k w) :=
  encodesTo_ok (by simpa only [format3_fpop hw hopf] using hk (lowRs2 (fieldLow w)))

theorem encodesTo_decF2 {k : RegNum → RegNum → Instr}
    (hk : ∀ rs2, WordOf (k (fieldRd w) rs2) (format3 op (fieldRd w) op3 0#5 (lowFpop opf rs2))) :
    EncodesTo w (decF2 k w) :=
  encodesTo_requireZero fun hz => encodesTo_ok (by
    simpa only [← beq_iff_eq.1 hz, format3_fpop hw hopf] using hk (lowRs2 (fieldLow w)))

theorem encodesTo_decF1 {k : RegNum → RegNum → Instr}
    (hk : WordOf (k (fieldRd w) (fieldRs1 w)) (format3 op (fieldRd w) op3 (fieldRs1 w) (lowFpop opf 0#5))) :
    EncodesTo w (decF1 k w) :=
  encodesTo_requireZero fun hz => encodesTo_ok (by rwa [← beq_iff_eq.1 hz, format3_fpop hw hopf] at hk)

theorem encodesTo_decF0 {k : RegNum → Instr}
    (hk : WordOf (k (fieldRd w)) (format3 op (fieldRd w) op3 0#5 (lowFpop opf 0#5))) : EncodesTo w (decF0 k w) :=
  encodesTo_requireZero fun hz => encodesTo_ok (by
    obtain ⟨hrs1, hrs2⟩ := Bool.and_eq_true_iff.1 hz
    have e := format3_fpop hw hopf
    rw [beq_iff_eq.1 hrs1, beq_iff_eq.1 hrs2] at e
    rwa [e] at hk)

theorem encodesTo_decFcmp {k : FccNum → RegNum → RegNum → Instr}
    (hk : ∀ fcc rs2, WordOf (k fcc (fieldRs1 w) rs2)
      (format3 op (0#3 ++ fcc) op3 (fieldRs1 w) (lowFpop opf rs2))) :
    EncodesTo w (decFcmp k w) :=
  encodesTo_requireZero fun hz => encodesTo_ok (by
    have e : 0#3 ++ (fieldRd w).extractLsb' 0 2 = fieldRd w := by
      rw [← beq_iff_eq.1 hz]; exact extract_append₂ 2 3 (fieldRd w)
    simpa only [e, format3_fpop hw hopf] using hk ((fieldRd w).extractLsb' 0 2) (lowRs2 (fieldLow w)))

theorem encodesTo_decFmovIcc {k : RegNum → BitVec 4 → RegNum → Instr}
    (hk : ∀ cond rs2, WordOf (k (fieldRd w) cond rs2) (format3 op (fieldRd w) op3 (0#1 ++ cond) (lowFpop opf rs2))) :
    EncodesTo w (decFmovIcc k w) :=
  encodesTo_requireZero fun hz => encodesTo_ok (by
    simpa only [cond_of_reserved hz, format3_fpop hw hopf] using
      hk ((fieldRs1 w).extractLsb' 0 4) (lowRs2 (fieldLow w)))

theorem encodesTo_decFmovFcc {k : RegNum → FccNum → BitVec 4 → RegNum → Instr} {fcc : FccNum}
    (hk : ∀ cond rs2, WordOf (k (fieldRd w) fcc cond rs2)
      (format3 op (fieldRd w) op3 (0#1 ++ cond) (lowFpop opf rs2))) :
    EncodesTo w (decFmovFcc k fcc w) :=
  encodesTo_requireZero fun hz => encodesTo_ok (by
    simpa only [cond_of_reserved hz, format3_fpop hw hopf] using
      hk ((fieldRs1 w).extractLsb' 0 4) (lowRs2 (fieldLow w)))

end

/-! #### Branches -/

section
variable {w : Word32} {op2 : BitVec 3} {cond : BitVec 4} (hw : format2 (fieldRd w) op2 (fieldLow22 w) = w)
  (hcond : (fieldRd w).extractLsb' 0 4 = cond)
include hw hcond

/-- The word by its annul bit and `cond`. -/
theorem format2_branch : format2 (topBranch ((fieldRd w).getLsbD 4) cond) op2 (fieldLow22 w) = w := by
  rw [← hcond, topBranch_fields, hw]

theorem encodesTo_decBranch {k : Bool → BitVec 22 → Instr}
    (hk : ∀ a disp22, WordOf (k a disp22) (format2 (topBranch a cond) op2 disp22)) :
    EncodesTo w (decBranch k w) :=
  encodesTo_ok (by simpa only [format2_branch hw hcond] using hk ((fieldRd w).getLsbD 4) (fieldLow22 w))

theorem encodesTo_decBpcc {k : Bool → IntCc → Bool → BitVec 19 → Instr}
    (hk : ∀ a cc p disp19, WordOf (k a cc p disp19) (format2 (topBranch a cond) op2 (low22Pred cc.bits p disp19))) :
    EncodesTo w (decBpcc k w) :=
  encodesTo_readOr fun cc hcc => by
    simpa only [bits_of_readIntCc hcc, low22Pred_fields, format2_branch hw hcond] using
      hk ((fieldRd w).getLsbD 4) cc ((fieldLow22 w).getLsbD 19) ((fieldLow22 w).extractLsb' 0 19)

theorem encodesTo_decFbp {k : Bool → FccNum → Bool → BitVec 19 → Instr}
    (hk : ∀ a fcc p disp19, WordOf (k a fcc p disp19) (format2 (topBranch a cond) op2 (low22Pred fcc p disp19))) :
    EncodesTo w (decFbp k w) :=
  encodesTo_ok (by
    simpa only [low22Pred_fields, format2_branch hw hcond] using
      hk ((fieldRd w).getLsbD 4) ((fieldLow22 w).extractLsb' 20 2) ((fieldLow22 w).getLsbD 19)
        ((fieldLow22 w).extractLsb' 0 19))

theorem encodesTo_decBpr {k : Bool → BitVec 16 → Bool → RegNum → Instr}
    (hk : ∀ a d16 p rs1, WordOf (k a d16 p rs1) (format2 (topBranch a cond) op2 (low22Bpr d16 p rs1))) :
    EncodesTo w (decBpr k w) :=
  encodesTo_ok (by
    simpa only [low22Bpr_fields, format2_branch hw hcond] using
      hk ((fieldRd w).getLsbD 4) ((fieldLow22 w).extractLsb' 20 2 ++ (fieldLow22 w).extractLsb' 0 14)
        ((fieldLow22 w).getLsbD 19) ((fieldLow22 w).extractLsb' 14 5))

end

section
variable {w : Word32}

/-! #### The forms of one opcode each -/

theorem encodesTo_decodeSethi (hw : format2 (fieldRd w) 4#3 (fieldLow22 w) = w) : EncodesTo w (decodeSethi w) := by
  unfold decodeSethi
  split
  next hz =>
    obtain ⟨hrd, hlow⟩ := hz
    rw [hrd, hlow] at hw
    exact encodesTo_ok ⟨rfl, hw⟩
  next hz => exact encodesTo_ok ⟨sethi_wellFormed_iff.2 hz, hw⟩

section
variable {op : BitVec 2} {op3 : BitVec 6} (hw : format3 op (fieldRd w) op3 (fieldRs1 w) (fieldLow w) = w)
include hw

theorem encodesTo_decAddr_rdZero {k : RegNum → RegOrImm 13 → Instr}
    (hk : ∀ o, WordOf (k (fieldRs1 w) o) (format3 op 0#5 op3 (fieldRs1 w) (lowRegImm13 o))) :
    EncodesTo w (requireZero (fieldRd w == 0#5) (decAddr k w)) :=
  encodesTo_requireZero fun hz => encodesTo_decAddr hw (beq_iff_eq.1 hz) hk

theorem encodesTo_decAlu_even {k : RegNum → RegNum → RegOrImm 13 → Instr}
    (hk : ∀ o, (k (fieldRd w) (fieldRs1 w) o).wellFormed = evenRegister (fieldRd w)
      ∧ encode (k (fieldRd w) (fieldRs1 w) o) = format3 op (fieldRd w) op3 (fieldRs1 w) (lowRegImm13 o)) :
    EncodesTo w (requireEven (fieldRd w) (decAlu k w)) :=
  encodesTo_requireEven fun he => encodesTo_decAlu hw fun o => ⟨(hk o).1.trans he, (hk o).2⟩

theorem encodesTo_decAlt_even {k : RegNum → RegNum → AsiOperand → Instr}
    (hk : ∀ o, (k (fieldRd w) (fieldRs1 w) o).wellFormed = evenRegister (fieldRd w)
      ∧ encode (k (fieldRd w) (fieldRs1 w) o) = format3 op (fieldRd w) op3 (fieldRs1 w) (lowAsi o)) :
    EncodesTo w (requireEven (fieldRd w) (decAlt k w)) :=
  encodesTo_requireEven fun he => encodesTo_decAlt hw ⟨(hk _).1.trans he, (hk _).2⟩

/-- The word by its ASI operand. -/
theorem format3_asi {src : AsiOperand} (h : readAsi (fieldLow w) = src) :
    format3 op (fieldRd w) op3 (fieldRs1 w) (lowAsi src) = w := by
  rw [← h, lowAsi_readAsi, hw]

end

theorem encodesTo_decodePopc (hw : format3 2#2 (fieldRd w) 0x2E#6 (fieldRs1 w) (fieldLow w) = w) :
    EncodesTo w (decodePopc w) := by
  unfold decodePopc
  split
  next hz =>
    rw [hz] at hw
    exact encodesTo_readOr fun o ho => ⟨rfl, by rw [← lowRegImm13_of_read ho] at hw; exact hw⟩
  next => exact encodesTo_error w _

theorem encodesTo_decodeMembar (hw : format3 2#2 (fieldRd w) 0x28#6 (fieldRs1 w) (fieldLow w) = w)
    (hrs1 : fieldRs1 w = 15#5) : EncodesTo w (decodeMembar w) := by
  unfold decodeMembar
  split
  next hz =>
    obtain ⟨hrd, hi⟩ := hz
    rw [hrd, hrs1, ← extract_append₃ 4 3 7 (fieldLow w), hi] at hw
    exact encodesTo_ok ⟨rfl, hw⟩
  next => exact encodesTo_error w _

theorem encodesTo_decodeFlushw (hw : format3 2#2 (fieldRd w) 0x2B#6 (fieldRs1 w) (fieldLow w) = w) :
    EncodesTo w (decodeFlushw w) :=
  encodesTo_requireZero fun hz => encodesTo_ok (by
    simp only [Bool.and_eq_true, beq_iff_eq] at hz
    obtain ⟨⟨hrd, hrs1⟩, hlow⟩ := hz
    rw [hrd, hrs1, ← extract_append₂ 13 1 (fieldLow w), hlow, ← bit_getLsbD] at hw
    exact ⟨rfl, hw⟩)

theorem encodesTo_decodeSiam (hw : format3 2#2 (fieldRd w) 0x36#6 (fieldRs1 w) (fieldLow w) = w)
    (hopf : lowOpf (fieldLow w) = 0x81#9) : EncodesTo w (decodeSiam w) :=
  encodesTo_requireZero fun hz => encodesTo_ok (by
    simp only [Bool.and_eq_true, beq_iff_eq] at hz
    obtain ⟨⟨hrd, hrs1⟩, hlow⟩ := hz
    have hrs2 : 0#2 ++ (fieldLow w).extractLsb' 0 3 = lowRs2 (fieldLow w) := by
      rw [← hlow, lowRs2]; exact extract_append _ 0 3 2
    have e := format3_fpop hw hopf
    rw [hrd, hrs1, ← hrs2] at e
    exact ⟨rfl, e⟩)

theorem encodesTo_decodePrefetch (hw : format3 3#2 (fieldRd w) 0x2D#6 (fieldRs1 w) (fieldLow w) = w) :
    EncodesTo w (decodePrefetch w) := by
  unfold decodePrefetch
  split
  next hf => exact encodesTo_decAlu hw fun _ => ⟨hf, rfl⟩
  next => exact encodesTo_error w _

theorem encodesTo_decodePrefetcha (hw : format3 3#2 (fieldRd w) 0x3D#6 (fieldRs1 w) (fieldLow w) = w) :
    EncodesTo w (decodePrefetcha w) := by
  unfold decodePrefetcha
  split
  next hf => exact encodesTo_decAlt hw ⟨hf, rfl⟩
  next => exact encodesTo_error w _

/-! #### LDTWA, LDDFA and STDFA: `imm_asi` selects the instruction (20_memory.md R215) -/

theorem encodesTo_decodeLdtwa (hw : format3 3#2 (fieldRd w) 0x13#6 (fieldRs1 w) (fieldLow w) = w) :
    EncodesTo w (decodeLdtwa w) := by
  refine encodesTo_requireEven fun heven => ?_
  split
  next rs2 asi hsrc =>
    have hword := format3_asi hw hsrc
    split
    next htwinx => exact encodesTo_ok ⟨Bool.and_eq_true_iff.2 ⟨heven, htwinx⟩, hword⟩
    next htwinx =>
      exact encodesTo_ok ⟨Bool.and_eq_true_iff.2 ⟨heven, by simp [AsiOperand.immAsiIs, htwinx]⟩, hword⟩
  next v hsrc => exact encodesTo_ok ⟨Bool.and_eq_true_iff.2 ⟨heven, rfl⟩, format3_asi hw hsrc⟩

theorem encodesTo_decodeLddfa (hw : format3 3#2 (fieldRd w) 0x33#6 (fieldRs1 w) (fieldLow w) = w) :
    EncodesTo w (decodeLddfa w) := by
  unfold decodeLddfa
  split
  next rs2 asi hsrc =>
    have hword := format3_asi hw hsrc
    split
    next hblock => exact encodesTo_ok ⟨hblock, hword⟩
    next hblock =>
      split
      next hshort => exact encodesTo_ok ⟨hshort, hword⟩
      next hshort =>
        have hasi : (!isBlockAsi asi && !isShortAsi asi) = true := by simp [hblock, hshort]
        exact encodesTo_ok ⟨hasi, hword⟩
  next v hsrc => exact encodesTo_ok ⟨rfl, format3_asi hw hsrc⟩

theorem encodesTo_decodeStdfa (hw : format3 3#2 (fieldRd w) 0x37#6 (fieldRs1 w) (fieldLow w) = w) :
    EncodesTo w (decodeStdfa w) := by
  unfold decodeStdfa
  split
  next rs2 asi hsrc =>
    have hword := format3_asi hw hsrc
    split
    next hblock => exact encodesTo_ok ⟨hblock, hword⟩
    next hblock =>
      split
      next hshort => exact encodesTo_ok ⟨hshort, hword⟩
      next hshort =>
        split
        next hpartial => exact encodesTo_ok ⟨hpartial, hword⟩
        next hpartial =>
          have hasi : (!isBlockStoreAsi asi && !isShortAsi asi && !isPartialAsi asi) = true := by
            simp [hblock, hshort, hpartial]
          exact encodesTo_ok ⟨hasi, hword⟩
  next v hsrc => exact encodesTo_ok ⟨rfl, format3_asi hw hsrc⟩

/-! ### The tables: what each entry gives stands for the word

`split` numbers the entries `h_1`, `h_2`, … in the order of the table; its last one is what no entry matches. -/

theorem encodesTo_decodeBicc (hw : format2 (fieldRd w) 2#3 (fieldLow22 w) = w) : EncodesTo w (decodeBicc w) := by
  unfold decodeBicc
  split
  case h_17 => exact encodesTo_error w _
  all_goals next h => exact encodesTo_decBranch hw (field_eq h) fun _ _ => ⟨rfl, rfl⟩

theorem encodesTo_decodeFbfcc (hw : format2 (fieldRd w) 6#3 (fieldLow22 w) = w) : EncodesTo w (decodeFbfcc w) := by
  unfold decodeFbfcc
  split
  case h_17 => exact encodesTo_error w _
  all_goals next h => exact encodesTo_decBranch hw (field_eq h) fun _ _ => ⟨rfl, rfl⟩

theorem encodesTo_decodeBpcc (hw : format2 (fieldRd w) 1#3 (fieldLow22 w) = w) : EncodesTo w (decodeBpcc w) := by
  unfold decodeBpcc
  split
  case h_17 => exact encodesTo_error w _
  all_goals next h => exact encodesTo_decBpcc hw (field_eq h) fun _ _ _ _ => ⟨rfl, rfl⟩

theorem encodesTo_decodeFbpfcc (hw : format2 (fieldRd w) 5#3 (fieldLow22 w) = w) : EncodesTo w (decodeFbpfcc w) := by
  unfold decodeFbpfcc
  split
  case h_17 => exact encodesTo_error w _
  all_goals next h => exact encodesTo_decFbp hw (field_eq h) fun _ _ _ _ => ⟨rfl, rfl⟩

theorem encodesTo_decodeBpr (hw : format2 (fieldRd w) 3#3 (fieldLow22 w) = w) : EncodesTo w (decodeBpr w) := by
  unfold decodeBpr
  split
  case h_7 => exact encodesTo_error w _
  all_goals next h => exact encodesTo_decBpr hw (field_eq h) fun _ _ _ _ => ⟨rfl, rfl⟩

theorem encodesTo_decodeMovcc (hw : format3 2#2 (fieldRd w) 0x2C#6 (fieldRs1 w) (fieldLow w) = w) :
    EncodesTo w (decodeMovcc w) := by
  unfold decodeMovcc
  split
  case h_33 => exact encodesTo_error w _
  case h_1 | h_2 | h_3 | h_4 | h_5 | h_6 | h_7 | h_8 | h_9 | h_10 | h_11 | h_12 | h_13 | h_14 | h_15 | h_16 =>
    next h => exact encodesTo_decMovFcc hw (field_eq h) fun _ _ => ⟨rfl, rfl⟩
  all_goals next h => exact encodesTo_decMovIcc hw (field_eq h) fun _ _ => ⟨rfl, rfl⟩

theorem encodesTo_decodeMovr (hw : format3 2#2 (fieldRd w) 0x2F#6 (fieldRs1 w) (fieldLow w) = w) :
    EncodesTo w (decodeMovr w) := by
  unfold decodeMovr
  split
  case h_7 => exact encodesTo_error w _
  all_goals next h => exact encodesTo_decMovr hw (field_eq h) fun _ => ⟨rfl, rfl⟩

theorem encodesTo_decodeTcc (hw : format3 2#2 (fieldRd w) 0x3A#6 (fieldRs1 w) (fieldLow w) = w) :
    EncodesTo w (decodeTcc w) := by
  unfold decodeTcc
  split
  case h_17 => exact encodesTo_error w _
  all_goals next h => exact encodesTo_decTcc hw (field_eq h) fun _ _ => ⟨rfl, rfl⟩

theorem encodesTo_decodeRdasr (hw : format3 2#2 (fieldRd w) 0x28#6 (fieldRs1 w) (fieldLow w) = w) :
    EncodesTo w (decodeRdasr w) := by
  unfold decodeRdasr
  split
  case h_13 => exact encodesTo_error w _
  case h_7 h => exact encodesTo_decodeMembar hw (field_eq h)
  all_goals next h => exact encodesTo_decRd hw (field_eq h) ⟨rfl, rfl⟩

theorem encodesTo_decodeWrasr (hw : format3 2#2 (fieldRd w) 0x30#6 (fieldRs1 w) (fieldLow w) = w) :
    EncodesTo w (decodeWrasr w) := by
  unfold decodeWrasr
  split
  case h_11 => exact encodesTo_error w _
  all_goals next h => exact encodesTo_decAddr hw (field_eq h) fun _ => ⟨rfl, rfl⟩

theorem encodesTo_decodeRdpr (hw : format3 2#2 (fieldRd w) 0x2A#6 (fieldRs1 w) (fieldLow w) = w) :
    EncodesTo w (decodeRdpr w) := by
  unfold decodeRdpr
  split
  case h_17 => exact encodesTo_error w _
  all_goals next h => exact encodesTo_decRd hw (field_eq h) ⟨rfl, rfl⟩

theorem encodesTo_decodeWrpr (hw : format3 2#2 (fieldRd w) 0x32#6 (fieldRs1 w) (fieldLow w) = w) :
    EncodesTo w (decodeWrpr w) := by
  unfold decodeWrpr
  split
  case h_16 => exact encodesTo_error w _
  all_goals next h => exact encodesTo_decAddr hw (field_eq h) fun _ => ⟨rfl, rfl⟩

theorem encodesTo_decodeSaved (hw : format3 2#2 (fieldRd w) 0x31#6 (fieldRs1 w) (fieldLow w) = w) :
    EncodesTo w (decodeSaved w) := by
  unfold decodeSaved
  split
  case h_7 => exact encodesTo_error w _
  all_goals next h => exact encodesTo_decFull hw (field_eq h) ⟨rfl, rfl⟩

theorem encodesTo_decodeDone (hw : format3 2#2 (fieldRd w) 0x3E#6 (fieldRs1 w) (fieldLow w) = w) :
    EncodesTo w (decodeDone w) := by
  unfold decodeDone
  split
  case h_3 => exact encodesTo_error w _
  all_goals next h => exact encodesTo_decFull hw (field_eq h) ⟨rfl, rfl⟩

theorem encodesTo_decodeFpop1 (hw : format3 2#2 (fieldRd w) 0x34#6 (fieldRs1 w) (fieldLow w) = w) :
    EncodesTo w (decodeFpop1 w) := by
  unfold decodeFpop1
  split
  case h_45 => exact encodesTo_error w _
  case h_13 | h_14 | h_15 | h_16 | h_17 | h_18 | h_19 | h_20 | h_21 | h_22 | h_23 | h_24 | h_25 | h_26 =>
    next h => exact encodesTo_decF3 hw (field_eq h) fun _ => ⟨rfl, rfl⟩
  all_goals next h => exact encodesTo_decF2 hw (field_eq h) fun _ => ⟨rfl, rfl⟩

theorem encodesTo_decodeFpop2 (hw : format3 2#2 (fieldRd w) 0x35#6 (fieldRs1 w) (fieldLow w) = w) :
    EncodesTo w (decodeFpop2 w) := by
  unfold decodeFpop2
  split
  case h_43 => exact encodesTo_error w _
  case h_13 | h_14 | h_15 | h_16 | h_17 | h_18 =>
    next h => exact encodesTo_decFcmp hw (field_eq h) fun _ _ => ⟨rfl, rfl⟩
  case h_37 | h_38 | h_39 | h_40 | h_41 | h_42 =>
    next h => exact encodesTo_decFmovIcc hw (field_eq h) fun _ _ => ⟨rfl, rfl⟩
  case h_1 | h_2 | h_3 | h_7 | h_8 | h_9 | h_22 | h_23 | h_24 | h_28 | h_29 | h_30 =>
    next h => exact encodesTo_decFmovFcc hw (field_eq h) fun _ _ => ⟨rfl, rfl⟩
  all_goals next h => exact encodesTo_decF3 hw (field_eq h) fun _ => ⟨rfl, rfl⟩

theorem encodesTo_decodeVis (hw : format3 2#2 (fieldRd w) 0x36#6 (fieldRs1 w) (fieldLow w) = w) :
    EncodesTo w (decodeVis w) := by
  unfold decodeVis
  split
  case h_83 => exact encodesTo_error w _
  case h_82 h => exact encodesTo_decodeSiam hw (field_eq h)
  case h_50 | h_51 | h_80 | h_81 =>
    next h => exact encodesTo_decF0 hw (field_eq h) ⟨rfl, rfl⟩
  case h_60 | h_61 | h_70 | h_71 =>
    next h => exact encodesTo_decF1 hw (field_eq h) ⟨rfl, rfl⟩
  case h_35 | h_36 | h_41 | h_56 | h_57 | h_74 | h_75 =>
    next h => exact encodesTo_decF2 hw (field_eq h) fun _ => ⟨rfl, rfl⟩
  all_goals next h => exact encodesTo_decF3 hw (field_eq h) fun _ => ⟨rfl, rfl⟩

theorem encodesTo_decodeFma (hw : format3 2#2 (fieldRd w) 0x37#6 (fieldRs1 w) (fieldLow w) = w) :
    EncodesTo w (decodeFma w) := by
  unfold decodeFma
  split
  case h_9 => exact encodesTo_error w _
  all_goals next h => exact encodesTo_decFma hw (field_eq h) fun _ _ => ⟨rfl, rfl⟩

theorem encodesTo_decodeLdfsr (hw : format3 3#2 (fieldRd w) 0x21#6 (fieldRs1 w) (fieldLow w) = w) :
    EncodesTo w (decodeLdfsr w) := by
  unfold decodeLdfsr
  split
  case h_3 => exact encodesTo_error w _
  all_goals next h => exact encodesTo_decAddr hw (field_eq h) fun _ => ⟨rfl, rfl⟩

theorem encodesTo_decodeStfsr (hw : format3 3#2 (fieldRd w) 0x25#6 (fieldRs1 w) (fieldLow w) = w) :
    EncodesTo w (decodeStfsr w) := by
  unfold decodeStfsr
  split
  case h_3 => exact encodesTo_error w _
  all_goals next h => exact encodesTo_decAddr hw (field_eq h) fun _ => ⟨rfl, rfl⟩

/-! ### The decoder -/

theorem encodesTo_decodeFormat2 (hop : fieldOp w = 0#2) : EncodesTo w (decodeFormat2 w) := by
  unfold decodeFormat2
  split
  case h_8 => exact encodesTo_error w _
  case h_1 h => exact encodesTo_ok ⟨rfl, format2_eq hop (field_eq h)⟩
  case h_2 h => exact encodesTo_decodeBpcc (format2_eq hop (field_eq h))
  case h_3 h => exact encodesTo_decodeBicc (format2_eq hop (field_eq h))
  case h_4 h => exact encodesTo_decodeBpr (format2_eq hop (field_eq h))
  case h_5 h => exact encodesTo_decodeSethi (format2_eq hop (field_eq h))
  case h_6 h => exact encodesTo_decodeFbpfcc (format2_eq hop (field_eq h))
  case h_7 h => exact encodesTo_decodeFbfcc (format2_eq hop (field_eq h))

theorem encodesTo_decodeArith (hop : fieldOp w = 2#2) : EncodesTo w (decodeArith w) := by
  unfold decodeArith
  split
  case h_60 => exact encodesTo_error w _
  case h_39 h => exact encodesTo_decodeRdasr (format3_eq hop (field_eq h))
  case h_40 h => exact encodesTo_decodeRdpr (format3_eq hop (field_eq h))
  case h_41 h => exact encodesTo_decodeFlushw (format3_eq hop (field_eq h))
  case h_42 h => exact encodesTo_decodeMovcc (format3_eq hop (field_eq h))
  case h_44 h => exact encodesTo_decodePopc (format3_eq hop (field_eq h))
  case h_45 h => exact encodesTo_decodeMovr (format3_eq hop (field_eq h))
  case h_46 h => exact encodesTo_decodeWrasr (format3_eq hop (field_eq h))
  case h_47 h => exact encodesTo_decodeSaved (format3_eq hop (field_eq h))
  case h_48 h => exact encodesTo_decodeWrpr (format3_eq hop (field_eq h))
  case h_49 h => exact encodesTo_decodeFpop1 (format3_eq hop (field_eq h))
  case h_50 h => exact encodesTo_decodeFpop2 (format3_eq hop (field_eq h))
  case h_51 h => exact encodesTo_decodeVis (format3_eq hop (field_eq h))
  case h_52 h => exact encodesTo_decodeFma (format3_eq hop (field_eq h))
  case h_55 h => exact encodesTo_decodeTcc (format3_eq hop (field_eq h))
  case h_59 h => exact encodesTo_decodeDone (format3_eq hop (field_eq h))
  case h_54 | h_56 =>
    next h => exact encodesTo_decAddr_rdZero (format3_eq hop (field_eq h)) fun _ => ⟨rfl, rfl⟩
  case h_36 | h_37 | h_38 =>
    next h => exact encodesTo_decShift (format3_eq hop (field_eq h)) (fun _ => ⟨rfl, rfl⟩) fun _ => ⟨rfl, rfl⟩
  all_goals next h => exact encodesTo_decAlu (format3_eq hop (field_eq h)) fun _ => ⟨rfl, rfl⟩

theorem encodesTo_decodeMem (hop : fieldOp w = 3#2) : EncodesTo w (decodeMem w) := by
  unfold decodeMem
  split
  case h_49 => exact encodesTo_error w _
  case h_19 h => exact encodesTo_decodeLdtwa (format3_eq hop (field_eq h))
  case h_23 h => exact encodesTo_decAlt_even (format3_eq hop (field_eq h)) fun _ => ⟨rfl, rfl⟩
  case h_32 h => exact encodesTo_decodeLdfsr (format3_eq hop (field_eq h))
  case h_36 h => exact encodesTo_decodeStfsr (format3_eq hop (field_eq h))
  case h_39 h => exact encodesTo_decodePrefetch (format3_eq hop (field_eq h))
  case h_42 h => exact encodesTo_decodeLddfa (format3_eq hop (field_eq h))
  case h_45 h => exact encodesTo_decodeStdfa (format3_eq hop (field_eq h))
  case h_47 h => exact encodesTo_decodePrefetcha (format3_eq hop (field_eq h))
  case h_4 | h_8 =>
    next h => exact encodesTo_decAlu_even (format3_eq hop (field_eq h)) fun _ => ⟨rfl, rfl⟩
  case h_46 | h_48 =>
    next h => exact encodesTo_decCas (format3_eq hop (field_eq h)) fun _ => ⟨rfl, rfl⟩
  case h_16 | h_17 | h_18 | h_20 | h_21 | h_22 | h_24 | h_25 | h_26 | h_27 | h_28 | h_29 | h_30 | h_40 | h_41 |
      h_43 | h_44 =>
    next h => exact encodesTo_decAlt (format3_eq hop (field_eq h)) ⟨rfl, rfl⟩
  all_goals next h => exact encodesTo_decAlu (format3_eq hop (field_eq h)) fun _ => ⟨rfl, rfl⟩

end

theorem encodesTo_decode (w : Word32) : EncodesTo w (decode w) := by
  unfold decode
  split
  case h_1 h => exact encodesTo_decodeFormat2 (field_eq h)
  case h_2 h => exact encodesTo_ok ⟨rfl, format1_fields (field_eq h)⟩
  case h_3 h => exact encodesTo_decodeArith (field_eq h)
  case h_4 h0 h1 h2 =>
    have h3 : (fieldOp w).toNat = 3 := by
      have hlt : (fieldOp w).toNat < 4 := (fieldOp w).isLt
      grind
    exact encodesTo_decodeMem (field_eq h3)

/-- Settles O59: each table hands the word to the entry its field selects, and that entry's form puts it together again. -/
theorem decodeEncode : Obligations.DecodeEncode := fun w i h => encodesTo_decode w i h

end Sys2Proof

/-! SUPPORT. Condition codes: the eight bits of CCR, in numbers (40_integer.md R401 to R403). -/

namespace Sys2Proof.Machine

open Sys2Proof.Claims

/-- CCR is its two groups, code by code. -/
theorem mkCcr_eq_append (n z v c n' z' v' c' : Bool) : mkCcr (nzvc n z v c) (nzvc n' z' v' c')
    = bit n ++ bit z ++ bit v ++ bit c ++ bit n' ++ bit z' ++ bit v' ++ bit c' := by
  revert n z v c n' z' v' c'
  decide

/-- The place of each code in CCR. -/
theorem mkCcr_bits (n z v c n' z' v' c' : Bool) :
    let cc := mkCcr (nzvc n z v c) (nzvc n' z' v' c')
    cc.getLsbD 7 = n ∧ cc.getLsbD 6 = z ∧ cc.getLsbD 5 = v ∧ cc.getLsbD 4 = c
      ∧ cc.getLsbD 3 = n' ∧ cc.getLsbD 2 = z' ∧ cc.getLsbD 1 = v' ∧ cc.getLsbD 0 = c' := by
  revert n z v c n' z' v' c'
  decide

section
variable {w : Nat} {a b : BitVec w} {cin : Bool} {r : Nat}

theorem msb_eq_testBit_toNat (x : BitVec w) : x.msb = x.toNat.testBit (w - 1) := by
  rw [BitVec.msb_eq_getLsbD_last, BitVec.testBit_toNat]

theorem beq_zero_eq_toNat (x : BitVec w) : (x == 0) = decide (x.toNat = 0) := by
  rw [Bool.eq_iff_iff, beq_iff_eq, decide_eq_true_iff, ← BitVec.toNat_inj, BitVec.ofNat_eq_ofNat, BitVec.toNat_zero]

theorem addCodes_of_toNat (h : (a + b + BitVec.ofNat w cin.toNat).toNat = r) :
    addCodes a b cin = nzvc (r.testBit (w - 1)) (decide (r = 0)) (a.msb == b.msb && r.testBit (w - 1) != a.msb)
      (decide (2 ^ w ≤ a.toNat + b.toNat + cin.toNat)) := by
  simp only [addCodes, msb_eq_testBit_toNat (a + b + _), beq_zero_eq_toNat, h]

theorem subCodes_of_toNat (h : (a - b - BitVec.ofNat w cin.toNat).toNat = r) :
    subCodes a b cin = nzvc (r.testBit (w - 1)) (decide (r = 0)) (a.msb != b.msb && r.testBit (w - 1) != a.msb)
      (decide (a.toNat < b.toNat + cin.toNat)) := by
  simp only [subCodes, msb_eq_testBit_toNat (a - b - _), beq_zero_eq_toNat, h]

end

theorem msb_extended (a : Word64) : a.msb = a.getLsbD 63 := BitVec.msb_eq_getLsbD_last a

theorem msb_low_word (a : Word64) : (a.setWidth 32).msb = a.getLsbD 31 := by
  simp [BitVec.msb_eq_getLsbD_last]

theorem testBit_31_mod (r : Nat) : (r % 2 ^ 32).testBit 31 = r.testBit 31 := by
  rw [Nat.testBit_mod_two_pow]
  rfl

/-- The sum at 64 bits, and at 32. -/
theorem toNat_sum (a b : Word64) (cin : Bool) :
    (a + b + BitVec.ofNat 64 cin.toNat).toNat = (a.toNat + b.toNat + cin.toNat) % 2 ^ 64
      ∧ (a.setWidth 32 + b.setWidth 32 + BitVec.ofNat 32 cin.toNat).toNat
        = (a.toNat + b.toNat + cin.toNat) % 2 ^ 64 % 2 ^ 32 := by
  simp

/-- The difference at 64 bits, and at 32. -/
theorem toNat_difference (a b : Word64) (cin : Bool) :
    (a - b - BitVec.ofNat 64 cin.toNat).toNat = (a.toNat + (2 ^ 65 - b.toNat - cin.toNat)) % 2 ^ 64
      ∧ (a.setWidth 32 - b.setWidth 32 - BitVec.ofNat 32 cin.toNat).toNat
        = (a.toNat + (2 ^ 65 - b.toNat - cin.toNat)) % 2 ^ 64 % 2 ^ 32 := by
  have hc : cin.toNat ≤ 1 := cin.toNat_le
  simp only [BitVec.toNat_sub, BitVec.toNat_ofNat, BitVec.toNat_setWidth]
  omega

/-- Settles O4: each half of CCR holds the codes at its width, whose numbers are those of the sum or difference at 64 bits. -/
theorem conditionCodeValues : Obligations.ConditionCodeValues := by
  refine ⟨fun a b cin => ?add, fun a b cin => ?sub, fun r => ?logic⟩
  case add =>
    obtain ⟨h64, h32⟩ := toNat_sum a b cin
    have hcc : ccAdd a b cin = mkCcr _ _ := congrArg₂ mkCcr (addCodes_of_toNat h64) (addCodes_of_toNat h32)
    simp only [Nat.reduceSub, msb_extended, msb_low_word, BitVec.toNat_setWidth, testBit_31_mod] at hcc
    rw [hcc]
    exact mkCcr_bits ..
  case sub =>
    obtain ⟨h64, h32⟩ := toNat_difference a b cin
    have hcc : ccSub a b cin = mkCcr _ _ := congrArg₂ mkCcr (subCodes_of_toNat h64) (subCodes_of_toNat h32)
    simp only [Nat.reduceSub, msb_extended, msb_low_word, BitVec.toNat_setWidth, testBit_31_mod] at hcc
    rw [hcc]
    exact mkCcr_bits ..
  case logic =>
    have hcc : ccLogic r = mkCcr (nzvc (r.getLsbD 63) (decide (r = 0)) false false)
        (nzvc (r.getLsbD 31) (decide (r.toNat % 2 ^ 32 = 0)) false false) := by
      rw [ccLogic, logicCodes, logicCodes, msb_low_word, beq_zero_eq_toNat (r.setWidth 32), BitVec.toNat_setWidth,
        msb_extended]
      rfl
    rw [hcc]
    exact mkCcr_bits ..

end Sys2Proof.Machine

/-! SUPPORT. Integer instructions: each comes down to a write of `R[rd]`, of CCR and of Y, or to a trap, and its value is the one its rule gives (40_integer.md R404 to R458). -/

namespace Sys2Proof.Machine

open Sys2Proof.Claims

/-! ### The end of an instruction, and its operands -/

/-- An instruction that comes down to writing `R[rd]` in `base` gives that register, its other effects those of `base`. -/
theorem givesR_of_base {i : Instr} {s base : State} {rd : RegNum} {v : Word64} (h : exec i s = finishReg base rd v)
    (hn : base.npc = s.npc) : GivesR i s base rd v :=
  ⟨_, h, writesR_advance base rd v, by simp [hn], by simp [hn]⟩

/-- A raised exception of column P is a trap (60_exceptions.md R1570, R1600). -/
theorem traps_of_raise {i : Instr} {s : State} {e : Exception} (h : exec i s = raise s e) (he : e.toPrivileged = true) :
    Traps i s s e.tt :=
  fun htl => h.trans (raise_eq_next_iff.2 ⟨he, htl, rfl⟩)

theorem carryIn_eq (s : State) : carryIn s = if s.ccr.getLsbD 0 then 1 else 0 := by
  unfold carryIn iccC
  cases s.ccr.getLsbD 0 <;> rfl

/-! ### Hints (40_integer.md R457; 42_load_store.md R870, R871, R880, R885) -/

theorem prefetchFcnDefined_of_not_reserved {fcn : BitVec 5} (h : ¬(5 ≤ fcn.toNat ∧ fcn.toNat ≤ 15)) :
    prefetchFcnDefined fcn = true := by
  simpa [prefetchFcnDefined, or_iff_not_imp_left] using h

/-- Settles O31: each is `advance` as its definition stands, PREFETCH and PREFETCHA behind the check of `fcn`. -/
theorem hintInstructions : Obligations.HintInstructions := by
  refine fun s => ⟨rfl, fun _ _ => rfl, fun _ _ => rfl, fun fcn rs1 op2 h => ?prefetch,
    fun fcn rs1 src h => ?prefetcha⟩
  case prefetch | prefetcha => exact if_pos (prefetchFcnDefined_of_not_reserved h)

/-! ### Results (40_integer.md R404 to R458) -/

theorem exec_of_aluTable (s : State) (rd rs1 : RegNum) (op2 : RegOrImm 13) : ∀ e ∈ aluTable,
    exec (e.1 rd rs1 op2) s = finishReg s rd (e.2 (readReg s rs1) (operand2 s op2) (carryIn s)) := by
  simp only [aluTable, List.forall_mem_cons]
  exact ⟨rfl, rfl, rfl, rfl, rfl, rfl, rfl, rfl, rfl, rfl, rfl, nofun⟩

/-- SETHI's value: the immediate with ten zeros below it (40_integer.md R456). -/
theorem sethi_value (imm22 : BitVec 22) : (0#32 ++ imm22 ++ 0#10 : Word64) = BitVec.ofNat 64 (imm22.toNat * 2 ^ 10) := by
  have h := imm22.isLt
  apply BitVec.eq_of_toNat_eq
  rw [BitVec.toNat_append (0#32 ++ imm22) 0#10, BitVec.toNat_append]
  simp only [BitVec.toNat_ofNat, Nat.zero_mod, Nat.zero_mul, Nat.zero_or, Nat.or_zero, Nat.shiftLeft_eq]
  omega

theorem onesBelow_eq_countP (v : Word64) (n : Nat) : onesBelow v n = (List.range n).countP fun i => v.getLsbD i := by
  induction n with
  | zero => rfl
  | succ n ih => cases h : v.getLsbD n <;> simp [onesBelow, List.range_succ, ih, h]

/-- Settles O6: every form ends in one write of `R[rd]`; SETHI and POPC by their values. -/
theorem integerResults : Obligations.IntegerResults := by
  refine ⟨fun e he s rd rs1 op2 => ?alu, fun s rd imm22 => ?sethi, fun s rd op2 => ?popc⟩
  case alu =>
    rw [← operand2_eq_second, ← carryIn_eq]
    exact givesR_of_finishReg (exec_of_aluTable s rd rs1 op2 e he)
  case sethi =>
    rw [← sethi_value]
    exact givesR_of_finishReg rfl
  case popc =>
    rw [← operand2_eq_second, ← onesBelow_eq_countP]
    exact givesR_of_finishReg rfl

/-! ### Shifts (40_integer.md R432 to R438) -/

theorem toNat_shiftCount32 (s : State) (c : RegOrImm 5) : (shiftCount32 s c).toNat = count s c 32 := by
  cases c <;> simp [shiftCount32, count]

theorem toNat_shiftCount64 (s : State) (c : RegOrImm 6) : (shiftCount64 s c).toNat = count s c 64 := by
  cases c <;> simp [shiftCount64, count]

theorem shiftLeft_eq_ofNat {w : Nat} (x : BitVec w) (n : Nat) : x <<< n = BitVec.ofNat w (x.toNat * 2 ^ n) :=
  BitVec.eq_of_toNat_eq (by simp [Nat.shiftLeft_eq])

/-- A logical shift to the right, zero-extended. -/
theorem setWidth_shiftRight_eq_ofNat {w v : Nat} (x : BitVec w) (n : Nat) :
    (x >>> n).setWidth v = BitVec.ofNat v (x.toNat / 2 ^ n) :=
  BitVec.eq_of_toNat_eq (by simp [Nat.shiftRight_eq_div_pow])

/-- An arithmetic shift to the right, sign-extended. -/
theorem signExtend_sshiftRight_eq_ofInt {w v : Nat} (x : BitVec w) (n : Nat) :
    (x.sshiftRight n).signExtend v = BitVec.ofInt v (x.toInt / 2 ^ n) := by
  rw [BitVec.signExtend, BitVec.toInt_sshiftRight, Int.shiftRight_eq_div_pow]
  norm_cast

/-- Settles O7: each shift is one write of `R[rd]`, its value by the rule of its direction. -/
theorem shiftResults : Obligations.ShiftResults := by
  refine ⟨fun s rd rs1 c => ?word, fun s rd rs1 c => ?extended⟩
  case word =>
    rw [← toNat_shiftCount32, ← shiftLeft_eq_ofNat, ← BitVec.toNat_setWidth, ← setWidth_shiftRight_eq_ofNat,
      ← signExtend_sshiftRight_eq_ofInt]
    exact ⟨givesR_of_finishReg rfl, givesR_of_finishReg rfl, givesR_of_finishReg rfl⟩
  case extended =>
    rw [← toNat_shiftCount64, ← shiftLeft_eq_ofNat, ← setWidth_shiftRight_eq_ofNat, ← signExtend_sshiftRight_eq_ofInt,
      BitVec.setWidth_eq, BitVec.signExtend_eq]
    exact ⟨givesR_of_finishReg rfl, givesR_of_finishReg rfl, givesR_of_finishReg rfl⟩

/-! ### Results and condition codes (40_integer.md R405 to R431) -/

theorem exec_of_aluCcTable (s : State) (rd rs1 : RegNum) (op2 : RegOrImm 13) : ∀ e ∈ aluCcTable,
    exec (e.1 rd rs1 op2) s = finishCc s rd (e.2.1 (readReg s rs1) (operand2 s op2) (iccC s))
      (e.2.2 (readReg s rs1) (operand2 s op2) (iccC s)) := by
  simp only [aluCcTable, List.forall_mem_cons]
  exact ⟨rfl, rfl, rfl, rfl, rfl, rfl, rfl, rfl, rfl, rfl, nofun⟩

/-- Settles O8: every form ends in one write of CCR and `R[rd]`. -/
theorem integerCcResults : Obligations.IntegerCcResults := by
  intro e he s rd rs1 op2
  rw [← operand2_eq_second]
  exact givesR_of_base (exec_of_aluCcTable s rd rs1 op2 e he) rfl

/-! ### Multiplication (40_integer.md R442 to R445) -/

theorem umulProduct_eq (a b : Word64) : umulProduct a b = BitVec.ofNat 64 (a.toNat % 2 ^ 32 * (b.toNat % 2 ^ 32)) :=
  BitVec.eq_of_toNat_eq (by simp [umulProduct])

theorem smulProduct_eq (a b : Word64) :
    smulProduct a b = BitVec.ofInt 64 ((a.setWidth 32).toInt * (b.setWidth 32).toInt) :=
  (BitVec.ofInt_mul _ _).symm

theorem high_word_ofNat (u : Nat) : (BitVec.ofNat 64 u).extractLsb' 32 32 = BitVec.ofNat 32 (u / 2 ^ 32) := by
  apply BitVec.eq_of_toNat_eq
  rw [BitVec.extractLsb'_toNat, BitVec.toNat_ofNat, BitVec.toNat_ofNat, Nat.shiftRight_eq_div_pow]
  omega

/-! ### One step of a multiplication (40_integer.md R450) -/

/-- A word shifted to the right by one place, `b` coming in at the top. -/
theorem toNat_shift_in (b : Bool) (x : Word32) :
    (bit b ++ x.extractLsb' 1 31 : Word32).toNat = (if b then 2 ^ 31 else 0) + x.toNat / 2 := by
  have hx := x.isLt
  rw [BitVec.toNat_append, BitVec.extractLsb'_toNat, Nat.shiftRight_eq_div_pow, Nat.mod_eq_of_lt (by omega),
    ← Nat.shiftLeft_add_eq_or_of_lt (by omega)]
  cases b <;> rfl

/-- The first addend of MULScc: the low word of `R[rs1]`, shifted to the right, with `icc.n xor icc.v` at the top. -/
def mulsccShifted (s : State) (a : Word64) : Word32 :=
  bit (s.ccr.getLsbD 3 ^^ s.ccr.getLsbD 1) ++ (a.setWidth 32).extractLsb' 1 31

/-- The second addend of MULScc: the low word of the second operand, or 0, by the lowest bit of Y. -/
def mulsccAddend (s : State) (b : Word64) : Word32 := if s.y.getLsbD 0 then b.setWidth 32 else 0

theorem toNat_mulsccShifted (s : State) (a : Word64) : (mulsccShifted s a).toNat
    = (if s.ccr.getLsbD 3 != s.ccr.getLsbD 1 then 2 ^ 31 else 0) + a.toNat % 2 ^ 32 / 2 := by
  rw [mulsccShifted, toNat_shift_in, BitVec.toNat_setWidth]

theorem toNat_mulsccAddend (s : State) (b : Word64) :
    (mulsccAddend s b).toNat = if s.y.getLsbD 0 then b.toNat % 2 ^ 32 else 0 := by
  unfold mulsccAddend
  split <;> simp

/-- The step takes the lowest bit of `R[rs1]` into Y. -/
theorem mulscc_y (a : Word64) (y : Word32) :
    ((a.setWidth 32).extractLsb' 0 1 ++ y.extractLsb' 1 31 : Word32)
      = BitVec.ofNat 32 ((if a.getLsbD 0 then 2 ^ 31 else 0) + y.toNat / 2) := by
  have h : (a.setWidth 32).getLsbD 0 = a.getLsbD 0 := by simp
  rw [← bit_getLsbD, h, ← toNat_shift_in, BitVec.ofNat_toNat, BitVec.setWidth_eq]

section
variable (x y : Word32)

theorem toNat_carry : (decide (2 ^ 32 ≤ x.toNat + y.toNat)).toNat = (x.toNat + y.toNat) / 2 ^ 32 := by
  by_cases h : 2 ^ 32 ≤ x.toNat + y.toNat
  · rw [decide_eq_true h, Bool.toNat_true]
    omega
  · rw [decide_eq_false h, Bool.toNat_false]
    omega

/-- The carry of a sum of two words, and the sum, are the sum without bound. -/
theorem carry_append_sum :
    (0#31 ++ (addCodes x y false).extractLsb' 0 1 ++ (x + y) : Word64) = BitVec.ofNat 64 (x.toNat + y.toNat) := by
  have hc : (addCodes x y false).extractLsb' 0 1 = bit (decide (2 ^ 32 ≤ x.toNat + y.toNat)) := extract_low _ _
  apply BitVec.eq_of_toNat_eq
  rw [hc, BitVec.toNat_append (0#31 ++ _), BitVec.toNat_append, ← Nat.shiftLeft_add_eq_or_of_lt (x + y).isLt,
    BitVec.toNat_add, bit, BitVec.toNat_ofBool, toNat_carry]
  simp only [BitVec.toNat_ofNat, Nat.zero_mod, Nat.zero_mul, Nat.zero_or, Nat.shiftLeft_eq]
  omega

/-- The carry of a sum of two words is bit 32 of the sum without bound. -/
theorem testBit_32_sum : (x.toNat + y.toNat).testBit 32 = decide (2 ^ 32 ≤ x.toNat + y.toNat) := by
  rw [Nat.testBit_eq_decide_div_mod_eq]
  exact decide_eq_decide.2 (by omega)

/-- CCR after a step: `xcc` but for `z` is clear, `icc` holds the codes of the sum of the two words. -/
theorem mulscc_ccr : mkCcr (nzvc false (BitVec.ofNat 64 (x.toNat + y.toNat) == 0) false false) (addCodes x y false)
    = bit false ++ bit (decide (x.toNat + y.toNat = 0)) ++ bit false ++ bit false
      ++ bit ((x.toNat + y.toNat).testBit 31) ++ bit (decide ((x.toNat + y.toNat) % 2 ^ 32 = 0))
      ++ bit ((x.toNat.testBit 31 == y.toNat.testBit 31) && ((x.toNat + y.toNat).testBit 31 != x.toNat.testBit 31))
      ++ bit ((x.toNat + y.toNat).testBit 32) := by
  have hsum : (x + y + BitVec.ofNat 32 false.toNat).toNat = (x.toNat + y.toNat) % 2 ^ 32 := by simp
  have hz : (BitVec.ofNat 64 (x.toNat + y.toNat) == 0) = decide (x.toNat + y.toNat = 0) := by
    rw [beq_zero_eq_toNat, BitVec.toNat_ofNat, Nat.mod_eq_of_lt (by omega)]
  rw [addCodes_of_toNat hsum, mkCcr_eq_append, hz, testBit_32_sum, testBit_31_mod, msb_eq_testBit_toNat,
    msb_eq_testBit_toNat]
  rfl

end

theorem exec_mulscc (s : State) (rd rs1 : RegNum) (op2 : RegOrImm 13) :
    let x := mulsccShifted s (readReg s rs1)
    let y := mulsccAddend s (operand2 s op2)
    exec (.mulscc rd rs1 op2) s
      = finishCc { s with y := ((readReg s rs1).setWidth 32).extractLsb' 0 1 ++ s.y.extractLsb' 1 31 } rd
        (BitVec.ofNat 64 (x.toNat + y.toNat))
        (mkCcr (nzvc false (BitVec.ofNat 64 (x.toNat + y.toNat) == 0) false false) (addCodes x y false)) := by
  intro x y
  rw [← carry_append_sum]
  rfl

/-- Settles O9: the products are those without bound, their high word goes to Y; the sum of MULScc's two words is the sum without bound, its codes those of 32 bits. -/
theorem multiplyResults : Obligations.MultiplyResults := by
  intro s rd rs1 op2
  rw [← operand2_eq_second]
  dsimp only
  rw [← high_word_ofNat, ← umulProduct_eq, ← smulProduct_eq]
  refine ⟨givesR_of_base rfl rfl, givesR_of_base rfl rfl, givesR_of_base rfl rfl, givesR_of_base rfl rfl, ?mulscc⟩
  rw [← toNat_mulsccShifted, ← toNat_mulsccAddend, ← mulscc_y, ← mulscc_ccr]
  exact givesR_of_base (exec_mulscc s rd rs1 op2) rfl

/-! ### Division (40_integer.md R440, R441, R446 to R449) -/

theorem sdiv_eq_ofInt {w : Nat} (a b : BitVec w) : a.sdiv b = BitVec.ofInt w (a.toInt.tdiv b.toInt) :=
  BitVec.eq_of_toInt_eq (by rw [BitVec.toInt_sdiv, BitVec.toInt_ofInt])

/-- UDIV saturates at the largest word. -/
theorem udivResult_eq (x : Word64) (d : Word32) : udivResult x d
    = (BitVec.ofNat 64 (min (x.toNat / d.toNat) (2 ^ 32 - 1)), decide (2 ^ 32 ≤ x.toNat / d.toNat)) := by
  unfold udivResult
  dsimp only
  split
  next h => rw [Nat.min_eq_right (by omega), decide_eq_true h]; rfl
  next h => rw [Nat.min_eq_left (by omega), decide_eq_false h]

/-- SDIV saturates at the largest and at the smallest signed word. -/
theorem sdivResult_eq (x : Word64) (d : Word32) : sdivResult x d
    = (BitVec.ofInt 64 (max (-2 ^ 31) (min (x.toInt.tdiv d.toInt) (2 ^ 31 - 1))),
      decide (2 ^ 31 ≤ x.toInt.tdiv d.toInt ∨ x.toInt.tdiv d.toInt < -2 ^ 31)) := by
  unfold sdivResult
  dsimp only
  split
  next h => rw [Int.min_eq_right (by omega), decide_eq_true (.inl h)]; rfl
  next hhi =>
    split
    next h => rw [Int.min_eq_left (by omega), Int.max_eq_left (by omega), decide_eq_true (.inr (by omega))]; rfl
    next hlo => rw [Int.min_eq_left (by omega), Int.max_eq_right (by omega), decide_eq_false (by omega)]

section
variable {i : Instr} {s : State} {rd : RegNum} {d : Word32} {result : Word64 × Bool} {setCc : Bool}
  (h : exec i s = divide32 s rd d result setCc)
include h

/-- A 64-by-32-bit divide by a divisor other than 0, Y and the count of free values left open (log 10). -/
theorem givesR_of_divide32 (hd : d ≠ 0) : ∃ y f, GivesR i s
    { s with y := y, freeCount := f, ccr := if setCc then withIccV (ccLogic result.1) result.2 else s.ccr } rd result.1 :=
  ⟨_, _, givesR_of_base (h.trans (if_neg hd)) rfl⟩

theorem traps_of_divide32 (hd : d = 0) : Traps i s s 0x028 :=
  traps_of_raise (e := .divisionByZero) (h.trans (if_pos hd)) rfl

end

/-- Settles O10: by the divisor, each form is the trap or the write of its quotient. -/
theorem divideResults : Obligations.DivideResults := by
  refine ⟨fun s rd rs1 op2 => ?extended, fun s rd rs1 op2 => ?word⟩
  case extended =>
    rw [← operand2_eq_second]
    dsimp only
    rw [← BitVec.udiv_def, ← sdiv_eq_ofInt]
    exact ⟨fun hb => ⟨givesR_of_finishReg (if_neg hb), givesR_of_finishReg (if_neg hb)⟩,
      fun hb => ⟨traps_of_raise (e := .divisionByZero) (if_pos hb) rfl,
        traps_of_raise (e := .divisionByZero) (if_pos hb) rfl⟩⟩
  case word =>
    rw [← operand2_eq_second]
    intro n d u q ur sr
    have hu : udivResult n d = (ur, decide (2 ^ 32 ≤ u)) := udivResult_eq n d
    have hs : sdivResult n d = (sr, decide (2 ^ 31 ≤ q ∨ q < -2 ^ 31)) := sdivResult_eq n d
    have udiv : exec (.udiv rd rs1 op2) s = divide32 s rd d (ur, decide (2 ^ 32 ≤ u)) false := hu ▸ rfl
    have sdiv : exec (.sdiv rd rs1 op2) s = divide32 s rd d (sr, decide (2 ^ 31 ≤ q ∨ q < -2 ^ 31)) false := hs ▸ rfl
    have udivcc : exec (.udivcc rd rs1 op2) s = divide32 s rd d (ur, decide (2 ^ 32 ≤ u)) true := hu ▸ rfl
    have sdivcc : exec (.sdivcc rd rs1 op2) s = divide32 s rd d (sr, decide (2 ^ 31 ≤ q ∨ q < -2 ^ 31)) true := hs ▸ rfl
    exact ⟨fun hd => ⟨givesR_of_divide32 udiv hd, givesR_of_divide32 sdiv hd, givesR_of_divide32 udivcc hd,
        givesR_of_divide32 sdivcc hd⟩,
      fun hd => ⟨traps_of_divide32 udiv hd, traps_of_divide32 sdiv hd, traps_of_divide32 udivcc hd,
        traps_of_divide32 sdivcc hd⟩⟩

/-! ### Tagged arithmetic (40_integer.md R451 to R455) -/

theorem low_bits_bne_zero (x : Word64) : (x.extractLsb' 0 2 != 0) = decide (x.toNat % 4 ≠ 0) := by
  rw [Bool.eq_iff_iff, bne_iff_ne, decide_eq_true_iff, ne_eq, low_bits_eq_zero_iff]

/-- `icc.v` of a sum is its signed overflow at 32 bits. -/
theorem ccAdd_iccV (a b : Word64) : (ccAdd a b false).getLsbD 1 = (a.setWidth 32).saddOverflow (b.setWidth 32) := by
  obtain ⟨-, -, -, -, -, -, hv, -⟩ := mkCcr_bits ..
  refine hv.trans ?_
  rw [BitVec.saddOverflow_eq, Bool.toNat_false, BitVec.add_zero]
  rfl

/-- `icc.v` of a difference is its signed overflow at 32 bits. -/
theorem ccSub_iccV (a b : Word64) : (ccSub a b false).getLsbD 1 = (a.setWidth 32).ssubOverflow (b.setWidth 32) := by
  obtain ⟨-, -, -, -, -, -, hv, -⟩ := mkCcr_bits ..
  have hbits : ∀ x y d : Bool, (x != y && d != x) = (!x && y && d || x && !y && !d) := by decide
  refine hv.trans ?_
  rw [BitVec.ssubOverflow_eq, Bool.toNat_false, BitVec.sub_zero, hbits]

theorem tagOverflowAdd_eq (a b : Word64) :
    let x := (a.setWidth 32).toInt
    let y := (b.setWidth 32).toInt
    tagOverflowAdd a b = decide ((a.toNat % 4 ≠ 0 ∨ b.toNat % 4 ≠ 0) ∨ x + y < -2 ^ 31 ∨ 2 ^ 31 ≤ x + y) := by
  intro x y
  have hv : (ccAdd a b false).getLsbD 1 = decide (x + y < -2 ^ 31 ∨ 2 ^ 31 ≤ x + y) := by
    rw [ccAdd_iccV, Bool.decide_or, Bool.or_comm]
    rfl
  rw [tagOverflowAdd, low_bits_bne_zero, low_bits_bne_zero, hv, ← Bool.decide_or, ← Bool.decide_or]

theorem tagOverflowSub_eq (a b : Word64) :
    let x := (a.setWidth 32).toInt
    let y := (b.setWidth 32).toInt
    tagOverflowSub a b = decide ((a.toNat % 4 ≠ 0 ∨ b.toNat % 4 ≠ 0) ∨ x - y < -2 ^ 31 ∨ 2 ^ 31 ≤ x - y) := by
  intro x y
  have hv : (ccSub a b false).getLsbD 1 = decide (x - y < -2 ^ 31 ∨ 2 ^ 31 ≤ x - y) := by
    rw [ccSub_iccV, Bool.decide_or, Bool.or_comm]
    rfl
  rw [tagOverflowSub, low_bits_bne_zero, low_bits_bne_zero, hv, ← Bool.decide_or, ← Bool.decide_or]

/-- Settles O11: the test of each form is the tag overflow of the sum or of the difference. -/
theorem taggedResults : Obligations.TaggedResults := by
  intro s rd rs1 op2
  rw [← operand2_eq_second]
  intro a b tagged x y addOver subOver
  have ha : tagOverflowAdd a b = decide addOver := tagOverflowAdd_eq a b
  have hs : tagOverflowSub a b = decide subOver := tagOverflowSub_eq a b
  have ha' : tagOverflowAdd a b = true ↔ addOver := by rw [ha, decide_eq_true_iff]
  have hs' : tagOverflowSub a b = true ↔ subOver := by rw [hs, decide_eq_true_iff]
  exact ⟨ha ▸ givesR_of_base rfl rfl, hs ▸ givesR_of_base rfl rfl,
    fun h => givesR_of_base (if_neg (mt ha'.1 h)) rfl,
    fun h => givesR_of_base (if_neg (mt hs'.1 h)) rfl,
    fun h => traps_of_raise (e := .tagOverflow) (if_pos (ha'.2 h)) rfl,
    fun h => traps_of_raise (e := .tagOverflow) (if_pos (hs'.2 h)) rfl⟩

end Sys2Proof.Machine

/-! SUPPORT. Conditional moves: their words, what each runs, and the reserved words (40_integer.md R459 to R498). -/

namespace Sys2Proof.Machine

open Sys2Proof.Claims

/-! ### Conditional moves: what each row of the tables runs (40_integer.md R459, R492) -/

/-- A move where a test holds. -/
theorem moves_of_test {i : Instr} {s : State} {rd : RegNum} {v : Word64} {test : Bool} {p : Prop} [Decidable p]
    (h : exec i s = if test then finishReg s rd v else .next (advance s)) (hp : test = decide p) :
    if p then GivesR i s s rd v else Skips i s := by
  subst hp
  by_cases hd : p
  · rw [if_pos hd]
    exact givesR_of_finishReg (h.trans (if_pos (decide_eq_true hd)))
  · rw [if_neg hd]
    exact h.trans (if_neg (by simpa using hd))

section
variable (s : State) (rd rs1 : RegNum)

theorem exec_of_movIccTable (cc : IntCc) (op2 : RegOrImm 11) : ∀ e ∈ movIccTable,
    exec (e.1 rd cc op2) s = movIcc e.2.1 rd cc op2 s := by
  simp only [movIccTable, List.forall_mem_cons]
  exact ⟨rfl, rfl, rfl, rfl, rfl, rfl, rfl, rfl, rfl, rfl, rfl, rfl, rfl, rfl, rfl, rfl, List.forall_mem_nil _⟩

theorem exec_of_movFccTable (fcc : FccNum) (op2 : RegOrImm 11) : ∀ e ∈ movFccTable,
    exec (e.1 rd fcc op2) s = movFcc e.2.1 rd fcc op2 s := by
  simp only [movFccTable, List.forall_mem_cons]
  exact ⟨rfl, rfl, rfl, rfl, rfl, rfl, rfl, rfl, rfl, rfl, rfl, rfl, rfl, rfl, rfl, rfl, List.forall_mem_nil _⟩

theorem exec_of_movRegTable (op2 : RegOrImm 10) : ∀ e ∈ movRegTable,
    exec (e.1 rd rs1 op2) s = movReg e.2.1 rd rs1 op2 s := by
  simp only [movRegTable, List.forall_mem_cons]
  exact ⟨rfl, rfl, rfl, rfl, rfl, rfl, List.forall_mem_nil _⟩

theorem encode_of_movIccTable (cc : IntCc) (op2 : RegOrImm 11) : ∀ e ∈ movIccTable,
    encode (e.1 rd cc op2) = format3 2#2 rd 0x2C#6 (1#1 ++ e.2.1) (lowMovcc cc.bits op2) := by
  simp only [movIccTable, List.forall_mem_cons]
  exact ⟨rfl, rfl, rfl, rfl, rfl, rfl, rfl, rfl, rfl, rfl, rfl, rfl, rfl, rfl, rfl, rfl, List.forall_mem_nil _⟩

theorem encode_of_movFccTable (fcc : FccNum) (op2 : RegOrImm 11) : ∀ e ∈ movFccTable,
    encode (e.1 rd fcc op2) = format3 2#2 rd 0x2C#6 (0#1 ++ e.2.1) (lowMovcc fcc op2) := by
  simp only [movFccTable, List.forall_mem_cons]
  exact ⟨rfl, rfl, rfl, rfl, rfl, rfl, rfl, rfl, rfl, rfl, rfl, rfl, rfl, rfl, rfl, rfl, List.forall_mem_nil _⟩

theorem encode_of_movRegTable (op2 : RegOrImm 10) : ∀ e ∈ movRegTable,
    encode (e.1 rd rs1 op2) = format3 2#2 rd 0x2F#6 rs1 (lowMovr e.2.1 op2) := by
  simp only [movRegTable, List.forall_mem_cons]
  exact ⟨rfl, rfl, rfl, rfl, rfl, rfl, List.forall_mem_nil _⟩

end

/-! #### The tests of the rows are those of 30_encoding.md R350 to R352 -/

theorem iccTest_of_movIccTable (n z v c : Bool) : ∀ e ∈ movIccTable, iccTest e.2.1 (nzvc n z v c) = e.2.2 n z v c := by
  revert n z v c
  decide

theorem fccTest_of_movFccTable (f : BitVec 2) : ∀ e ∈ movFccTable, fccTest e.2.1 f = decide (f ∈ e.2.2) := by
  revert f
  decide

theorem rcondTest_of_movRegTable (v : Word64) : ∀ e ∈ movRegTable, rcondTest e.2.1 v = e.2.2 v.toInt := by
  obtain ⟨hz, hlez, hlz, hnz, hgz, hgez⟩ := rcondTest_signed v
  simp only [movRegTable, List.forall_mem_cons]
  exact ⟨hz, hlez, hlz, hnz, hgz, hgez, List.forall_mem_nil _⟩

/-! #### The words (30_encoding.md R336, R337) -/

/-- Bits 18:14 of a MOVcc word are `cc2` and `cond`. -/
theorem format3_cond (op : BitVec 2) (rd : RegNum) (op3 : BitVec 6) (cc2 : BitVec 1) (cond : BitVec 4)
    (low : BitVec 14) : format3 op rd op3 (cc2 ++ cond) low = op ++ rd ++ op3 ++ cc2 ++ cond ++ low := by
  rw [format3, BitVec.append_assoc']
  rfl

theorem movccLow_eq (cc : BitVec 2) (op2 : RegOrImm 11) : movccLow cc op2 = lowMovcc cc op2 := by cases op2 <;> rfl

theorem movrLow_eq (rcond : BitVec 3) (op2 : RegOrImm 10) : movrLow rcond op2 = lowMovr rcond op2 := by cases op2 <;> rfl

theorem bits_eq_ite (cc : IntCc) : cc.bits = if cc = .icc then 0b00 else 0b10 := by cases cc <;> rfl

theorem ccOf_eq_selected (s : State) (cc : IntCc) : ccOf s cc = selected s cc := by cases cc <;> rfl

/-! #### Reserved words (30_encoding.md R341, R353, R354) -/

section
variable {w : Word32}

theorem field_of_fieldLow {s l : Nat} (h : s + l ≤ 14) : (fieldLow w).extractLsb' s l = w.extractLsb' s l :=
  BitVec.extractLsb'_extractLsb'_of_le h

theorem decode_of_arith (hop : w.extractLsb' 30 2 = 0b10) : decode w = decodeArith w := by
  have h : fieldOp w = 0b10 := hop
  rw [decode, h]
  rfl

theorem decode_of_movcc (hop : w.extractLsb' 30 2 = 0b10) (hop3 : w.extractLsb' 19 6 = 0x2C) :
    decode w = decodeMovcc w := by
  have h : fieldOp3 w = 0x2C := hop3
  rw [decode_of_arith hop, decodeArith, h]
  rfl

theorem decode_of_movr (hop : w.extractLsb' 30 2 = 0b10) (hop3 : w.extractLsb' 19 6 = 0x2F) :
    decode w = decodeMovr w := by
  have h : fieldOp3 w = 0x2F := hop3
  rw [decode_of_arith hop, decodeArith, h]
  rfl

/-- The register form: `i` is 0. -/
theorem register_form (hi : w.getLsbD 13 = false) : ¬(fieldLow w).extractLsb' 13 1 = 1#1 := by
  rw [field_of_fieldLow (by decide), ← bit_getLsbD, hi]
  decide

theorem readMovcc_eq_none (hi : w.getLsbD 13 = false) (h : w.extractLsb' 5 6 ≠ 0) : readMovcc (fieldLow w) = none := by
  rw [readMovcc, if_neg (register_form hi), field_of_fieldLow (by decide)]
  exact if_neg h

theorem readMovr_eq_none (hi : w.getLsbD 13 = false) (h : w.extractLsb' 5 5 ≠ 0) : readMovr (fieldLow w) = none := by
  rw [readMovr, if_neg (register_form hi), field_of_fieldLow (by decide)]
  exact if_neg h

theorem decMovFcc_error (k : RegNum → FccNum → RegOrImm 11 → Instr) (h : readMovcc (fieldLow w) = none) :
    ∃ r, decMovFcc k w = .error r :=
  ⟨.reservedField, by rw [decMovFcc, h]; rfl⟩

theorem decMovIcc_error (k : RegNum → IntCc → RegOrImm 11 → Instr)
    (h : readIntCc (lowCc (fieldLow w)) = none ∨ readMovcc (fieldLow w) = none) : ∃ r, decMovIcc k w = .error r := by
  unfold decMovIcc
  split
  next hcc => exact ⟨.reservedField, by rw [h.resolve_left (by simp [hcc])]; rfl⟩
  next => exact ⟨_, rfl⟩

/-- Reserved bits that are not 0, in a word of either kind of MOVcc. -/
theorem decodeMovcc_of_reserved_bits (h : readMovcc (fieldLow w) = none) : ∃ r, decodeMovcc w = .error r := by
  unfold decodeMovcc
  split
  case h_33 => exact ⟨_, rfl⟩
  case h_1 | h_2 | h_3 | h_4 | h_5 | h_6 | h_7 | h_8 | h_9 | h_10 | h_11 | h_12 | h_13 | h_14 | h_15 | h_16 =>
    exact decMovFcc_error _ h
  all_goals exact decMovIcc_error _ (.inr h)

/-- With `cc2` 1, `cc1 :: cc0` selects an integer condition code, or nothing. -/
theorem decodeMovcc_of_reserved_cc (h18 : w.getLsbD 18 = true) (h : readIntCc (lowCc (fieldLow w)) = none) :
    ∃ r, decodeMovcc w = .error r := by
  have hcc2 : 16 ≤ (fieldRs1 w).toNat := by
    have hbit : (fieldRs1 w).getLsbD 4 = true := by simpa [fieldRs1] using h18
    have hbits : ∀ r : RegNum, r.getLsbD 4 = true → 16 ≤ r.toNat := by decide
    exact hbits _ hbit
  unfold decodeMovcc
  split
  case h_33 => exact ⟨_, rfl⟩
  case h_1 | h_2 | h_3 | h_4 | h_5 | h_6 | h_7 | h_8 | h_9 | h_10 | h_11 | h_12 | h_13 | h_14 | h_15 | h_16 =>
    omega
  all_goals exact decMovIcc_error _ (.inl h)

theorem readIntCc_eq_none (h11 : w.getLsbD 11 = true) : readIntCc (lowCc (fieldLow w)) = none := by
  have hbit : (lowCc (fieldLow w)).getLsbD 0 = true := by simpa [lowCc, fieldLow] using h11
  have hbits : ∀ c : BitVec 2, c.getLsbD 0 = true → readIntCc c = none := by decide
  exact hbits _ hbit

theorem decodeMovr_of_reserved_bits (h : readMovr (fieldLow w) = none) : ∃ r, decodeMovr w = .error r := by
  have hk : ∀ k, decMovr k w = .error .reservedField := fun k => by rw [decMovr, h]; rfl
  unfold decodeMovr
  split
  case h_7 => exact ⟨_, rfl⟩
  all_goals exact ⟨_, hk _⟩

theorem decodeMovr_of_reserved_rcond (h : w.extractLsb' 10 3 ∈ [0b000#3, 0b100#3]) : ∃ r, decodeMovr w = .error r := by
  rw [← field_of_fieldLow (by decide)] at h
  have hr : lowRcond (fieldLow w) = 0b000#3 ∨ lowRcond (fieldLow w) = 0b100#3 := by simpa [lowRcond] using h
  refine ⟨.reservedOpcode, ?_⟩
  rcases hr with hr | hr
  all_goals rw [decodeMovr, hr]; rfl

theorem undecoded_movcc (hop : w.extractLsb' 30 2 = 0b10) (hop3 : w.extractLsb' 19 6 = 0x2C)
    (h : (w.getLsbD 18 = true ∧ w.getLsbD 11 = true) ∨ (w.getLsbD 13 = false ∧ w.extractLsb' 5 6 ≠ 0)) :
    Undecoded w := by
  rw [Undecoded, decode_of_movcc hop hop3]
  rcases h with ⟨h18, h11⟩ | ⟨hi, hz⟩
  · exact decodeMovcc_of_reserved_cc h18 (readIntCc_eq_none h11)
  · exact decodeMovcc_of_reserved_bits (readMovcc_eq_none hi hz)

theorem undecoded_movr (hop : w.extractLsb' 30 2 = 0b10) (hop3 : w.extractLsb' 19 6 = 0x2F)
    (h : w.extractLsb' 10 3 ∈ [0b000#3, 0b100#3] ∨ (w.getLsbD 13 = false ∧ w.extractLsb' 5 5 ≠ 0)) : Undecoded w := by
  rw [Undecoded, decode_of_movr hop hop3]
  rcases h with hr | ⟨hi, hz⟩
  · exact decodeMovr_of_reserved_rcond hr
  · exact decodeMovr_of_reserved_bits (readMovr_eq_none hi hz)

end

/-- Settles O12: each row's word and meaning by the tables above; reserved words by the fields that select no entry. -/
theorem conditionalMoves : Obligations.ConditionalMoves := by
  refine ⟨fun e he s rd cc op2 => ⟨?iccWord, fun n z v c hs => ?icc⟩,
    fun e he s rd fcc op2 => ⟨?fccWord, fun hf => ?fcc, fun hf => ?disabled⟩,
    fun e he s rd rs1 op2 => ⟨?regWord, ?reg⟩,
    fun w hop => ⟨undecoded_movcc hop, undecoded_movr hop⟩⟩
  case iccWord => rw [encode_of_movIccTable rd cc op2 e he, format3_cond, movccLow_eq, bits_eq_ite]
  case icc =>
    rw [← operand2_eq_second]
    refine moves_of_test (exec_of_movIccTable s rd cc op2 e he) ?_
    rw [ccOf_eq_selected, hs, iccTest_of_movIccTable n z v c e he, Bool.decide_eq_true]
  case fccWord => rw [encode_of_movFccTable rd fcc op2 e he, format3_cond, movccLow_eq]
  case fcc =>
    rw [← operand2_eq_second]
    exact moves_of_test ((exec_of_movFccTable s rd fcc op2 e he).trans (requireFpu_of_enabled _ hf))
      (fccTest_of_movFccTable _ e he)
  case disabled => exact traps_fpDisabled hf ⟨_, exec_of_movFccTable s rd fcc op2 e he⟩
  case regWord => rw [encode_of_movRegTable rd rs1 op2 e he, movrLow_eq]; rfl
  case reg =>
    rw [← operand2_eq_second]
    refine moves_of_test (exec_of_movRegTable s rd rs1 op2 e he) ?_
    rw [rcondTest_of_movRegTable _ e he, Bool.decide_eq_true]

end Sys2Proof.Machine

/-! SUPPORT. Control transfer: where each instruction comes down to a branch, a jump, a return or a trap (41_control_transfer.md). -/

namespace Sys2Proof.Machine

open Sys2Proof.Claims

/-! ### The trap on control transfer, and the exit (41_control_transfer.md R619; 60_exceptions.md R1610) -/

/-- Behind the check of `PSTATE.tct`, with the bit set, stands the trap, whatever would follow. -/
theorem traps_of_tctCheck {i : Instr} {s : State} {k : Outcome} (h : exec i s = tctCheck s k) (ht : s.tct = true) :
    Traps i s s 0x074 :=
  traps_of_raise (e := .controlTransferInstruction) (h.trans (if_pos ht)) rfl

/-- A raised exception of column H leaves. -/
theorem leaves_of_raise {i : Instr} {s : State} {e : Exception} (h : exec i s = raise s e)
    (he : e.toPrivileged = false) : Leaves i s e.tt :=
  h.trans (raiseAt_eq_fault (.inl he))

/-- The instructions of the list raise illegal_instruction as their definitions stand; for the others the hypothesis is false. -/
theorem exec_of_alwaysIllegal {i : Instr} (s : State) (h : alwaysIllegal i = true) :
    exec i s = raise s .illegalInstruction := by
  cases i <;> cases h
  all_goals rfl

/-- Settles O18: each listed instruction raises illegal_instruction, which leaves. -/
theorem alwaysIllegalStops : Obligations.AlwaysIllegalStops :=
  fun _ s h => leaves_of_illegal (exec_of_alwaysIllegal s h)

/-! ### Branches (41_control_transfer.md R600, R618) -/

/-- The target of a PC-relative transfer, in the words of the statements. -/
theorem pcRelative_eq_ofInt {n : Nat} (s : State) (disp : BitVec n) :
    pcRelative s disp = s.pc + BitVec.ofInt 64 (4 * disp.toInt) := by
  rw [BitVec.ofInt_mul]
  rfl

/-- An instruction that comes down to `branch` branches: a taken one by `tctCheck`, then one case of `branch_step` each. -/
theorem branches_of_branch {i : Instr} {s : State} {always taken annul : Bool} {n : Nat} {disp : BitVec n}
    (h : exec i s = branch s always taken annul (pcRelative s disp)) :
    Branches i s always taken annul disp.toInt := by
  rw [pcRelative_eq_ofInt] at h
  unfold Branches
  by_cases htrap : (taken && s.tct) = true
  · obtain ⟨rfl, htct⟩ : taken = true ∧ s.tct = true := by simpa using htrap
    rw [if_pos htrap]
    exact traps_of_tctCheck h htct
  · have hstep : exec i s
        = .next (branchStep s always taken annul (s.pc + BitVec.ofInt 64 (4 * disp.toInt))) := by
      rw [h, branch]
      cases taken with
      | false => rfl
      | true => exact tctCheck_of_clear _ (by simpa using htrap)
    rw [if_neg htrap, Skips, hstep, branchStep]
    split_ifs
    all_goals rfl

section
variable (s : State) (a p : Bool)

theorem exec_of_biccTable (d : BitVec 22) : ∀ e ∈ biccTable, exec (e.1 a d) s = branchIcc e.2 a d s := by
  simp only [biccTable, List.forall_mem_cons]
  exact ⟨rfl, rfl, rfl, rfl, rfl, rfl, rfl, rfl, rfl, rfl, rfl, rfl, rfl, rfl, rfl, rfl, List.forall_mem_nil _⟩

theorem exec_of_bpccTable (cc : IntCc) (d : BitVec 19) : ∀ e ∈ bpccTable,
    exec (e.1 a cc p d) s = branchPcc e.2 a cc d s := by
  simp only [bpccTable, List.forall_mem_cons]
  exact ⟨rfl, rfl, rfl, rfl, rfl, rfl, rfl, rfl, rfl, rfl, rfl, rfl, rfl, rfl, rfl, rfl, List.forall_mem_nil _⟩

theorem exec_of_bprTable (d : BitVec 16) (rs1 : RegNum) : ∀ e ∈ bprTable,
    exec (e.1 a d p rs1) s = branchReg e.2 a d rs1 s := by
  simp only [bprTable, List.forall_mem_cons]
  exact ⟨rfl, rfl, rfl, rfl, rfl, rfl, List.forall_mem_nil _⟩

theorem exec_of_fbfccTable (d : BitVec 22) : ∀ e ∈ fbfccTable, exec (e.1 a d) s = branchFcc e.2 a d s := by
  simp only [fbfccTable, List.forall_mem_cons]
  exact ⟨rfl, rfl, rfl, rfl, rfl, rfl, rfl, rfl, rfl, rfl, rfl, rfl, rfl, rfl, rfl, rfl, List.forall_mem_nil _⟩

theorem exec_of_fbpfccTable (fcc : FccNum) (d : BitVec 19) : ∀ e ∈ fbpfccTable,
    exec (e.1 a fcc p d) s = branchPfcc e.2 a fcc d s := by
  simp only [fbpfccTable, List.forall_mem_cons]
  exact ⟨rfl, rfl, rfl, rfl, rfl, rfl, rfl, rfl, rfl, rfl, rfl, rfl, rfl, rfl, rfl, rfl, List.forall_mem_nil _⟩

theorem exec_of_tccTable (rs1 : RegNum) (cc : IntCc) (num : RegOrImm 8) : ∀ e ∈ tccTable,
    exec (e.1 rs1 cc num) s = trapIcc e.2 rs1 cc num s := by
  simp only [tccTable, List.forall_mem_cons]
  exact ⟨rfl, rfl, rfl, rfl, rfl, rfl, rfl, rfl, rfl, rfl, rfl, rfl, rfl, rfl, rfl, rfl, List.forall_mem_nil _⟩

end

/-- Settles O13: each row comes down to `branch` with its condition. -/
theorem integerBranches : Obligations.IntegerBranches := by
  refine ⟨fun e he s a d => ?bicc, fun e he s a cc p d => ?bpcc, fun e he s a d p rs1 => ?bpr⟩
  case bicc => exact branches_of_branch (exec_of_biccTable s a d e he)
  case bpcc =>
    rw [← ccOf_eq_selected]
    exact branches_of_branch (exec_of_bpccTable s a p cc d e he)
  case bpr => exact branches_of_branch (exec_of_bprTable s a p d rs1 e he)

/-- Settles O14: behind the check of the enable bits, each row comes down to `branch` with its condition. -/
theorem floatBranches : Obligations.FloatBranches := by
  refine ⟨fun e he s a d hf => ?fbfcc, fun e he s a fcc p d hf => ?fbpfcc⟩
  case fbfcc => exact branches_of_branch ((exec_of_fbfccTable s a d e he).trans (requireFpu_of_enabled _ hf))
  case fbpfcc => exact branches_of_branch ((exec_of_fbpfccTable s a p fcc d e he).trans (requireFpu_of_enabled _ hf))

/-! ### CALL, JMPL and RETURN (41_control_transfer.md R690 to R692) -/

theorem amMask_eq (s : State) (x : Word64) :
    amMask s x = if s.am then BitVec.ofNat 64 (x.toNat % 2 ^ 32) else x := by
  unfold amMask
  split
  next => exact BitVec.eq_of_toNat_eq (by simp)
  next => rfl

/-- The program counters are no part of what a register write leaves. -/
theorem writesR_setPcs {s t : State} {rd : RegNum} {v : Word64} (h : WritesR s t rd v) (pc npc : Word64) :
    WritesR s (setPcs t pc npc) rd v where
  destination := by rw [readReg_setPcs, h.destination]
  others q hq := by rw [readPhys_setPcs, h.others q hq]
  frame := h.frame

/-- A jump that links: `R[rd]` holds `v`, the program counters are those given. -/
theorem writesR_link (s : State) (rd : RegNum) (v pc npc : Word64) :
    WritesR s (setPcs (writeReg s rd v) pc npc) rd v :=
  writesR_setPcs (writesR_advance s rd v) pc npc

section
variable {s : State} {rs1 : RegNum} {op2 : RegOrImm 13}

theorem low_bits_target :
    ((effectiveAddress s rs1 op2).extractLsb' 0 2 != 0) = decide ((readReg s rs1 + second s op2).toNat % 4 ≠ 0) := by
  rw [low_bits_bne_zero, effectiveAddress, operand2_eq_second]

theorem exec_call (s : State) (d : BitVec 30) : exec (.call d) s = tctCheck s
    (.next (setPcs (writeReg s 15 (amMask s s.pc)) s.npc (pcRelative s d))) := rfl

theorem exec_jmpl_of_aligned (rd : RegNum) (h : (readReg s rs1 + second s op2).toNat % 4 = 0) :
    exec (.jmpl rd rs1 op2) s = tctCheck s
      (.next (setPcs (writeReg s rd (amMask s s.pc)) s.npc (readReg s rs1 + second s op2))) := by
  rw [← operand2_eq_second]
  exact if_neg (by rw [low_bits_target, h]; decide)

theorem exec_jmpl_of_misaligned (rd : RegNum) (h : (readReg s rs1 + second s op2).toNat % 4 ≠ 0) :
    exec (.jmpl rd rs1 op2) s = raise s .memAddressNotAligned :=
  if_pos (by rw [low_bits_target, decide_eq_true h])

theorem exec_return_of_fill (h : s.canrestore = 0#3) : exec (.return_ rs1 op2) s = raise s (fillException s) :=
  if_pos h

theorem exec_return_of_aligned (hw : s.canrestore ≠ 0#3) (h : (readReg s rs1 + second s op2).toNat % 4 = 0) :
    exec (.return_ rs1 op2) s = tctCheck s
      (.next (setPcs (restoreWindow s) s.npc (readReg s rs1 + second s op2))) := by
  rw [← operand2_eq_second]
  exact (if_neg hw).trans (if_neg (by rw [low_bits_target, h]; decide))

theorem exec_return_of_misaligned (hw : s.canrestore ≠ 0#3) (h : (readReg s rs1 + second s op2).toNat % 4 ≠ 0) :
    exec (.return_ rs1 op2) s = raise s .memAddressNotAligned :=
  (if_neg hw).trans (if_pos (by rw [low_bits_target, decide_eq_true h]))

end

theorem fillException_toPrivileged (s : State) : (fillException s).toPrivileged = true := by
  unfold fillException
  split <;> rfl

/-- OTHERWIN selects the handlers, and with them the field of WSTATE (60_exceptions.md R1657). -/
theorem fillException_tt (s : State) : (fillException s).tt
    = if s.otherwin = 0#3 then 0x0C0 + 4 * (s.wstate.extractLsb' 0 3).setWidth 9
      else 0x0E0 + 4 * (s.wstate.extractLsb' 3 3).setWidth 9 := by
  unfold fillException
  split
  next h => exact (if_pos h).symm
  next h => exact (if_neg h).symm

/-- Settles O15: by the checks in their order, each instruction is its trap or its transfer. -/
theorem callJumpReturn : Obligations.CallJumpReturn := by
  refine ⟨fun s d ht => ?call, fun s rd rs1 op2 ht ha => ?jmpl, fun s rs1 op2 ht hw ha => ?return_,
    fun s rd rs1 op2 ha => ?jmplMisaligned, fun s rs1 op2 hw => ?fill, fun s rs1 op2 hw ha => ?returnMisaligned,
    fun s ht => ⟨fun d => traps_of_tctCheck (exec_call s d) ht, fun rs1 op2 ha =>
      ⟨fun rd => traps_of_tctCheck (exec_jmpl_of_aligned rd ha) ht,
        fun hw => traps_of_tctCheck (exec_return_of_aligned hw ha) ht⟩⟩⟩
  case call =>
    rw [← amMask_eq, ← pcRelative_eq_ofInt]
    exact ⟨_, (exec_call s d).trans (tctCheck_of_clear _ ht), writesR_link .., rfl, rfl⟩
  case jmpl =>
    rw [← amMask_eq]
    exact ⟨_, (exec_jmpl_of_aligned rd ha).trans (tctCheck_of_clear _ ht), writesR_link .., rfl, rfl⟩
  case return_ => exact (exec_return_of_aligned hw ha).trans (tctCheck_of_clear _ ht)
  case jmplMisaligned => exact leaves_of_raise (exec_jmpl_of_misaligned rd ha) rfl
  case fill =>
    rw [← fillException_tt]
    exact traps_of_raise (exec_return_of_fill hw) (fillException_toPrivileged s)
  case returnMisaligned => exact leaves_of_raise (exec_return_of_misaligned hw ha) rfl

/-! ### Tcc (41_control_transfer.md R700) -/

/-- The sum wraps at 64 bits, which leaves its low bits. -/
theorem toNat_softwareTrapNumber (s : State) (rs1 : RegNum) (num : RegOrImm 8) :
    (softwareTrapNumber s rs1 num).toNat
      = if s.priv then ((readReg s rs1).toNat + (trapOperand s num).toNat) % 256
        else ((readReg s rs1).toNat + (trapOperand s num).toNat) % 128 := by
  unfold softwareTrapNumber
  dsimp only
  split
  next => rw [BitVec.extractLsb'_toNat, BitVec.toNat_add, Nat.shiftRight_zero]; omega
  next =>
    rw [BitVec.toNat_append, BitVec.extractLsb'_toNat, BitVec.toNat_add, Nat.shiftRight_zero]
    simp only [BitVec.toNat_ofNat, Nat.zero_mod, Nat.zero_shiftLeft, Nat.zero_or]
    omega

theorem trapInstruction_tt (n : BitVec 8) : (Exception.trapInstruction n).tt = BitVec.ofNat 9 (256 + n.toNat) := by
  apply BitVec.eq_of_toNat_eq
  simp [Exception.tt]

/-- Settles O16: the condition, then `PSTATE.tct`, then the side of 128 the trap number is on. -/
theorem trapOnCondition : Obligations.TrapOnCondition := by
  intro e he s rs1 cc num sum swtn
  have hsum : sum = (readReg s rs1).toNat + (trapOperand s num).toNat := by
    cases num with
    | reg rs2 => rfl
    | imm v => exact congrArg _ (BitVec.toNat_setWidth_of_le (by decide)).symm
  have hswtn : swtn = (softwareTrapNumber s rs1 num).toNat := by rw [toNat_softwareTrapNumber, ← hsum]
  rw [← ccOf_eq_selected, hswtn, ← trapInstruction_tt]
  have hexec := exec_of_tccTable s rs1 cc num e he
  have htaken : iccTest e.2 (ccOf s cc) = true →
      exec (e.1 rs1 cc num) s = tctCheck s (raise s (.trapInstruction (softwareTrapNumber s rs1 num))) :=
    fun hc => hexec.trans (if_pos hc)
  refine ⟨fun hc => hexec.trans (if_neg (by simp [hc])), fun hc ht => ⟨fun hn => ?low, fun hn => ?high⟩,
    fun hc ht => traps_of_tctCheck (htaken hc) ht⟩
  case low => exact traps_of_raise ((htaken hc).trans (tctCheck_of_clear _ ht)) (decide_eq_true hn)
  case high => exact leaves_of_raise ((htaken hc).trans (tctCheck_of_clear _ ht)) (decide_eq_false (by omega))

/-! ### DONE and RETRY (41_control_transfer.md R720, R721) -/

/-- Where DONE goes: after the instruction that trapped. -/
def donePcs (f : TrapFrame) : Word64 × Word64 := (savedPc f.tnpc, savedPc f.tnpc + 4)

/-- Where RETRY goes: to the instruction that trapped. -/
def retryPcs (f : TrapFrame) : Word64 × Word64 := (savedPc f.tpc, savedPc f.tnpc)

theorem exec_done (s : State) : exec .done s = trapReturn s donePcs := rfl

theorem exec_retry (s : State) : exec .retry s = trapReturn s retryPcs := rfl

theorem currentFrame_of_level {s : State} {k : Fin 2} (h : s.tl.val = k.val + 1) : currentFrame s = s.trapStack[k] := by
  match k with
  | 0 => rw [currentFrame, show s.tl = 1 from Fin.ext h]; rfl
  | 1 => rw [currentFrame, show s.tl = 2 from Fin.ext h]; rfl

theorem prevLevel_val (l : Fin 3) : (prevLevel l).val = l.val - 1 := by
  revert l
  decide

/-- GL saturates at 2 (log 20). -/
theorem restoredGl_val (tstate : Word64) : (restoredGl tstate).val = min (tstate.extractLsb' 40 3).toNat 2 := by
  unfold restoredGl
  split
  next h => rw [h]; rfl
  next h => rw [h]; rfl
  next h0 h1 => exact (Nat.min_eq_right ((Nat.two_le_iff _).2 ⟨h0, h1⟩)).symm

section
variable {i : Instr} {s : State} {pcs : TrapFrame → Word64 × Word64} (h : exec i s = trapReturn s pcs)
  (hp : s.priv = true)
include h hp

theorem exec_of_trapReturn (hl : s.tl ≠ 0) : exec i s
    = tctCheck s (.next (setPcs (returnFromTrap s) (pcs (currentFrame s)).1 (pcs (currentFrame s)).2)) := by
  rw [h, trapReturn, requirePriv_of_priv _ hp, if_neg hl]

theorem leaves_of_trapReturn (hl : s.tl = 0) : Leaves i s 0x010 :=
  leaves_of_illegal (by rw [h, trapReturn, requirePriv_of_priv _ hp, if_pos hl])

end

/-- Settles O17: by the checks in their order, each is its trap, its exit, or the restore from the frame of the level. -/
theorem returnFromTrapRestores : Obligations.ReturnFromTrapRestores := by
  refine ⟨fun s hp hl ht => ⟨traps_of_tctCheck (exec_of_trapReturn (exec_done s) hp hl) ht,
      traps_of_tctCheck (exec_of_trapReturn (exec_retry s) hp hl) ht⟩,
    fun s hp hl => ⟨leaves_of_trapReturn (exec_done s) hp hl, leaves_of_trapReturn (exec_retry s) hp hl⟩,
    fun s k hp hk ht => ?restores⟩
  intro f
  have hf : f = currentFrame s := (currentFrame_of_level hk).symm
  have hl : s.tl ≠ 0 := fun e => by simp [e] at hk
  rw [hf]
  refine ⟨_, _, (exec_of_trapReturn (exec_done s) hp hl).trans (tctCheck_of_clear _ ht),
    (exec_of_trapReturn (exec_retry s) hp hl).trans (tctCheck_of_clear _ ht), rfl, rfl, rfl, rfl, rfl, ?tl,
    restoredGl_val _, rfl, rfl, rfl, rfl, rfl⟩
  case tl => rw [setPcs_tl, returnFromTrap_tl, prevLevel_val, hk, Nat.add_sub_cancel]

end Sys2Proof.Machine

/-! SUPPORT. Integer loads, stores and atomic load-stores: what an access that reaches a real address reads and stores, and the instruction with it (20_memory.md R202, R237, R302; 42_load_store.md R810 to R865). -/

namespace Sys2Proof.Machine

open Sys2Proof.Claims

/-! ### What the devices see of a read (20_memory.md R202) -/

theorem isIo_eq_inIo (s : State) (a : Nat) : isIo s a = inIo s a := by
  simp only [isIo, inIo, IoRange.has, Bool.decide_and]

theorem afterRead_eq_seen (s : State) (ra n : Nat) : afterRead s ra n = seen s ra n := by
  have h : (ioAddresses s ra n).isEmpty = !(List.range n).any fun k => inIo s (ra + k) := by
    simp only [ioAddresses, funext (isIo_eq_inIo s), List.filter_map, Function.comp_def]
    rw [Bool.eq_iff_iff]
    simp
  rw [afterRead, seen, h]
  cases (List.range n).any fun k => inIo s (ra + k) <;> rfl

section
variable (s : State) (ra n : Nat)

@[simp] theorem seen_npc : (seen s ra n).npc = s.npc := by rw [← afterRead_eq_seen, afterRead_npc]

@[simp] theorem seen_gl : (seen s ra n).gl = s.gl := by rw [← afterRead_eq_seen, afterRead_gl]

@[simp] theorem seen_cwp : (seen s ra n).cwp = s.cwp := by rw [← afterRead_eq_seen, afterRead_cwp]

@[simp] theorem readPhys_seen (p : PhysReg) : readPhys (seen s ra n) p = readPhys s p := by
  rw [← afterRead_eq_seen, readPhys_afterRead]

@[simp] theorem readReg_seen (r : RegNum) : readReg (seen s ra n) r = readReg s r := by
  rw [← afterRead_eq_seen, readReg_afterRead]

theorem seen_frame :
    { seen s ra n with globals := s.globals, windows := s.windows, pc := s.pc, npc := s.npc } = seen s ra n := by
  unfold seen
  split <;> rfl

end

/-- An access that reads goes on at the real address it reaches, the read seen. -/
theorem withLoad_of_reaches {s : State} {acc : Access} {g : Target} {ra : Nat} {little : Bool}
    (k : State → Memory → Nat → Bool → Outcome) (h : Reaches s acc g ra little) :
    withLoad s acc g k = k (seen s ra acc.width) (readView s ra acc.width) ra little := by
  rw [withLoad, withData_of_memory _ h, afterRead_eq_seen]

/-! ### What an access reads (20_memory.md R237, R302) -/

theorem readByte_readView_eq_byteSeen {s : State} {ra n c : Nat} (h1 : ra ≤ c) (h2 : c < ra + n) :
    (readView s ra n).readByte c = byteSeen s ra n c := by
  simp only [readByte_readView, byteSeen, isIo_eq_inIo, h1, h2, true_and]

/-- The bytes of a value are those of its low bytes. -/
theorem placedByte_setWidth (little : Bool) {n k : Nat} (v : Word64) (hk : k < n) :
    (v.setWidth (8 * n)).extractLsb' (8 * if little then k else n - 1 - k) 8 = placedByte little n v k := by
  have hi : (if little then k else n - 1 - k) < n := by split <;> omega
  ext j hj
  simp only [placedByte, BitVec.getElem_extractLsb', BitVec.getLsbD_setWidth]
  rw [decide_eq_true (by omega), Bool.true_and]

section
variable {s : State} {ra n a : Nat} {little : Bool} {v : Word64}

/-- The bytes of a part of an access. -/
theorem readByte_of_seesPart {m k : Nat} (h : SeesPart s ra n a m little v) (hlo : ra ≤ a) (hhi : a + m ≤ ra + n)
    (hk : k < m) : (readView s ra n).readByte (a + k)
      = .ok ((v.setWidth (8 * m)).extractLsb' (8 * if little then k else m - 1 - k) 8) := by
  rw [readByte_readView_eq_byteSeen (by omega) (by omega), h k hk, placedByte_setWidth little v hk]

theorem readHalf_of_seesPart (h : SeesPart s ra n a 2 little v) (hlo : ra ≤ a) (hhi : a + 2 ≤ ra + n) :
    (readView s ra n).readHalf little a = .ok (v.setWidth 16) :=
  Memory.readHalf_of_bytes fun _ hk => readByte_of_seesPart h hlo hhi hk

theorem readWord_of_seesPart (h : SeesPart s ra n a 4 little v) (hlo : ra ≤ a) (hhi : a + 4 ≤ ra + n) :
    (readView s ra n).readWord little a = .ok (v.setWidth 32) :=
  Memory.readWord_of_bytes fun _ hk => readByte_of_seesPart h hlo hhi hk

theorem readDouble_of_seesPart (h : SeesPart s ra n a 8 little v) (hlo : ra ≤ a) (hhi : a + 8 ≤ ra + n) :
    (readView s ra n).readDouble little a = .ok v := by
  rw [Memory.readDouble_of_bytes fun _ hk => readByte_of_seesPart h hlo hhi hk]
  exact congrArg _ (BitVec.setWidth_eq v)

theorem readByte_of_sees (h : Sees s ra 1 little v) : (readView s ra 1).readByte ra = .ok (v.setWidth 8) := by
  have h0 := readByte_of_seesPart h (Nat.le_refl ra) (Nat.le_refl _) (k := 0) (by omega)
  rw [Nat.sub_self, ite_self] at h0
  exact h0.trans (congrArg _ BitVec.extractLsb'_eq_self)

theorem readHalf_of_sees (h : Sees s ra 2 little v) : (readView s ra 2).readHalf little ra = .ok (v.setWidth 16) :=
  readHalf_of_seesPart h (Nat.le_refl _) (Nat.le_refl _)

theorem readWord_of_sees (h : Sees s ra 4 little v) : (readView s ra 4).readWord little ra = .ok (v.setWidth 32) :=
  readWord_of_seesPart h (Nat.le_refl _) (Nat.le_refl _)

theorem readDouble_of_sees (h : Sees s ra 8 little v) : (readView s ra 8).readDouble little ra = .ok v :=
  readDouble_of_seesPart h (Nat.le_refl _) (Nat.le_refl _)

end

/-! ### What an access stores (20_memory.md R202, R237; log 42) -/

theorem placed_eq_image (little : Bool) (n ra : Nat) (v : Word64) : placed little n ra v = image ra n little v := rfl

theorem nodup_image (ra n : Nat) (little : Bool) (v : Word64) : ((image ra n little v).map Prod.fst).Nodup := by
  rw [← placed_eq_image, map_fst_placed]
  exact nodup_addresses ra n

/-- Two values side by side have different addresses. -/
theorem nodup_image_append (ra m n : Nat) (little : Bool) (v w : Word64) :
    ((image ra m little v ++ image (ra + m) n little w).map Prod.fst).Nodup := by
  have h : (image ra m little v ++ image (ra + m) n little w).map Prod.fst = (List.range (m + n)).map (ra + ·) := by
    simp only [← placed_eq_image, List.map_append, map_fst_placed, List.range_add, List.map_map, Function.comp_def,
      Nat.add_assoc]
  rw [h]
  exact nodup_addresses ra (m + n)

/-- Bytes stored at different addresses, each to memory or to its device. -/
theorem stores_advance_storeBytes (s : State) {cells : List Host.Cell} (hd : (cells.map Prod.fst).Nodup) :
    Stores s (advance (storeBytes s cells)) cells where
  stored _ hc hm := readByte_storeBytes_mem hd hc ((isIo_eq_inIo s _).trans hm)
  others _ h := readByte_storeBytes_ne (h.imp (fun hc c hm => (hc c hm).symm) (isIo_eq_inIo s _).trans)
  devices := by
    rw [advance_ioLog, storeBytes_ioLog, ioWrites]
    simp only [isIo_eq_inIo]
    split
    case h_1 h => rw [h, if_pos rfl, List.nil_append]
    case h_2 h => rw [h, if_neg (List.cons_ne_nil _ _), List.singleton_append]
  frame := rfl

theorem givesM_of_finishStore {i : Instr} {s : State} {cells : List Host.Cell} (h : exec i s = finishStore s cells)
    (hd : (cells.map Prod.fst).Nodup) : GivesM i s s cells :=
  ⟨_, h, stores_advance_storeBytes s hd, by simp, by simp⟩

/-! ### Integer loads (42_load_store.md R810 to R826) -/

theorem loaded_signed (n : Nat) (v : Word64) : loaded true n v = (v.setWidth (8 * n)).signExtend 64 := rfl

theorem loaded_unsigned (n : Nat) (v : Word64) : loaded false n v = (v.setWidth (8 * n)).setWidth 64 := by
  apply BitVec.eq_of_toNat_eq
  simp [loaded]

theorem loaded_extended (v : Word64) : loaded false 8 v = v := by
  rw [loaded_unsigned, BitVec.setWidth_eq, BitVec.setWidth_eq]

/-- An instruction that reads a value and puts it into `R[rd]` gives that register, the read seen. -/
theorem givesR_of_read {α : Type} {i : Instr} {s : State} {acc : Access} {g : Target} {rd : RegNum} {ra n : Nat}
    {little : Bool} {x : Word64} {y : α} {read : Memory → Nat → Bool → Except Nat α} {extend : α → Word64}
    (hi : exec i s = withLoad s acc g fun s m ra little => withRead (read m ra little) fun v => finishReg s rd (extend v))
    (hr : Reaches s acc g ra little) (hn : acc.width = n) (hy : read (readView s ra n) ra little = .ok y)
    (hx : x = extend y) : GivesR i s (seen s ra n) rd x :=
  givesR_of_base (by rw [hi, withLoad_of_reaches _ hr, hn, hy, withRead_ok, hx]) (seen_npc s ra n)

section
variable {i : Instr} {s : State} {g : Target} {rd : RegNum} {ra : Nat} {little : Bool} {v x : Word64}

theorem givesR_of_loadByte {extend : Byte → Word64} (hs : Sees s ra 1 little v) (hx : x = extend (v.setWidth 8))
    (hi : exec i s = loadByte s rd g extend) (hr : Reaches s (.load 1) g ra little) : GivesR i s (seen s ra 1) rd x :=
  givesR_of_read hi hr rfl (readByte_of_sees hs) hx

theorem givesR_of_loadHalf {extend : Half → Word64} (hs : Sees s ra 2 little v) (hx : x = extend (v.setWidth 16))
    (hi : exec i s = loadHalf s rd g extend) (hr : Reaches s (.load 2) g ra little) : GivesR i s (seen s ra 2) rd x :=
  givesR_of_read hi hr rfl (readHalf_of_sees hs) hx

theorem givesR_of_loadWord {extend : Word32 → Word64} (hs : Sees s ra 4 little v) (hx : x = extend (v.setWidth 32))
    (hi : exec i s = loadWord s rd g extend) (hr : Reaches s (.load 4) g ra little) : GivesR i s (seen s ra 4) rd x :=
  givesR_of_read hi hr rfl (readWord_of_sees hs) hx

theorem givesR_of_loadDoubleword {acc : Access} (hs : Sees s ra 8 little v) (hx : x = v) (hn : acc.width = 8)
    (hi : exec i s = loadDoubleword s rd acc g) (hr : Reaches s acc g ra little) : GivesR i s (seen s ra 8) rd x :=
  givesR_of_read hi hr hn (readDouble_of_sees hs) hx

end

/-- LDXA is a load where its access goes to a real address (42_load_store.md R826). -/
theorem exec_ldxa_of_reaches {s : State} {rs1 : RegNum} {src : AsiOperand} {ra : Nat} {little : Bool} (rd : RegNum)
    (h : Reaches s .loadExtended (alternateTarget s rs1 src) ra little) :
    exec (.ldxa rd rs1 src) s = loadDoubleword s rd .loadExtended (alternateTarget s rs1 src) := by
  rw [Reaches] at h
  show execLdxa rd rs1 src s = _
  simp only [execLdxa, h]

/-- Settles O23: the row's load by its width, its extension that of the row. -/
theorem integerLoads : Obligations.IntegerLoads := by
  unfold Obligations.IntegerLoads
  simp only [loadTable, List.forall_mem_cons]
  refine ⟨fun s rd rs1 ra little v hs => ?ldub, fun s rd rs1 ra little v hs => ?lduh,
    fun s rd rs1 ra little v hs => ?lduw, fun s rd rs1 ra little v hs => ?ldsb, fun s rd rs1 ra little v hs => ?ldsh,
    fun s rd rs1 ra little v hs => ?ldsw, fun s rd rs1 ra little v hs => ?ldx, List.forall_mem_nil _⟩
  case ldub =>
    have hx := loaded_unsigned 1 v
    exact ⟨fun _ => givesR_of_loadByte hs hx rfl, fun _ => givesR_of_loadByte hs hx rfl⟩
  case lduh =>
    have hx := loaded_unsigned 2 v
    exact ⟨fun _ => givesR_of_loadHalf hs hx rfl, fun _ => givesR_of_loadHalf hs hx rfl⟩
  case lduw =>
    have hx := loaded_unsigned 4 v
    exact ⟨fun _ => givesR_of_loadWord hs hx rfl, fun _ => givesR_of_loadWord hs hx rfl⟩
  case ldsb =>
    have hx := loaded_signed 1 v
    exact ⟨fun _ => givesR_of_loadByte hs hx rfl, fun _ => givesR_of_loadByte hs hx rfl⟩
  case ldsh =>
    have hx := loaded_signed 2 v
    exact ⟨fun _ => givesR_of_loadHalf hs hx rfl, fun _ => givesR_of_loadHalf hs hx rfl⟩
  case ldsw =>
    have hx := loaded_signed 4 v
    exact ⟨fun _ => givesR_of_loadWord hs hx rfl, fun _ => givesR_of_loadWord hs hx rfl⟩
  case ldx =>
    have hx := loaded_extended v
    exact ⟨fun _ => givesR_of_loadDoubleword hs hx rfl rfl,
      fun _ hr => givesR_of_loadDoubleword hs hx rfl (exec_ldxa_of_reaches rd hr) hr⟩

/-! ### Twin loads (42_load_store.md R830 to R832) -/

theorem readReg_writeReg_same (s : State) (rd : RegNum) (v : Word64) :
    readReg (writeReg s rd v) rd = if rd = 0#5 then 0 else v := by
  rw [readReg_writeReg]
  by_cases hz : rd = 0#5 <;> simp [hz]

theorem writeReg_frame (s : State) (rd : RegNum) (v : Word64) (globals : Vector Word64 21) (windows : Vector Word64 128) :
    { writeReg s rd v with globals := globals, windows := windows } = { s with globals := globals, windows := windows } := by
  rw [writeReg]
  cases phys s.gl s.cwp rd <;> rfl

/-- The even register first, then the odd one: each holds its own word. -/
theorem givesPair_of_finishTwin {i : Instr} {s : State} {rd : RegNum} {ra n : Nat} {v0 v1 : Word64}
    (he : rd.getLsbD 0 = false) (h : exec i s = finishTwin (seen s ra n) rd v0 v1) :
    GivesPair i s (seen s ra n) rd v0 v1 := by
  refine ⟨_, h, ?even, ?odd, fun p h1 h2 => ?others, by simp [oddOf], by simp [oddOf], ?frame⟩
  case even =>
    rw [readReg_advance, readReg_writeReg, if_neg fun e => or_one_ne_of_even he e.1.symm, readReg_writeReg_same]
  case odd =>
    have hz : rd ||| 1#5 ≠ 0#5 := fun e => by simpa [e] using toNat_or_one_of_even he
    rw [readReg_advance, oddOf, readReg_writeReg_same, if_neg hz]
  case others =>
    rw [readPhys_advance, readPhys_writeReg_of_ne _ _ _ (by simpa [oddOf] using h2),
      readPhys_writeReg_of_ne _ _ _ (by simpa using h1), readPhys_seen]
  case frame =>
    have hw := (writeReg_frame (writeReg (seen s ra n) rd v0) (oddOf rd) v1 s.globals s.windows).trans
      (writeReg_frame _ rd v0 _ _)
    exact (congrArg (fun u : State => { u with pc := s.pc, npc := s.npc }) hw).trans (seen_frame s ra n)

/-- An instruction that reads two values and puts them into a pair of registers gives the pair, the read seen. -/
theorem givesPair_of_reads {α : Type} {i : Instr} {s : State} {acc : Access} {g : Target} {rd : RegNum} {ra n : Nat}
    {little : Bool} {x0 x1 : Word64} {y0 y1 : α} {read0 read1 : Memory → Nat → Bool → Except Nat α} {extend : α → Word64}
    (he : rd.getLsbD 0 = false)
    (hi : exec i s = if rd.getLsbD 0 then raise s .illegalInstruction else
      withLoad s acc g fun s m ra little => withRead (read0 m ra little) fun v0 =>
        withRead (read1 m ra little) fun v1 => finishTwin s rd (extend v0) (extend v1))
    (hr : Reaches s acc g ra little) (hn : acc.width = n) (hy0 : read0 (readView s ra n) ra little = .ok y0)
    (hy1 : read1 (readView s ra n) ra little = .ok y1) (hx0 : x0 = extend y0) (hx1 : x1 = extend y1) :
    GivesPair i s (seen s ra n) rd x0 x1 :=
  givesPair_of_finishTwin he (by
    rw [hi, if_neg (not_odd he), withLoad_of_reaches _ hr, hn, hy0, withRead_ok, hy1, withRead_ok, hx0, hx1])

/-- Settles O24: an even `rd` passes the check, and each part of the access is read in its own byte order. -/
theorem twinLoads : Obligations.TwinLoads := by
  refine fun s rd rs1 ra little v0 v1 he => ⟨fun h0 h1 => ?words, fun h0 h1 rs2 asi hr => ?doubles⟩
  case words =>
    have hy0 := readWord_of_seesPart h0 (by omega) (by omega)
    have hy1 := readWord_of_seesPart h1 (by omega) (by omega)
    have hx0 := loaded_unsigned 4 v0
    have hx1 := loaded_unsigned 4 v1
    exact ⟨fun _ hr => givesPair_of_reads he rfl hr rfl hy0 hy1 hx0 hx1,
      fun _ hr => givesPair_of_reads he rfl hr rfl hy0 hy1 hx0 hx1⟩
  case doubles =>
    have hy0 := readDouble_of_seesPart h0 (by omega) (by omega)
    have hy1 := readDouble_of_seesPart h1 (by omega) (by omega)
    exact givesPair_of_reads (extend := id) he rfl hr rfl hy0 hy1 rfl rfl

/-! ### Integer stores (42_load_store.md R840 to R857) -/

section
variable {i : Instr} {s : State} {g : Target} {ra : Nat} {little : Bool}

theorem givesM_of_storeValue {acc : Access} {v : Word64} (hi : exec i s = storeValue s acc g v)
    (hr : Reaches s acc g ra little) : GivesM i s s (image ra acc.width little v) :=
  givesM_of_finishStore (hi.trans (withData_of_memory _ hr)) (nodup_image ra acc.width little v)

theorem givesM_of_storeTwinWord {rd : RegNum} (hi : exec i s = storeTwinWord s rd g)
    (hr : Reaches s (.store 8) g ra little) :
    GivesM i s s (image ra 4 little (readReg s rd) ++ image (ra + 4) 4 little (readReg s (rd ||| 1#5))) :=
  givesM_of_finishStore (hi.trans (withData_of_memory _ hr)) (nodup_image_append ra 4 4 little _ _)

end

/-- STXA is a store where its access goes to a real address (42_load_store.md R853). -/
theorem exec_stxa_of_reaches {s : State} {rs1 : RegNum} {src : AsiOperand} {ra : Nat} {little : Bool} (rd : RegNum)
    (h : Reaches s .storeExtended (alternateTarget s rs1 src) ra little) :
    exec (.stxa rd rs1 src) s = storeValue s .storeExtended (alternateTarget s rs1 src) (readReg s rd) := by
  rw [Reaches] at h
  show execStxa rd rs1 src s = _
  simp only [execStxa, h]

/-- Settles O25: each row stores the image of the register, the twin forms two images side by side. -/
theorem integerStores : Obligations.IntegerStores := by
  refine ⟨?rows, fun s rd rs1 ra little he => ⟨fun _ => ?sttw, fun _ => ?sttwa⟩⟩
  case rows =>
    simp only [storeTable, List.forall_mem_cons]
    refine ⟨?_, ?_, ?_, fun s rd rs1 ra little => ⟨fun _ => givesM_of_storeValue rfl,
      fun _ hr => givesM_of_storeValue (exec_stxa_of_reaches rd hr) hr⟩, List.forall_mem_nil _⟩
    all_goals exact fun s rd rs1 ra little => ⟨fun _ => givesM_of_storeValue rfl, fun _ => givesM_of_storeValue rfl⟩
  case sttw | sttwa => exact givesM_of_storeTwinWord (if_neg (not_odd he))

/-! ### Atomic load-stores (42_load_store.md R860 to R865) -/

/-- Neither a read nor a store changes the register arrays (20_memory.md R202). -/
theorem storeBytes_seen_frame (s : State) (ra n : Nat) (cells : List Host.Cell) :
    { storeBytes (seen s ra n) cells with globals := s.globals, windows := s.windows }
      = storeBytes (seen s ra n) cells := by
  rw [← seen_frame]
  rfl

/-- The bytes are stored and the old value is in `R[rd]`: each leaves the other's part of the state alone. -/
theorem exchanges_of_finishAtomic {i : Instr} {s : State} {rd : RegNum} {ra n : Nat} {old : Word64} {cells : List Host.Cell}
    (h : exec i s = finishAtomic (seen s ra n) cells rd old) (hd : (cells.map Prod.fst).Nodup) :
    Exchanges i s rd ra n old cells := by
  refine ⟨_, h, ?destination, fun p hp => ?others, ?stores, by simp, by simp⟩
  case destination => rw [readReg_advance, readReg_writeReg_same]
  case others =>
    rw [readPhys_advance, readPhys_writeReg_of_ne _ _ _ (by simpa using hp), readPhys_storeBytes, readPhys_seen]
  case stores =>
    have hw : { advance (writeReg (storeBytes (seen s ra n) cells) rd old) with globals := s.globals, windows := s.windows }
        = advance (storeBytes (seen s ra n) cells) :=
      congrArg advance ((writeReg_frame _ rd old _ _).trans (storeBytes_seen_frame s ra n cells))
    rw [hw]
    exact stores_advance_storeBytes (seen s ra n) hd

/-- An instruction that reads a value, stores bytes and puts the old value into `R[rd]` exchanges them. -/
theorem exchanges_of_read {α : Type} {i : Instr} {s : State} {acc : Access} {g : Target} {rd : RegNum} {ra n : Nat}
    {little : Bool} {x : Word64} {y : α} {read : Memory → Nat → Bool → Except Nat α} {extend : α → Word64}
    {stored : State → Nat → Bool → α → List Host.Cell} {cells : List Host.Cell}
    (hi : exec i s = withLoad s acc g fun s m ra little => withRead (read m ra little) fun old =>
      finishAtomic s (stored s ra little old) rd (extend old))
    (hr : Reaches s acc g ra little) (hn : acc.width = n) (hy : read (readView s ra n) ra little = .ok y)
    (hx : x = extend y) (hc : cells = stored (seen s ra n) ra little y) (hd : (cells.map Prod.fst).Nodup) :
    Exchanges i s rd ra n x cells :=
  exchanges_of_finishAtomic (by rw [hi, withLoad_of_reaches _ hr, hn, hy, withRead_ok, hx, hc]) hd

section
variable {i : Instr} {s : State} {g : Target} {rd : RegNum} {ra : Nat} {little : Bool} {v : Word64}

theorem exchanges_of_loadStoreByte (hs : Sees s ra 1 little v) (hi : exec i s = loadStoreByte s rd g)
    (hr : Reaches s (.atomic 1) g ra little) : Exchanges i s rd ra 1 (loaded false 1 v) [(ra, 0xFF)] :=
  exchanges_of_read hi hr rfl (readByte_of_sees hs) (loaded_unsigned 1 v) rfl (List.nodup_singleton _)

theorem exchanges_of_swapWord (hs : Sees s ra 4 little v) (hi : exec i s = swapWord s rd g)
    (hr : Reaches s (.atomic 4) g ra little) :
    Exchanges i s rd ra 4 (loaded false 4 v) (image ra 4 little (readReg s rd)) :=
  exchanges_of_read hi hr rfl (readWord_of_sees hs) (loaded_unsigned 4 v) (by rw [readReg_seen, placed_eq_image])
    (nodup_image ra 4 little _)

end

/-- The bytes of a compare and swap: the image of a register, or none. -/
theorem nodup_image_ite (c : Prop) [Decidable c] (ra n : Nat) (little : Bool) (v : Word64) :
    ((if c then image ra n little v else []).map Prod.fst).Nodup := by
  split
  · exact nodup_image ra n little v
  · exact List.nodup_nil

/-- The comparison of CASA, in numbers (42_load_store.md R864). -/
theorem setWidth32_eq_iff (v w : Word64) :
    v.setWidth 32 = w.setWidth 32 ↔ v.toNat % 2 ^ 32 = w.toNat % 2 ^ 32 := by
  rw [← BitVec.toNat_inj, BitVec.toNat_setWidth, BitVec.toNat_setWidth]

theorem exec_casa (rd rs1 rs2 : RegNum) (src : CasAsi) (s : State) :
    exec (.casa rd rs1 rs2 src) s = execCasa rd rs1 rs2 src s := rfl

theorem exec_casxa (rd rs1 rs2 : RegNum) (src : CasAsi) (s : State) :
    exec (.casxa rd rs1 rs2 src) s = execCasxa rd rs1 rs2 src s := rfl

/-- Settles O26: each reads the old value and stores its bytes; a compare and swap stores none where the values differ. -/
theorem atomicAccesses : Obligations.AtomicAccesses := by
  refine fun s rd rs1 rs2 ra little v =>
    ⟨fun hs => ⟨fun _ => exchanges_of_loadStoreByte hs rfl, fun _ => exchanges_of_loadStoreByte hs rfl⟩,
      fun hs => ⟨fun _ => exchanges_of_swapWord hs rfl, fun _ => exchanges_of_swapWord hs rfl, fun src hr => ?casa⟩,
      fun hs src hr => ?casxa⟩
  case casa =>
    refine exchanges_of_read (exec_casa rd rs1 rs2 src s) hr rfl (readWord_of_sees hs) (loaded_unsigned 4 v) ?_
      (nodup_image_ite _ ra 4 little _)
    simp only [readReg_seen, setWidth32_eq_iff, placed_eq_image]
  case casxa =>
    refine exchanges_of_read (extend := id) (exec_casxa rd rs1 rs2 src s) hr rfl (readDouble_of_sees hs) rfl ?_
      (nodup_image_ite _ ra 8 little _)
    simp only [readReg_seen, placed_eq_image]

end Sys2Proof.Machine

/-! SUPPORT. Floating-point loads and stores: what a write of F registers changes, which fields of FSR a load takes, and the instructions with them (43_fp_load_store.md R955 to R995). -/

namespace Sys2Proof.Machine

open Sys2Proof.Claims

/-! ### F registers written one after another (10_state.md R71, R102; 43_fp_load_store.md R985) -/

/-- A second write in the same half of the F registers marks FPRS no further. -/
theorem dirty_dirty (p : BitVec 3) {m n : Nat} (h : m < 32 ↔ n < 32) : dirty (dirty p m) n = dirty p m := by
  simp only [dirty, h]
  split <;> rw [BitVec.or_assoc, BitVec.or_self]

theorem dirty_eq_or (p : BitVec 3) (n : Nat) : dirty p n = p ||| (if n < 32 then 1 else 2) := by
  unfold dirty
  split <;> rfl

/-- The words of a double register are its number and the one after it. -/
theorem val_firstWord (d : BitVec 6) : (Fin.ofNat 64 d.toNat).val = d.toNat := Nat.mod_eq_of_lt d.isLt

theorem val_secondWord {d : BitVec 6} (hd : d.toNat + 2 ≤ 64) : (Fin.ofNat 64 (d.toNat + 1)).val = d.toNat + 1 :=
  Nat.mod_eq_of_lt hd

/-- A word that is none of a double register's two keeps its value. -/
theorem writeFd_fregs_of_ne (s : State) {d : BitVec 6} (v : Word64) {w : Fin 64} (hd : d.toNat + 2 ≤ 64)
    (h : w.val < d.toNat ∨ d.toNat + 2 ≤ w.val) : (writeFd s d v).fregs[w] = s.fregs[w] := by
  have h0 := val_firstWord d
  have h1 := val_secondWord hd
  rw [writeFd_fregs, if_neg (Fin.ne_of_val_ne (by omega)), if_neg (Fin.ne_of_val_ne (by omega))]

theorem readFd_writeFd_same (s : State) {d : BitVec 6} (v : Word64) (hd : d.toNat + 2 ≤ 64) :
    readFd (writeFd s d v) d = v := by
  have h0 := val_firstWord d
  have h1 := val_secondWord hd
  have hne : Fin.ofNat 64 d.toNat ≠ Fin.ofNat 64 (d.toNat + 1) := Fin.ne_of_val_ne (by omega)
  rw [readFd, writeFd_fregs, writeFd_fregs, if_neg hne, if_pos rfl, if_pos rfl]
  exact extract_halves v

/-- The number of the next double register; past the last it is 0. -/
theorem toNat_add_two (d : BitVec 6) : (d + 2).toNat = (d.toNat + 2) % 64 := BitVec.toNat_add d 2

/-- The double register `k` places after the next one. -/
theorem add_two_add (d : BitVec 6) (k : Nat) :
    d + 2 + BitVec.ofNat 6 (2 * k) = d + BitVec.ofNat 6 (2 * (k + 1)) := by
  rw [Nat.mul_succ, Nat.add_comm, BitVec.ofNat_add, ← BitVec.add_assoc]
  rfl

theorem writeFds_fregs_of_ne (s : State) {d : BitVec 6} {vs : List Word64} {w : Fin 64}
    (hd : d.toNat + 2 * vs.length ≤ 64) (h : w.val < d.toNat ∨ d.toNat + 2 * vs.length ≤ w.val) :
    (writeFds s d vs).fregs[w] = s.fregs[w] := by
  induction vs generalizing s d with
  | nil => rfl
  | cons v vs ih =>
    have hn := toNat_add_two d
    rw [List.length_cons] at hd h
    rw [writeFds, ih _ (by omega) (by omega), writeFd_fregs_of_ne s v (by omega) (by omega)]

/-- Each of the registers holds its own value: no later write reaches it. -/
theorem readFd_writeFds (s : State) {d : BitVec 6} {vs : List Word64} (hd : d.toNat + 2 * vs.length ≤ 64)
    {k : Nat} (hk : k < vs.length) : readFd (writeFds s d vs) (d + BitVec.ofNat 6 (2 * k)) = vs[k] := by
  induction vs generalizing s d k with
  | nil => cases hk
  | cons v vs ih =>
    have hn := toNat_add_two d
    rw [List.length_cons] at hd hk
    cases k with
    | zero =>
      have h0 := val_firstWord d
      have h1 := val_secondWord (d := d) (by omega)
      rw [Nat.mul_zero, BitVec.add_zero, writeFds, readFd, writeFds_fregs_of_ne _ (by omega) (by omega),
        writeFds_fregs_of_ne _ (by omega) (by omega)]
      exact readFd_writeFd_same s v (by omega)
    | succ k =>
      rw [← add_two_add, writeFds]
      exact ih _ (by omega) (by omega)

theorem writeFds_fprs (s : State) {d : BitVec 6} {vs : List Word64} (hne : vs ≠ [])
    (hd : d.toNat + 2 * vs.length ≤ 64) (hlow : d.toNat < 32 → d.toNat + 2 * vs.length ≤ 32) :
    (writeFds s d vs).fprs = dirty s.fprs d.toNat := by
  induction vs generalizing s d with
  | nil => exact absurd rfl hne
  | cons v vs ih =>
    have hn := toNat_add_two d
    rw [List.length_cons] at hd hlow
    by_cases he : vs = []
    · rw [he]
      rfl
    · have hl := List.length_pos_iff.2 he
      rw [writeFds, ih _ he (by omega) (by omega)]
      exact dirty_dirty s.fprs (by omega)

theorem writeFds_frame (s : State) (d : BitVec 6) (vs : List Word64) (fregs : Vector Word32 64) (fprs : BitVec 3) :
    { writeFds s d vs with fregs := fregs, fprs := fprs } = { s with fregs := fregs, fprs := fprs } := by
  induction vs generalizing s d with
  | nil => rfl
  | cons v vs ih => exact ih (writeFd s d v) (d + 2)

@[simp] theorem writeFds_npc (s : State) (d : BitVec 6) (vs : List Word64) : (writeFds s d vs).npc = s.npc := by
  simpa using congrArg State.npc (writeFds_frame s d vs s.fregs s.fprs)

@[simp] theorem readFd_advance (s : State) (d : BitVec 6) : readFd (advance s) d = readFd s d := rfl

/-! ### The end of an instruction that writes F registers -/

theorem writesF_advance_writeS (s : State) (rd : RegNum) (v : Word32) :
    WritesF s (advance (writeS s rd v)) rd.toNat 1 where
  others w h := by
    have hne : (singleWord rd).val ≠ w.val := by
      rw [singleWord, Fin.val_ofNat]
      omega
    exact Vector.getElem_set_ne (singleWord rd).isLt w.isLt hne
  dirty := dirty_eq_or s.fprs rd.toNat
  frame := rfl

/-- Double registers of one half of the F registers. -/
theorem writesF_advance_writeFds (s : State) {d : BitVec 6} {vs : List Word64} (hne : vs ≠ [])
    (hd : d.toNat + 2 * vs.length ≤ 64) (hlow : d.toNat < 32 → d.toNat + 2 * vs.length ≤ 32) :
    WritesF s (advance (writeFds s d vs)) d.toNat (2 * vs.length) where
  others _ h := by rw [advance_fregs, writeFds_fregs_of_ne s hd h]
  dirty := by rw [advance_fprs, writeFds_fprs s hne hd hlow, dirty_eq_or]
  frame := congrArg (fun t : State => { t with pc := s.pc, npc := s.npc }) (writeFds_frame s d vs s.fregs s.fprs)

section
variable {i : Instr} {s base : State} {rd : RegNum} (hn : base.npc = s.npc)
include hn

theorem givesS_of_base {v : Word32} (h : exec i s = .next (advance (writeS base rd v))) : GivesS i s base rd v :=
  ⟨_, h, writesF_advance_writeS base rd v, by rw [readS_advance, readS_writeS, if_pos rfl], by simp [hn], by simp [hn]⟩

theorem givesD_of_base {v : Word64} (h : exec i s = .next (advance (writeD base rd v))) : GivesD i s base rd v := by
  have he := doubleNumber_even rd
  have hw : WritesF base (advance (writeD base rd v)) (doubleNumber rd).toNat 2 :=
    writesF_advance_writeFds base (vs := [v]) (List.cons_ne_nil _ _) (by simp; omega) (by simp; omega)
  exact ⟨_, h, hw, by rw [readD_advance, readD_writeD_same], by simp [hn], by simp [hn]⟩

/-- Eight double registers from an aligned one on lie in one half of the F registers (43_fp_load_store.md R985). -/
theorem givesBlock_of_base {v : Nat → Word64} (ha : (doubleNumber rd).toNat % 16 = 0)
    (h : exec i s = .next (advance (writeFds base (doubleNumber rd) ((List.range 8).map v)))) :
    GivesBlock i s base rd v := by
  have hd : (doubleNumber rd).toNat + 2 * ((List.range 8).map v).length ≤ 64 := by
    simp only [List.length_map, List.length_range]
    omega
  have hw := writesF_advance_writeFds base (vs := (List.range 8).map v) (by simp) hd (by simp; omega)
  refine ⟨_, h, hw, fun k hk => ?_, by simp [hn], by simp [hn]⟩
  rw [readFd_advance, readFd_writeFds base hd (by simpa using hk), List.getElem_map, List.getElem_range]

end

/-! ### Loads of one register (43_fp_load_store.md R955 to R961, R990) -/

section
variable {i : Instr} {s : State} {g : Target} {rd : RegNum} {ra : Nat} {little : Bool} {v : Word64}

/-- An instruction that reads a value and puts it into a double register gives that register, the read seen. -/
theorem givesD_of_read {α : Type} {acc : Access} {n : Nat} {x : Word64} {y : α}
    {read : Memory → Nat → Bool → Except Nat α} {extend : α → Word64}
    (hi : exec i s = withLoad s acc g fun s m ra little =>
      withRead (read m ra little) fun v => .next (advance (writeD s rd (extend v))))
    (hr : Reaches s acc g ra little) (hn : acc.width = n) (hy : read (readView s ra n) ra little = .ok y)
    (hx : x = extend y) : GivesD i s (seen s ra n) rd x :=
  givesD_of_base (seen_npc s ra n) (by rw [hi, withLoad_of_reaches _ hr, hn, hy, withRead_ok, hx])

variable (hf : fpuEnabled s = true)
include hf

theorem givesS_of_loadFpSingle (hs : Sees s ra 4 little v) (hi : exec i s = loadFpSingle s rd g)
    (hr : Reaches s (.load 4) g ra little) : GivesS i s (seen s ra 4) rd (v.setWidth 32) :=
  givesS_of_base (seen_npc s ra 4) (by
    rw [hi, loadFpSingle, requireFpu_of_enabled _ hf, withLoad_of_reaches _ hr]
    exact congrArg (withRead · _) (readWord_of_sees hs))

theorem givesD_of_loadFpDouble (hs : Sees s ra 8 little v) (hi : exec i s = requireFpu s (loadFpDouble s rd g))
    (hr : Reaches s .loadDouble g ra little) : GivesD i s (seen s ra 8) rd v :=
  givesD_of_read (extend := id) (hi.trans (requireFpu_of_enabled _ hf)) hr rfl (readDouble_of_sees hs) rfl

theorem givesD_of_shortLoad {n : Nat} (hn : n = if g.asi.getLsbD 1 then 2 else 1) (hs : Sees s ra n little v)
    (hi : exec i s = shortLoad s rd g) (hr : Reaches s (.shortLoad n) g ra little) :
    GivesD i s (seen s ra n) rd (loaded false n v) := by
  rw [shortLoad, requireFpu_of_enabled _ hf, shortIsHalf] at hi
  split at hn
  case isTrue hb =>
    subst hn
    exact givesD_of_read (hi.trans (if_pos hb)) hr rfl (readHalf_of_sees hs) (loaded_unsigned 2 v)
  case isFalse hb =>
    subst hn
    exact givesD_of_read (hi.trans (if_neg hb)) hr rfl (readByte_of_sees hs) (loaded_unsigned 1 v)

end

/-! ### The class of an explicit ASI through which an access goes (20_memory.md R215) -/

theorem asiClass_of_reaches {s : State} {acc : Access} {g : Target} {ra : Nat} {little : Bool}
    (h : Reaches s acc g ra little) (hx : g.explicit = true) : asiClass g.asi ∈ acc.use.classes :=
  AsiUse.valid_iff.1 ((admitted_of_dataAccess h).2 hx).2

theorem loadDouble_classes : ∀ c ∈ AsiUse.loadDouble.classes, c ∉ [.block, .short] ∧ c ≠ .commit := by decide

theorem store_classes : ∀ c ∈ AsiUse.store.classes, c ∉ [.block, .commit, .short, .pst] := by decide

section
variable {s : State} {rs1 : RegNum} {src : AsiOperand} {ra : Nat} {little : Bool} (rd : RegNum)

theorem exec_lddfa_of_reaches (h : Reaches s .loadDouble (alternateTarget s rs1 src) ra little) :
    exec (.lddfa rd rs1 src) s = requireFpu s (loadFpDouble s rd (alternateTarget s rs1 src)) := by
  obtain ⟨hc, hn⟩ := loadDouble_classes _ (asiClass_of_reaches h rfl)
  exact exec_lddfa_of_double hc fun e => absurd e hn

theorem exec_stdfa_of_reaches (h : Reaches s .storeDouble (alternateTarget s rs1 src) ra little) :
    exec (.stdfa rd rs1 src) s = requireFpu s (storeFpDouble s rd (alternateTarget s rs1 src)) :=
  exec_stdfa_of_double (store_classes _ (asiClass_of_reaches h rfl))

theorem exec_stdfa_of_reaches_block (h : Reaches s .blockStore (alternateTarget s rs1 src) ra little) :
    exec (.stdfa rd rs1 src) s = blockStore s rd (alternateTarget s rs1 src) :=
  exec_stdfa_of_block (by simpa [Access.blockStore, AsiUse.classes] using asiClass_of_reaches h rfl)

theorem exec_lddfa_of_reaches_short {n : Nat} (h : Reaches s (.shortLoad n) (alternateTarget s rs1 src) ra little) :
    exec (.lddfa rd rs1 src) s = shortLoad s rd (alternateTarget s rs1 src) :=
  exec_lddfa_of_short (List.mem_singleton.1 (asiClass_of_reaches h rfl))

theorem exec_stdfa_of_reaches_short {n : Nat} (h : Reaches s (.shortStore n) (alternateTarget s rs1 src) ra little) :
    exec (.stdfa rd rs1 src) s = shortStore s rd (alternateTarget s rs1 src) :=
  exec_stdfa_of_short (List.mem_singleton.1 (asiClass_of_reaches h rfl))

end

/-- Settles O32: each form is the load of its width; the access of LDDFA goes through no ASI that selects another. -/
theorem fpLoads : Obligations.FpLoads :=
  fun _ rd _ _ _ _ hf =>
    ⟨fun hs => ⟨fun _ => givesS_of_loadFpSingle hf hs rfl, fun _ => givesS_of_loadFpSingle hf hs rfl⟩,
      fun hs => ⟨fun _ => givesD_of_loadFpDouble hf hs rfl,
        fun _ hr => givesD_of_loadFpDouble hf hs (exec_lddfa_of_reaches rd hr) hr⟩⟩

/-! ### Stores of one register (43_fp_load_store.md R970 to R976, R991) -/

/-- The bytes of a word are those of the word with zeros above it. -/
theorem placed_setWidth (little : Bool) {n : Nat} (ra : Nat) (v : Word32) (hn : n ≤ 8) :
    placed little n ra v = image ra n little (v.setWidth 64) := by
  rw [← placed_eq_image]
  refine List.map_congr_left fun k hk => Prod.ext rfl ?_
  have hi : (if little then k else n - 1 - k) < n := by
    have := List.mem_range.1 hk
    split <;> omega
  ext j hj
  simp only [BitVec.getElem_extractLsb', BitVec.getLsbD_setWidth]
  rw [decide_eq_true (by omega), Bool.true_and]

section
variable {i : Instr} {s : State} {g : Target} {rd : RegNum} {ra : Nat} {little : Bool} (hf : fpuEnabled s = true)
include hf

theorem givesM_of_storeFpSingle (hi : exec i s = storeFpSingle s rd g) (hr : Reaches s (.store 4) g ra little) :
    GivesM i s s (image ra 4 little ((readS s rd).setWidth 64)) := by
  refine givesM_of_finishStore ?_ (nodup_image ra 4 little _)
  rw [← placed_setWidth little ra _ (by decide), hi, storeFpSingle, requireFpu_of_enabled _ hf]
  exact withData_of_memory _ hr

theorem givesM_of_storeFpDouble (hi : exec i s = requireFpu s (storeFpDouble s rd g))
    (hr : Reaches s .storeDouble g ra little) : GivesM i s s (image ra 8 little (readD s rd)) :=
  givesM_of_storeValue (hi.trans (requireFpu_of_enabled _ hf)) hr

theorem givesM_of_shortStore {n : Nat} (hn : n = if g.asi.getLsbD 1 then 2 else 1) (hi : exec i s = shortStore s rd g)
    (hr : Reaches s (.shortStore n) g ra little) : GivesM i s s (image ra n little (readD s rd)) := by
  rw [shortStore, requireFpu_of_enabled _ hf, shortIsHalf, ← hn] at hi
  exact givesM_of_storeValue hi hr

end

/-- Settles O33: each form stores the image of its register; the access of STDFA goes through no ASI that selects another. -/
theorem fpStores : Obligations.FpStores :=
  fun _ rd _ _ _ hf =>
    ⟨fun _ => givesM_of_storeFpSingle hf rfl, fun _ => givesM_of_storeFpSingle hf rfl,
      fun _ => givesM_of_storeFpDouble hf rfl,
      fun _ hr => givesM_of_storeFpDouble hf (exec_stdfa_of_reaches rd hr) hr⟩

/-! ### FSR (43_fp_load_store.md R965, R966, R980, R981) -/

/-- Bit by bit: the mask selects what is loaded. -/
theorem getLsbD_loadFsrFields (mask fsr v : Word64) (b : Nat) :
    (loadFsrFields mask fsr v).getLsbD b = if mask.getLsbD b then v.getLsbD b else fsr.getLsbD b := by
  by_cases hb : b < 64
  · simp only [loadFsrFields, BitVec.getLsbD_or, BitVec.getLsbD_and, BitVec.getLsbD_not, hb]
    cases mask.getLsbD b <;> simp
  · simp [BitVec.getLsbD_of_ge _ b (Nat.le_of_not_lt hb)]

/-- A doubleword whose 64 bits are given by a condition on their numbers: there is no bit beyond them. -/
theorem getLsbD_iff_of_fin {m : Word64} {p : Nat → Prop} (h : ∀ k : Fin 64, m.getLsbD k.val = true ↔ p k.val)
    (hp : ∀ b, p b → b < 64) : ∀ b, m.getLsbD b = true ↔ p b := by
  intro b
  by_cases hb : b < 64
  · exact h ⟨b, hb⟩
  · exact iff_of_false (by simp [BitVec.getLsbD_of_ge m b (Nat.le_of_not_lt hb)]) (mt (hp b) hb)

/-- The fields that LDFSR loads: `rd`, `tem`, `fcc0`, `aexc` and `cexc`. -/
theorem ldfsrMask_bit : ∀ b,
    (fsrLoadMask 0xCF800FFF).getLsbD b = true ↔ (30 ≤ b ∧ b ≤ 31) ∨ (23 ≤ b ∧ b ≤ 27) ∨ b ≤ 11 :=
  getLsbD_iff_of_fin (by decide) fun _ _ => by omega

/-- LDXFSR loads `fcc1` to `fcc3` as well. -/
theorem ldxfsrMask_bit : ∀ b, (fsrLoadMask 0x3FCF800FFF).getLsbD b = true
    ↔ (32 ≤ b ∧ b ≤ 37) ∨ (30 ≤ b ∧ b ≤ 31) ∨ (23 ≤ b ∧ b ≤ 27) ∨ b ≤ 11 :=
  getLsbD_iff_of_fin (by decide) fun _ _ => by omega

@[simp] theorem seen_fsr (s : State) (ra n : Nat) : (seen s ra n).fsr = s.fsr := by
  rw [← afterRead_eq_seen, afterRead_fsr]

/-- A load of FSR completes with the masked fields of what it reads. -/
theorem exec_of_fsrLoad {α : Type} {i : Instr} {s : State} {acc : Access} {g : Target} {ra n : Nat} {little : Bool}
    {y : α} {read : Memory → Nat → Bool → Except Nat α} {extend : α → Word64} {mask : Word64}
    (hf : fpuEnabled s = true)
    (hi : exec i s = requireFpu s (withLoad s acc g fun s m ra little => withRead (read m ra little) fun v =>
      .next (advance { s with fsr := loadFsrFields mask s.fsr (extend v) })))
    (hr : Reaches s acc g ra little) (hn : acc.width = n) (hy : read (readView s ra n) ra little = .ok y) :
    exec i s = .next { seen s ra n with
      fsr := loadFsrFields mask s.fsr (extend y), pc := s.npc, npc := s.npc + 4 } := by
  rw [hi, requireFpu_of_enabled _ hf, withLoad_of_reaches _ hr, hn, hy, withRead_ok, seen_fsr, advance, seen_npc]

/-- A store made from a state that differs from `s` elsewhere. -/
theorem givesM_of_base {i : Instr} {s base : State} {cells : List Host.Cell} (h : exec i s = finishStore base cells)
    (hd : (cells.map Prod.fst).Nodup) (hn : base.npc = s.npc) : GivesM i s base cells :=
  ⟨_, h, stores_advance_storeBytes base hd, by simp [hn], by simp [hn]⟩

/-- A store of FSR stores the old FSR and leaves `ftt` zero. -/
theorem givesM_of_fsrStore {i : Instr} {s : State} {acc : Access} {g : Target} {ra : Nat} {little : Bool} (n : Nat)
    (hf : fpuEnabled s = true)
    (hi : exec i s = requireFpu s (withData s acc g fun ra little =>
      finishStore { s with fsr := clearFtt s.fsr } (placed little n ra s.fsr)))
    (hr : Reaches s acc g ra little) :
    GivesM i s { s with fsr := s.fsr &&& ~~~0x1C000#64 } (image ra n little s.fsr) :=
  givesM_of_base (by rw [hi, requireFpu_of_enabled _ hf, withData_of_memory _ hr]; rfl) (nodup_image ra n little _) rfl

/-- Settles O34: the loads by the bits of their masks, the stores by the image of the old FSR. -/
theorem fsrTransfers : Obligations.FsrTransfers := by
  refine fun s rs1 op2 ra little v hf => ⟨fun hs hr => ?ldfsr, fun hs hr => ?ldxfsr,
    givesM_of_fsrStore 4 hf rfl, givesM_of_fsrStore 8 hf rfl⟩
  case ldfsr =>
    refine ⟨_, exec_of_fsrLoad hf rfl hr rfl (readWord_of_sees hs), fun b => ?_⟩
    simp only [getLsbD_loadFsrFields, ldfsrMask_bit]
    refine if_ctx_congr Iff.rfl (fun hb => ?_) fun _ => rfl
    simp [show b < 64 by omega, show b < 32 by omega]
  case ldxfsr =>
    refine ⟨_, exec_of_fsrLoad (extend := id) hf rfl hr rfl (readDouble_of_sees hs), fun b => ?_⟩
    simp only [getLsbD_loadFsrFields, ldxfsrMask_bit, id]

/-! ### Block loads and stores (43_fp_load_store.md R985, R986; 20_memory.md R239) -/

theorem readDoubles_of_readDouble {m : Memory} {little : Bool} {ra n : Nat} {v : Nat → Word64}
    (h : ∀ k, k < n → m.readDouble little (ra + 8 * k) = .ok (v k)) :
    readDoubles m little ra n = .ok ((List.range n).map v) := by
  induction n generalizing ra v with
  | zero => rfl
  | succ n ih =>
    have h0 := h 0 (by omega)
    have hs := ih (ra := ra + 8) (v := fun k => v (k + 1)) fun k hk => by
      rw [Nat.add_assoc, Nat.add_comm 8]
      exact h (k + 1) (by omega)
    rw [Nat.mul_zero, Nat.add_zero] at h0
    rw [readDoubles, h0, hs, List.range_succ_eq_map, List.map_cons, List.map_map]
    rfl

theorem readFds_eq_map (s : State) (d : BitVec 6) (n : Nat) :
    readFds s d n = (List.range n).map fun k => readFd s (d + BitVec.ofNat 6 (2 * k)) := by
  induction n generalizing d with
  | zero => rfl
  | succ n ih =>
    rw [readFds, ih, List.range_succ_eq_map, List.map_cons, List.map_map, Nat.mul_zero, BitVec.add_zero]
    simp only [add_two_add, Function.comp_def]

theorem placedDoubles_map (little : Bool) (ra n : Nat) (v : Nat → Word64) :
    placedDoubles little ra ((List.range n).map v)
      = (List.range n).flatMap fun k => image (ra + 8 * k) 8 little (v k) := by
  induction n generalizing ra v with
  | zero => rfl
  | succ n ih =>
    have he : ∀ k, ra + 8 + 8 * k = ra + 8 * (k + 1) := fun k => by omega
    rw [List.range_succ_eq_map, List.map_cons, List.map_map, placedDoubles, ih, List.flatMap_cons, List.flatMap_map,
      placed_eq_image]
    simp only [he, Function.comp_def]
    rfl

/-- Doublewords at successive addresses cover the bytes from the first on. -/
theorem map_fst_placedDoubles (little : Bool) (ra : Nat) (vs : List Word64) :
    (placedDoubles little ra vs).map Prod.fst = (List.range (8 * vs.length)).map (ra + ·) := by
  induction vs generalizing ra with
  | nil => rfl
  | cons v vs ih =>
    rw [placedDoubles, List.map_append, map_fst_placed, ih, List.length_cons, Nat.mul_succ,
      Nat.add_comm (8 * vs.length), List.range_add, List.map_append, List.map_map]
    simp only [Function.comp_def, Nat.add_assoc]

section
variable {i : Instr} {s : State} {g : Target} {rd : RegNum} {ra : Nat} {little : Bool}
  (ha : (doubleNumber rd).toNat % 16 = 0) (hf : fpuEnabled s = true)
include ha hf

theorem givesBlock_of_blockLoad {v : Nat → Word64}
    (hs : ∀ k, k < 8 → SeesPart s ra 64 (ra + 8 * k) 8 little (v k)) (hi : exec i s = blockLoad s rd g)
    (hr : Reaches s .blockLoad g ra little) : GivesBlock i s (seen s ra 64) rd v := by
  have hy : readDoubles (readView s ra 64) little ra 8 = .ok ((List.range 8).map v) :=
    readDoubles_of_readDouble fun k hk => readDouble_of_seesPart (hs k hk) (by omega) (by omega)
  refine givesBlock_of_base (seen_npc s ra 64) ha ?_
  rw [hi, blockLoad, if_pos (blockAligned_iff.2 ha), requireFpu_of_enabled _ hf, withLoad_of_reaches _ hr]
  exact congrArg (withRead · _) hy

theorem givesM_of_blockStore (hi : exec i s = blockStore s rd g) (hr : Reaches s .blockStore g ra little) :
    GivesM i s s (blockImage ra little fun k => readFd s (doubleNumber rd + BitVec.ofNat 6 (2 * k))) := by
  rw [blockImage, ← placedDoubles_map, ← readFds_eq_map]
  refine givesM_of_finishStore ?_ (by rw [map_fst_placedDoubles]; exact nodup_addresses _ _)
  rw [hi, blockStore, if_pos (blockAligned_iff.2 ha), requireFpu_of_enabled _ hf, withData_of_memory _ hr]

end

section
variable {i : Instr} {s : State} {rd : RegNum} (ha : (doubleNumber rd).toNat % 16 ≠ 0)
include ha

theorem leaves_of_blockLoad {g : Target} (hi : exec i s = blockLoad s rd g) : Leaves i s 0x010 :=
  leaves_of_illegal (hi.trans (if_neg (mt blockAligned_iff.1 ha)))

theorem leaves_of_blockStore {g : Target} (hi : exec i s = blockStore s rd g) : Leaves i s 0x010 :=
  leaves_of_illegal (hi.trans (if_neg (mt blockAligned_iff.1 ha)))

/-- LDDFA with a commit ASI checks its register too (20_memory.md R220). -/
theorem leaves_of_lddfa_commit {rs1 : RegNum} {src : AsiOperand}
    (hc : asiClass (alternateTarget s rs1 src).asi = .commit) : Leaves (.lddfa rd rs1 src) s 0x010 := by
  refine leaves_of_illegal (?_ : execLddfa rd rs1 src s = _)
  simp only [execLddfa, hc]
  exact if_neg (mt blockAligned_iff.1 ha)

end

/-- Settles O35: an aligned first register moves eight doublewords; another is stopped by its check. -/
theorem blockTransfers : Obligations.BlockTransfers := by
  refine fun s rd rs1 rs2 asi imm => ⟨fun ha hf ra little => ⟨fun v hs => ⟨?ldblockf, fun hc => ?lddfa⟩, ?stblockf,
    fun hr => ?stdfa⟩, fun ha => ⟨leaves_of_blockLoad ha rfl, leaves_of_blockStore ha rfl,
    fun hc => ⟨?illegalLoad, ?illegalStore⟩⟩⟩
  case ldblockf => exact givesBlock_of_blockLoad ha hf hs rfl
  case lddfa => exact givesBlock_of_blockLoad ha hf hs (exec_lddfa_of_block hc)
  case stblockf => exact givesM_of_blockStore ha hf rfl
  case stdfa => exact givesM_of_blockStore ha hf (exec_stdfa_of_reaches_block rd hr) hr
  case illegalLoad =>
    obtain hc | hc := hc
    · exact leaves_of_blockLoad ha (exec_lddfa_of_block hc)
    · exact leaves_of_lddfa_commit ha hc
  case illegalStore => exact leaves_of_blockStore ha (exec_stdfa_of_block hc)

/-! ### Partial stores (43_fp_load_store.md R995) -/

theorem partialBytes_of_pst {asi : Asi} (h : asiClass asi = .pst) :
    partialBytes asi = if asi ∈ [0xC0#8, 0xC1#8, 0xC8#8, 0xC9#8] then 1
      else if asi ∈ [0xC2#8, 0xC3#8, 0xCA#8, 0xCB#8] then 2 else 4 := by
  revert asi
  decide +kernel

/-- The bytes of a partial store, by their places in the doubleword. -/
theorem placedMasked_eq_map (little : Bool) (ra : Nat) (v : Word64) (size : Nat) (mask : Word64) :
    placedMasked little ra v size mask
      = ((List.range 8).filter fun k => mask.getLsbD ((if little then k else 7 - k) / size)).map
        fun k => (ra + k, placedByte little 8 v k) := by
  simp only [placedMasked, placed_eq_image, image, List.filter_map, Function.comp_def, Nat.add_sub_cancel_left]

theorem nodup_placedMasked (little : Bool) (ra : Nat) (v : Word64) (size : Nat) (mask : Word64) :
    ((placedMasked little ra v size mask).map Prod.fst).Nodup :=
  (List.filter_sublist.map _).nodup (nodup_image ra 8 little v)

theorem leaves_of_stdfa_pst {s : State} {rd rs1 : RegNum} {src : AsiOperand}
    (hc : asiClass (alternateTarget s rs1 src).asi = .pst) : Leaves (.stdfa rd rs1 src) s 0x010 := by
  refine leaves_of_illegal (?_ : execStdfa rd rs1 src s = _)
  simp only [execStdfa, hc]

theorem exec_stpartialf_of_reaches {s : State} {rs1 : RegNum} {asi : Asi} {ra : Nat} {little : Bool} (rd rs2 : RegNum)
    (hf : fpuEnabled s = true) (hr : Reaches s .partialStore ⟨readReg s rs1, asi, true⟩ ra little) :
    exec (.stpartialf rd rs1 rs2 asi) s
      = finishStore s (placedMasked little ra (readD s rd) (partialBytes asi) (readReg s rs2)) :=
  (requireFpu_of_enabled _ hf).trans (withData_of_memory _ hr)

/-- Settles O36: the short forms by the bit of the ASI that gives their width, the partial store by the places its mask picks. -/
theorem shortAndPartialTransfers : Obligations.ShortAndPartialTransfers := by
  refine ⟨fun s rd rs1 imm hc => leaves_of_stdfa_pst hc, fun s rd rs1 rs2 asi imm ra little hf =>
    ⟨fun v hs => ?ldshortf, fun v hs hr => ?lddfa, ?stshortf, fun hr => ?stdfa, fun hr => ?stpartialf⟩⟩
  case ldshortf => exact givesD_of_shortLoad hf rfl hs rfl
  case lddfa => exact givesD_of_shortLoad hf rfl hs (exec_lddfa_of_reaches_short rd hr) hr
  case stshortf => exact givesM_of_shortStore hf rfl rfl
  case stdfa => exact givesM_of_shortStore hf rfl (exec_stdfa_of_reaches_short rd hr) hr
  case stpartialf =>
    have hc : asiClass asi = .pst := List.mem_singleton.1 (asiClass_of_reaches hr rfl)
    rw [← partialBytes_of_pst hc]
    dsimp only
    rw [← placedMasked_eq_map]
    exact givesM_of_finishStore (exec_stpartialf_of_reaches rd rs2 hf hr) (nodup_placedMasked _ _ _ _ _)

end Sys2Proof.Machine

/-! SUPPORT. Register windows and state registers: each instruction comes down to a write of `R[rd]`, a new state, or a raised exception, and its value is the one its rule gives (44_window_and_state.md). -/

namespace Sys2Proof.Machine

open Sys2Proof.Claims

/-! ### SAVE and RESTORE (44_window_and_state.md R1051, R1052) -/

theorem spillException_toPrivileged (s : State) : (spillException s).toPrivileged = true := by
  unfold spillException
  split <;> rfl

/-- OTHERWIN selects the handlers, and with them the field of WSTATE (60_exceptions.md R1657). -/
theorem spillException_tt (s : State) : (spillException s).tt
    = if s.otherwin = 0#3 then 0x080 + 4 * (s.wstate.extractLsb' 0 3).setWidth 9
      else 0x0A0 + 4 * (s.wstate.extractLsb' 3 3).setWidth 9 := by
  unfold spillException
  split
  next h => exact (if_pos h).symm
  next h => exact (if_neg h).symm

section
variable {s : State} {rd rs1 : RegNum} {op2 : RegOrImm 13}

theorem exec_save_of_spill (h : s.cansave = 0#3) : exec (.save rd rs1 op2) s = raise s (spillException s) :=
  if_pos h

theorem exec_save_of_unclean (hs : s.cansave ≠ 0#3) (hc : s.cleanwin = s.canrestore) :
    exec (.save rd rs1 op2) s = raise s .cleanWindow :=
  (if_neg hs).trans (if_pos (sub_eq_zero.2 hc))

theorem exec_save_of_clean (hs : s.cansave ≠ 0#3) (hc : s.cleanwin ≠ s.canrestore) :
    exec (.save rd rs1 op2) s = finishReg (saveWindow s) rd (readReg s rs1 + second s op2) := by
  rw [← operand2_eq_second]
  exact (if_neg hs).trans (if_neg (mt sub_eq_zero.1 hc))

theorem exec_restore_of_fill (h : s.canrestore = 0#3) : exec (.restore rd rs1 op2) s = raise s (fillException s) :=
  if_pos h

theorem exec_restore_of_window (h : s.canrestore ≠ 0#3) :
    exec (.restore rd rs1 op2) s = finishReg (restoreWindow s) rd (readReg s rs1 + second s op2) := by
  rw [← operand2_eq_second]
  exact if_neg h

end

/-- Settles O37: by the checks in their order, each is its trap, or the write of `R[rd]` in the new window. -/
theorem saveRestore : Obligations.SaveRestore := by
  refine fun s rd rs1 op2 => ⟨fun hs hc => ?save, fun hr => ?restore, fun hs => ?spill, fun hs hc => ?unclean,
    fun hr => ?fill⟩
  case save => exact givesR_of_base (exec_save_of_clean hs hc) rfl
  case restore => exact givesR_of_base (exec_restore_of_window hr) rfl
  case spill =>
    rw [← spillException_tt]
    exact traps_of_raise (exec_save_of_spill hs) (spillException_toPrivileged s)
  case unclean => exact traps_of_raise (e := .cleanWindow) (exec_save_of_unclean hs hc) rfl
  case fill =>
    rw [← fillException_tt]
    exact traps_of_raise (exec_restore_of_fill hr) (fillException_toPrivileged s)

/-! ### The values of the fields -/

/-- A field followed by zeros. -/
theorem append_zero_eq_ofNat {w : Nat} (x : BitVec w) (n : Nat) : x ++ 0#n = BitVec.ofNat (w + n) (x.toNat * 2 ^ n) := by
  apply BitVec.eq_of_toNat_eq
  have h : x.toNat * 2 ^ n < 2 ^ (w + n) := by
    rw [Nat.pow_add]
    exact Nat.mul_lt_mul_of_pos_right x.isLt (Nat.two_pow_pos n)
  simp [BitVec.toNat_append, Nat.shiftLeft_eq, Nat.mod_eq_of_lt h]

/-- A field above `lo` bits. -/
theorem extract_eq_ofNat_div {w : Nat} (v : BitVec w) (lo n : Nat) :
    v.extractLsb' lo n = BitVec.ofNat n (v.toNat / 2 ^ lo) := by
  rw [← Nat.shiftRight_eq_div_pow]
  rfl

theorem saturateLevel_eq (v : Word64) : saturateLevel (v.setWidth 3) = Fin.ofNat 3 (min (v.toNat % 8) 2) := by
  have h : ∀ l : BitVec 3, saturateLevel l = Fin.ofNat 3 (min l.toNat 2) := by decide
  rw [h, BitVec.toNat_setWidth]

theorem pstateMask_eq : pstateMask = 0x131E#13 := by decide

theorem tstateMask_eq : tstateMask = 0x7FFFF000007#64 ||| 0x131E00#64 := by decide

/-! ### Reads in any mode (44_window_and_state.md R1060 to R1070) -/

theorem exec_of_readTable (s : State) (rd : RegNum) : ∀ e ∈ readTable, exec (e.1 rd) s = finishReg s rd (e.2 s) := by
  simp only [readTable, List.forall_mem_cons, BitVec.ofNat_toNat]
  exact ⟨rfl, rfl, rfl, rfl, List.forall_mem_nil _⟩

theorem counterDenied_iff {disabled : Bool} {s : State} {v : Word64} :
    counterDenied disabled s v = true ↔ s.priv = false ∧ (v.getLsbD 63 = true ∨ disabled = true) := by
  simp [counterDenied, msb_extended]

theorem stickDenied_iff {disabled : Bool} {s : State} :
    stickDenied disabled s = true ↔ disabled = true ∨ (s.priv = false ∧ s.stick.getLsbD 63 = true) := by
  rw [stickDenied, Bool.or_eq_true, counterDenied_iff, Bool.and_eq_true]
  cases s.priv <;> simp [or_comm]

theorem readCounter_of_denied (s : State) (rd : RegNum) (v : Word64) :
    readCounter s rd v true = raise s .privilegedAction := rfl

section
variable {i : Instr} {s : State} {rd : RegNum} {v : Word64} (h : exec i s = readCounter s rd v (!s.priv && v.msb))
include h

theorem givesR_of_readCounter (ha : s.priv = true ∨ v.getLsbD 63 = false) : GivesR i s s rd v := by
  have hd : (!s.priv && v.msb) = false := by
    rw [msb_extended]
    obtain ha | ha := ha
    · rw [ha]; rfl
    · rw [ha, Bool.and_false]
  exact givesR_of_finishReg (by rw [h, hd]; rfl)

theorem leaves_of_readCounter (hp : s.priv = false) (hn : v.getLsbD 63 = true) : Leaves i s 0x037 :=
  leaves_of_raise (e := .privilegedAction) (by rw [h, msb_extended, hp, hn]; rfl) rfl

end

theorem exec_rdtick (s : State) (rd : RegNum) :
    exec (.rdtick rd) s = readCounter s rd s.tick (!s.priv && s.tick.msb) :=
  congrArg (readCounter s rd s.tick) (counterDenied_default s s.tick)

theorem exec_rdstick (s : State) (rd : RegNum) :
    exec (.rdstick rd) s = readCounter s rd s.stick (!s.priv && s.stick.msb) :=
  congrArg (readCounter s rd s.stick) (stickDenied_default s)

/-- Settles O39: each ends in one write of `R[rd]`, RDGSR behind the check of the enable bits, the counters behind that of `npt`. -/
theorem stateRegisterReads : Obligations.StateRegisterReads := by
  refine fun s rd => ⟨fun e he => givesR_of_finishReg (exec_of_readTable s rd e he), ?rdpc,
    fun hf => givesR_of_finishReg (requireFpu_of_enabled _ hf), givesR_of_readCounter (exec_rdtick s rd),
    givesR_of_readCounter (exec_rdstick s rd), leaves_of_readCounter (exec_rdtick s rd),
    leaves_of_readCounter (exec_rdstick s rd), fun _ _ => counterDenied_iff, fun _ => stickDenied_iff, ?denied⟩
  case rdpc =>
    rw [← amMask_eq]
    exact givesR_of_finishReg rfl
  case denied =>
    rw [readCounter_of_denied]
    exact raiseAt_eq_fault (.inl rfl)

/-! ### Reads of privileged software (44_window_and_state.md R1068 to R1071, R1090 to R1106) -/

theorem exec_of_privilegedReadTable (s : State) (rd : RegNum) : ∀ e ∈ privilegedReadTable,
    exec (e.1 rd) s = readPriv s rd (e.2 s) := by
  have htba : BitVec.ofNat 64 (s.tba.toNat * 2 ^ 15) = s.tba ++ 0#15 := (append_zero_eq_ofNat s.tba 15).symm
  simp only [privilegedReadTable, List.forall_mem_cons, BitVec.ofNat_toNat, htba]
  exact ⟨rfl, rfl, rfl, rfl, rfl, rfl, rfl, rfl, rfl, rfl, rfl, rfl, rfl, rfl, rfl, List.forall_mem_nil _⟩

theorem exec_of_trapReadTable (s : State) (rd : RegNum) : ∀ e ∈ trapReadTable,
    exec (e.1 rd) s = readTrapLevel s rd e.2 := by
  have hpc (x : BitVec 62) : BitVec.ofNat 64 (x.toNat * 4) = x ++ 0#2 := (append_zero_eq_ofNat x 2).symm
  simp only [trapReadTable, List.forall_mem_cons, BitVec.ofNat_toNat, hpc]
  exact ⟨rfl, rfl, rfl, rfl, List.forall_mem_nil _⟩

/-- Settles O41: in privileged mode each ends in one write of `R[rd]`; those of a trap level read its frame, where there is one. -/
theorem privilegedReads : Obligations.PrivilegedReads := by
  refine fun s rd hp => ⟨fun e he => ?plain, fun e he => ⟨fun k hk => ?level, fun hl => ?noLevel⟩⟩
  case plain =>
    exact givesR_of_finishReg ((exec_of_privilegedReadTable s rd e he).trans (requirePriv_of_priv _ hp))
  case level =>
    have hl : s.tl ≠ 0 := fun h => by simp [h] at hk
    rw [← currentFrame_of_level hk]
    exact givesR_of_finishReg
      ((exec_of_trapReadTable s rd e he).trans ((requirePriv_of_priv _ hp).trans (if_neg hl)))
  case noLevel =>
    exact leaves_of_illegal ((exec_of_trapReadTable s rd e he).trans ((requirePriv_of_priv _ hp).trans (if_pos hl)))

/-! ### Privileged software only (60_exceptions.md R1565) -/

/-- Each listed instruction is, as its definition stands, the check of `PSTATE.priv` before the rest; for the others the hypothesis is false. -/
theorem exec_of_privilegedOnly {i : Instr} (s : State) (h : privilegedOnly i = true) :
    ∃ k, exec i s = requirePriv s k := by
  cases i <;> cases h
  all_goals exact ⟨_, rfl⟩

/-- Settles O22: every listed instruction comes down to the check of `PSTATE.priv`, which fails. -/
theorem privilegedOpcodeTraps : Obligations.PrivilegedOpcodeTraps := by
  intro i s hi hp
  obtain ⟨k, hk⟩ := exec_of_privilegedOnly s hi
  exact traps_of_raise (e := .privilegedOpcode) (hk.trans (if_neg (by simp [hp]))) rfl

/-! ### The window registers (44_window_and_state.md R1053 to R1059) -/

theorem exec_flushw_of_flushed {s : State} (i : Bool) (h : s.cansave = 6#3) : exec (.flushw i) s = .next (advance s) :=
  if_neg (by rw [h]; decide)

theorem exec_flushw_of_spill {s : State} (i : Bool) (h : s.cansave ≠ 6#3) :
    exec (.flushw i) s = raise s (spillException s) :=
  if_pos fun e => h (BitVec.eq_of_toNat_eq e)

/-- A choice of the next state is a choice of the outcome. -/
theorem next_advance_ite (p : Prop) [Decidable p] (t u : State) :
    (.next (advance (if p then t else u)) : Outcome) = if p then .next (advance t) else .next (advance u) := by
  split <;> rfl

/-- What RESTORED adds to CLEANWIN, which stays at 7 once there. -/
theorem cleanwin_saturates (c : BitVec 3) :
    (if c.toNat < Config.nRegWindows - 1 then c + 1 else c) = if c = 7#3 then 7#3 else c + 1 := by
  revert c
  decide

section
variable {s : State} (hp : s.priv = true)
include hp

theorem exec_saved_of_inconsistent (h : 6 ≤ s.cansave.toNat ∨ s.canrestore = 0#3) :
    exec .saved s = .refused .savedWindowsInconsistent :=
  (requirePriv_of_priv _ hp).trans (if_pos h)

theorem exec_saved_of_consistent (hs : s.cansave.toNat < 6) (hr : s.canrestore ≠ 0#3) :
    exec .saved s = .next (advance (if s.otherwin = 0#3 then
        { s with cansave := s.cansave + 1, canrestore := s.canrestore - 1 }
      else { s with cansave := s.cansave + 1, otherwin := s.otherwin - 1 })) := by
  rw [next_advance_ite]
  exact (requirePriv_of_priv _ hp).trans (if_neg (not_or.2 ⟨Nat.not_le.2 hs, hr⟩))

theorem exec_restored_of_inconsistent (h : 6 ≤ s.canrestore.toNat ∨ s.cansave = 0#3) :
    exec .restored s = .refused .restoredWindowsInconsistent :=
  (requirePriv_of_priv _ hp).trans (if_pos h)

theorem exec_restored_of_consistent (hr : s.canrestore.toNat < 6) (hs : s.cansave ≠ 0#3) :
    exec .restored s = .next (advance (if s.otherwin = 0#3 then
        { s with canrestore := s.canrestore + 1, cleanwin := if s.cleanwin = 7#3 then 7#3 else s.cleanwin + 1,
                 cansave := s.cansave - 1 }
      else { s with canrestore := s.canrestore + 1, cleanwin := if s.cleanwin = 7#3 then 7#3 else s.cleanwin + 1,
                    otherwin := s.otherwin - 1 })) := by
  rw [← cleanwin_saturates, next_advance_ite]
  exact (requirePriv_of_priv _ hp).trans (if_neg (not_or.2 ⟨Nat.not_le.2 hr, hs⟩))

end

/-- Settles O38: by the checks in their order, each is its trap, its refusal, or the window registers its rule gives. -/
theorem windowBookkeeping : Obligations.WindowBookkeeping := by
  refine ⟨fun s i => ⟨exec_flushw_of_flushed i, fun h => ?spill⟩, fun s hp => ⟨fun hs hr => ?saved,
    exec_saved_of_inconsistent hp, fun hr hs => ?restored, exec_restored_of_inconsistent hp,
    requirePriv_of_priv _ hp, requirePriv_of_priv _ hp, requirePriv_of_priv _ hp, requirePriv_of_priv _ hp⟩⟩
  case spill =>
    rw [← spillException_tt]
    exact traps_of_raise (exec_flushw_of_spill i h) (spillException_toPrivileged s)
  case saved =>
    rw [exec_saved_of_consistent hp hs hr]
    split <;> rfl
  case restored =>
    rw [exec_restored_of_consistent hp hr hs]
    dsimp only
    split <;> rfl

/-! ### Writes (44_window_and_state.md R1075 to R1085, R1110 to R1125) -/

theorem writeValue_eq (s : State) (rs1 : RegNum) (op2 : RegOrImm 13) :
    writeValue s rs1 op2 = readReg s rs1 ^^^ second s op2 := by
  rw [writeValue, operand2_eq_second]

section
variable (s : State) (rs1 : RegNum) (op2 : RegOrImm 13)

theorem exec_of_writeTable : ∀ e ∈ writeTable,
    exec (e.1 rs1 op2) s = .next (advance (e.2 s (writeValue s rs1 op2))) := by
  simp only [writeTable, List.forall_mem_cons, BitVec.ofNat_toNat]
  exact ⟨rfl, rfl, rfl, rfl, List.forall_mem_nil _⟩

theorem exec_wrgsr_of_enabled (hf : fpuEnabled s = true) : exec (.wrgsr rs1 op2) s
    = .next (advance { s with gsr := writeValue s rs1 op2 &&& 0xFFFFFFFF0E0000FF }) :=
  requireFpu_of_enabled _ hf

theorem exec_of_privilegedWriteTable : ∀ e ∈ privilegedWriteTable,
    exec (e.1 rs1 op2) s = writePriv s (e.2 s (writeValue s rs1 op2)) := by
  simp only [privilegedWriteTable, List.forall_mem_cons, BitVec.ofNat_toNat, ← extract_eq_ofNat_div,
    ← saturateLevel_eq, ← pstateMask_eq]
  exact ⟨rfl, rfl, rfl, rfl, rfl, rfl, rfl, rfl, rfl, rfl, rfl, rfl, rfl, rfl, rfl, rfl, List.forall_mem_nil _⟩

theorem exec_of_trapWriteTable : ∀ e ∈ trapWriteTable,
    exec (e.1 rs1 op2) s = writeTrapLevel s fun f => e.2 f (writeValue s rs1 op2) := by
  have hpc (v : Word64) : BitVec.ofNat 62 (v.toNat / 4) = v.extractLsb' 2 62 := (extract_eq_ofNat_div v 2 62).symm
  simp only [trapWriteTable, List.forall_mem_cons, BitVec.ofNat_toNat, hpc, ← tstateMask_eq]
  exact ⟨rfl, rfl, rfl, rfl, List.forall_mem_nil _⟩

end

/-! No row writes the program counters. -/

theorem npc_of_writeTable (s : State) (v : Word64) : ∀ e ∈ writeTable, (e.2 s v).npc = s.npc := by
  simp [writeTable]

theorem npc_of_privilegedWriteTable (s : State) (v : Word64) : ∀ e ∈ privilegedWriteTable, (e.2 s v).npc = s.npc := by
  simp [privilegedWriteTable]

/-- Settles O40: each row stores the value in its register and goes on. -/
theorem stateRegisterWrites : Obligations.StateRegisterWrites := by
  intro s rs1 op2 v
  have hv : writeValue s rs1 op2 = v := writeValue_eq s rs1 op2
  refine ⟨fun e he => ?plain, fun hf => ?wrgsr⟩
  case plain => rw [exec_of_writeTable s rs1 op2 e he, hv, advance, npc_of_writeTable s v e he]
  case wrgsr => rw [exec_wrgsr_of_enabled s rs1 op2 hf, hv]; rfl

/-- The frame of level `k + 1` is the stack's element `k`. -/
theorem setCurrentFrame_of_level {s : State} {k : Fin 2} (h : s.tl.val = k.val + 1) (f : TrapFrame) :
    setCurrentFrame s f = { s with trapStack := s.trapStack.set k.val f k.isLt } := by
  have hset : s.trapStack.setIfInBounds k.val f = s.trapStack.set k.val f k.isLt :=
    Vector.ext fun i hi => by rw [Vector.getElem_setIfInBounds, Vector.getElem_set]
  rw [setCurrentFrame, h, Nat.add_sub_cancel, hset]

/-- Settles O42: in privileged mode each row stores the value in its register, or in the frame of the trap level, where there is one. -/
theorem privilegedWrites : Obligations.PrivilegedWrites := by
  intro s rs1 op2 hp v
  have hv : writeValue s rs1 op2 = v := writeValue_eq s rs1 op2
  refine ⟨fun e he => ?plain, fun e he => ?trapLevel⟩
  case plain =>
    rw [exec_of_privilegedWriteTable s rs1 op2 e he, hv, writePriv, requirePriv_of_priv _ hp, advance,
      npc_of_privilegedWriteTable s v e he]
  case trapLevel =>
    have hexec := (exec_of_trapWriteTable s rs1 op2 e he).trans (requirePriv_of_priv _ hp)
    refine ⟨fun k hk => ?level, fun hl => leaves_of_illegal (hexec.trans (if_pos hl))⟩
    have hl : s.tl ≠ 0 := fun h => by simp [h] at hk
    rw [hexec, if_neg hl, setCurrentFrame_of_level hk, currentFrame_of_level hk, hv]
    rfl

end Sys2Proof.Machine

/-! SUPPORT. Floating-point operate instructions: each comes down to the end of an FPop, `fpFinish`, which completes or traps by the conditions detected, and writes its own fields of FSR (45_floating_point.md R1150 to R1268). -/

namespace Sys2Proof.Machine

open Sys2Proof.Claims

/-! ### The end of an FPop (45_floating_point.md R1155) -/

section
variable {i : Instr} {s : State} {e : FpFlags} {write : State → State}

theorem fpFinish_of_clear (ht : (ieeeDecision (trapEnable s.fsr) e).2 = false) :
    fpFinish s e write = .next (advance (write { s with fsr := fsrAfter s.fsr e })) := by
  rw [fpFinish, if_neg (by simp [ht]), fsrAfter]

theorem fpTraps_of_fpFinish (hi : exec i s = fpFinish s e write) (ht : (ieeeDecision (trapEnable s.fsr) e).2 = true) :
    FpTraps i s e := by
  intro hl
  rw [hi, fpFinish, if_pos ht]
  exact raise_eq_next_iff.2 ⟨rfl, hl, rfl⟩

theorem fsrAfter_none (fsr : Word64) : fsrAfter fsr .none = quietFsr fsr := by
  simp [fsrAfter, accrue, withFttCexc, quietFsr]

theorem fpFinish_none : fpFinish s .none write = .next (advance (write { s with fsr := quietFsr s.fsr })) := by
  rw [fpFinish_of_clear (by rw [ieeeDecision_none]), fsrAfter_none]

/-- An FPop whose result goes to a single register. -/
theorem settlesS_of_fpFinish {rd : RegNum} {v : Word32} (hi : exec i s = fpFinish s e fun t => writeS t rd v) :
    ((ieeeDecision (trapEnable s.fsr) e).2 = false → GivesS i s { s with fsr := fsrAfter s.fsr e } rd v)
    ∧ ((ieeeDecision (trapEnable s.fsr) e).2 = true → FpTraps i s e) :=
  ⟨fun ht => givesS_of_base (s := s) (base := { s with fsr := fsrAfter s.fsr e }) rfl (hi.trans (fpFinish_of_clear ht)),
    fpTraps_of_fpFinish hi⟩

/-- An FPop whose result goes to a double register. -/
theorem settlesD_of_fpFinish {rd : RegNum} {v : Word64} (hi : exec i s = fpFinish s e fun t => writeD t rd v) :
    ((ieeeDecision (trapEnable s.fsr) e).2 = false → GivesD i s { s with fsr := fsrAfter s.fsr e } rd v)
    ∧ ((ieeeDecision (trapEnable s.fsr) e).2 = true → FpTraps i s e) :=
  ⟨fun ht => givesD_of_base (s := s) (base := { s with fsr := fsrAfter s.fsr e }) rfl (hi.trans (fpFinish_of_clear ht)),
    fpTraps_of_fpFinish hi⟩

/-- A compare writes one `fcc` of FSR besides. -/
theorem settles_of_compare {fcc : FccNum} {signalling : Bool} {a b : FpVal} (hi : exec i s = compare s fcc signalling a b) :
    ((ieeeDecision (trapEnable s.fsr) (compareFlags signalling a b)).2 = false → exec i s = .next { s with
      fsr := withFcc (fsrAfter s.fsr (compareFlags signalling a b)) fcc (fpRelation a b), pc := s.npc, npc := s.npc + 4 })
    ∧ ((ieeeDecision (trapEnable s.fsr) (compareFlags signalling a b)).2 = true
      → FpTraps i s (compareFlags signalling a b)) :=
  ⟨fun ht => hi.trans (fpFinish_of_clear ht), fpTraps_of_fpFinish hi⟩

end

/-! ### Moves (45_floating_point.md R1170 to R1177, R1230 to R1252) -/

section
variable {i : Instr} {s : State} {rd rs2 : RegNum}

theorem givesS_of_moveS {v : Word32} (hi : exec i s = moveS s rd v) : GivesS i s { s with fsr := quietFsr s.fsr } rd v :=
  givesS_of_base (s := s) (base := { s with fsr := quietFsr s.fsr }) rfl (hi.trans fpFinish_none)

theorem givesD_of_moveD {v : Word64} (hi : exec i s = moveD s rd v) : GivesD i s { s with fsr := quietFsr s.fsr } rd v :=
  givesD_of_base (s := s) (base := { s with fsr := quietFsr s.fsr }) rfl (hi.trans fpFinish_none)

theorem settles_of_condMoveS {test : Bool} (hi : exec i s = condMoveS s test rd rs2) :
    if test then GivesS i s { s with fsr := quietFsr s.fsr } rd (readS s rs2)
    else exec i s = .next { s with fsr := quietFsr s.fsr, pc := s.npc, npc := s.npc + 4 } := by
  cases test with
  | true => exact givesS_of_moveS hi
  | false => exact hi.trans fpFinish_none

theorem settles_of_condMoveD {test : Bool} (hi : exec i s = condMoveD s test rd rs2) :
    if test then GivesD i s { s with fsr := quietFsr s.fsr } rd (readD s rs2)
    else exec i s = .next { s with fsr := quietFsr s.fsr, pc := s.npc, npc := s.npc + 4 } := by
  cases test with
  | true => exact givesD_of_moveD hi
  | false => exact hi.trans fpFinish_none

end

/-! ### What each row of the tables comes down to -/

section
variable {s : State} (rd rs1 rs2 rs3 : RegNum) (hf : fpuEnabled s = true)
include hf

theorem exec_of_moveSTable : ∀ e ∈ moveSTable, exec (e.1 rd rs2) s = moveS s rd (e.2 (readS s rs2)) := by
  simp only [moveSTable, List.forall_mem_cons]
  have h {k : Outcome} := requireFpu_of_enabled (s := s) k hf
  exact ⟨h, h, h, List.forall_mem_nil _⟩

theorem exec_of_moveDTable : ∀ e ∈ moveDTable, exec (e.1 rd rs2) s = moveD s rd (e.2 (readD s rs2)) := by
  simp only [moveDTable, List.forall_mem_cons]
  have h {k : Outcome} := requireFpu_of_enabled (s := s) k hf
  exact ⟨h, h, h, List.forall_mem_nil _⟩

theorem exec_of_fmovrSTable : ∀ e ∈ fmovrSTable,
    exec (e.1 rd rs1 rs2) s = condMoveS s (rcondTest e.2 (readReg s rs1)) rd rs2 := by
  simp only [fmovrSTable, List.forall_mem_cons]
  have h {k : Outcome} := requireFpu_of_enabled (s := s) k hf
  exact ⟨h, h, h, h, h, h, List.forall_mem_nil _⟩

theorem exec_of_fmovrDTable : ∀ e ∈ fmovrDTable,
    exec (e.1 rd rs1 rs2) s = condMoveD s (rcondTest e.2 (readReg s rs1)) rd rs2 := by
  simp only [fmovrDTable, List.forall_mem_cons]
  have h {k : Outcome} := requireFpu_of_enabled (s := s) k hf
  exact ⟨h, h, h, h, h, h, List.forall_mem_nil _⟩

theorem exec_of_arithSTable : ∀ e ∈ arithSTable, exec (e.1 rd rs1 rs2) s = finishS s rd (e.2 s rs1 rs2) := by
  simp only [arithSTable, List.forall_mem_cons]
  have h {k : Outcome} := requireFpu_of_enabled (s := s) k hf
  exact ⟨h, h, h, h, List.forall_mem_nil _⟩

theorem exec_of_arithDTable : ∀ e ∈ arithDTable, exec (e.1 rd rs1 rs2) s = finishD s rd (e.2 s rs1 rs2) := by
  simp only [arithDTable, List.forall_mem_cons]
  have h {k : Outcome} := requireFpu_of_enabled (s := s) k hf
  exact ⟨h, h, h, h, h, List.forall_mem_nil _⟩

theorem exec_of_unarySTable : ∀ e ∈ unarySTable, exec (e.1 rd rs2) s = finishS s rd (e.2 s rs2) := by
  simp only [unarySTable, List.forall_mem_cons]
  have h {k : Outcome} := requireFpu_of_enabled (s := s) k hf
  exact ⟨h, h, h, h, List.forall_mem_nil _⟩

theorem exec_of_unaryDTable : ∀ e ∈ unaryDTable, exec (e.1 rd rs2) s = finishD s rd (e.2 s rs2) := by
  simp only [unaryDTable, List.forall_mem_cons]
  have h {k : Outcome} := requireFpu_of_enabled (s := s) k hf
  exact ⟨h, h, h, h, List.forall_mem_nil _⟩

/-- The fused multiply-adds are implemented at the parameter's default (log 14). -/
theorem exec_of_fusedSTable : ∀ e ∈ fusedSTable, exec (e.1 rd rs1 rs3 rs2) s = finishS s rd (e.2 s rs1 rs2 rs3) := by
  simp only [fusedSTable, List.forall_mem_cons]
  have h {k : Outcome} := requireFpu_of_enabled (s := s) k hf
  exact ⟨h, h, h, h, List.forall_mem_nil _⟩

theorem exec_of_fusedDTable : ∀ e ∈ fusedDTable, exec (e.1 rd rs1 rs3 rs2) s = finishD s rd (e.2 s rs1 rs2 rs3) := by
  simp only [fusedDTable, List.forall_mem_cons]
  have h {k : Outcome} := requireFpu_of_enabled (s := s) k hf
  exact ⟨h, h, h, h, List.forall_mem_nil _⟩

end

/-- Settles O43: each row is a move, or a move under a condition, and nothing is detected. -/
theorem fpMoves : Obligations.FpMoves := by
  intro s rd rs1 rs2 hf
  have h {k : Outcome} := requireFpu_of_enabled (s := s) k hf
  refine ⟨fun e he => givesS_of_moveS (exec_of_moveSTable rd rs2 hf e he),
    fun e he => givesD_of_moveD (exec_of_moveDTable rd rs2 hf e he),
    fun cond => ⟨settles_of_condMoveS h, settles_of_condMoveS h, settles_of_condMoveD h, settles_of_condMoveD h,
      fun fcc => ⟨settles_of_condMoveS h, settles_of_condMoveD h⟩⟩,
    fun e he => settles_of_condMoveS (exec_of_fmovrSTable rd rs1 rs2 hf e he),
    fun e he => settles_of_condMoveD (exec_of_fmovrDTable rd rs1 rs2 hf e he)⟩

/-- Settles O44: each row ends as `fpFinish` with its own result and conditions. -/
theorem fpArithmeticResults : Obligations.FpArithmeticResults :=
  fun _ rd rs1 rs2 rs3 hf =>
    ⟨fun e he => settlesS_of_fpFinish (exec_of_arithSTable rd rs1 rs2 hf e he),
      fun e he => settlesD_of_fpFinish (exec_of_arithDTable rd rs1 rs2 hf e he),
      fun e he => settlesS_of_fpFinish (exec_of_unarySTable rd rs2 hf e he),
      fun e he => settlesD_of_fpFinish (exec_of_unaryDTable rd rs2 hf e he),
      fun e he => settlesS_of_fpFinish (exec_of_fusedSTable rd rs1 rs2 rs3 hf e he),
      fun e he => settlesD_of_fpFinish (exec_of_fusedDTable rd rs1 rs2 rs3 hf e he)⟩

/-- Settles O45: the conversions end as `fpFinish` with an integer, the compares with one `fcc`. -/
theorem fpToIntegerAndCompare : Obligations.FpToIntegerAndCompare := by
  intro s rd rs1 rs2 fcc hf
  have h {k : Outcome} := requireFpu_of_enabled (s := s) k hf
  exact ⟨settlesS_of_fpFinish h, settlesS_of_fpFinish h, settlesD_of_fpFinish h, settlesD_of_fpFinish h,
    settles_of_compare h, settles_of_compare h, settles_of_compare h, settles_of_compare h⟩

/-! ### FSR, bit by bit (45_floating_point.md R1155; 10_state.md R80, R87) -/

theorem getLsbD_mask (e : FpFlags) : e.mask.getLsbD 4 = e.nv ∧ e.mask.getLsbD 3 = e.ovf ∧ e.mask.getLsbD 2 = e.unf
    ∧ e.mask.getLsbD 1 = e.dz ∧ e.mask.getLsbD 0 = e.nx := by
  obtain ⟨nv, ovf, unf, dz, nx⟩ := e
  revert nv ovf unf dz nx
  decide

/-- A bit that both masks have, of the five. -/
theorem and_ne_zero_iff (c m : BitVec 5) : (c &&& m != 0) = true ↔ (c.getLsbD 4 = true ∧ m.getLsbD 4 = true)
    ∨ (c.getLsbD 3 = true ∧ m.getLsbD 3 = true) ∨ (c.getLsbD 2 = true ∧ m.getLsbD 2 = true)
    ∨ (c.getLsbD 1 = true ∧ m.getLsbD 1 = true) ∨ (c.getLsbD 0 = true ∧ m.getLsbD 0 = true) := by
  revert c m
  decide

theorem ieeeDecision_of_neither (tem : BitVec 5) {e : FpFlags} (ho : e.ovf = false) (hu : e.unf = false) :
    ieeeDecision tem e = (e.mask, (e.mask &&& tem) != 0) := by
  simp [ieeeDecision, ho, hu]

/-- The bits of the two fields that an FPop writes. -/
theorem fttCexc_bit : ∀ b, (0x1C01F#64).getLsbD b = true ↔ b < 5 ∨ (14 ≤ b ∧ b ≤ 16) :=
  getLsbD_iff_of_fin (by decide) fun _ _ => by omega

theorem getLsbD_withFttCexc (fsr : Word64) (ftt : BitVec 3) (cexc : BitVec 5) (b : Nat) :
    (withFttCexc fsr ftt cexc).getLsbD b
      = if b < 5 then cexc.getLsbD b else if 14 ≤ b ∧ b ≤ 16 then ftt.getLsbD (b - 14) else fsr.getLsbD b := by
  have hm := fttCexc_bit b
  by_cases hb : b < 64
  · simp only [withFttCexc, BitVec.getLsbD_or, BitVec.getLsbD_and, BitVec.getLsbD_not, BitVec.getLsbD_shiftLeft,
      BitVec.getLsbD_setWidth]
    by_cases h5 : b < 5
    · simp [hm.2 (.inl h5), h5, hb, show b < 14 by omega]
    by_cases h16 : 14 ≤ b ∧ b ≤ 16
    · simp [hm.2 (.inr h16), h5, h16, hb, show ¬b < 14 by omega, show b - 14 < 64 by omega,
        BitVec.getLsbD_of_ge cexc b (by omega)]
    · have hz : (0x1C01F#64).getLsbD b = false := Bool.eq_false_iff.2 (mt hm.1 (by omega))
      have hftt : b < 14 ∨ ftt.getLsbD (b - 14) = false := by
        by_cases h : b < 14
        · exact .inl h
        · exact .inr (BitVec.getLsbD_of_ge ftt _ (by omega))
      rcases hftt with h | h <;> simp [-BitVec.getLsbD_eq_getElem, hz, h5, h16, hb, h, BitVec.getLsbD_of_ge cexc b (by omega)]
  · rw [BitVec.getLsbD_of_ge _ b (by omega), BitVec.getLsbD_of_ge fsr b (by omega), if_neg (by omega), if_neg (by omega)]

theorem getLsbD_accrue (fsr : Word64) (c : BitVec 5) (b : Nat) :
    (accrue fsr c).getLsbD b = (fsr.getLsbD b || (decide (5 ≤ b ∧ b ≤ 9) && c.getLsbD (b - 5))) := by
  rw [accrue, BitVec.getLsbD_or, BitVec.getLsbD_shiftLeft, BitVec.getLsbD_setWidth]
  congr 1
  by_cases h : 5 ≤ b ∧ b ≤ 9
  · simp [h, show b < 64 by omega, show ¬b < 5 by omega, show b - 5 < 64 by omega]
  · by_cases h5 : b < 5
    · simp [h, h5]
    · simp [h, BitVec.getLsbD_of_ge c (b - 5) (by omega)]

/-! ### The four `fcc` fields -/

theorem fccOf_eq_extract (fsr : Word64) (n : FccNum) : fccOf fsr n = fsr.extractLsb' (fccShift n) 2 := by
  have hn : n = 0#2 ∨ n = 1#2 ∨ n = 2#2 ∨ n = 3#2 := by
    revert n
    decide
  obtain rfl | rfl | rfl | rfl := hn
  all_goals rfl

theorem fccShift_lt (n : FccNum) : fccShift n + 2 ≤ 64 := by
  revert n
  decide

theorem fccShift_apart {m n : FccNum} (h : m ≠ n) : fccShift m + 2 ≤ fccShift n ∨ fccShift n + 2 ≤ fccShift m := by
  revert m n
  decide

/-- Outside its own two bits a write of an `fcc` changes nothing. -/
theorem getLsbD_withFcc (fsr : Word64) (n : FccNum) (rel : BitVec 2) (b : Nat) :
    (withFcc fsr n rel).getLsbD b
      = if fccShift n ≤ b ∧ b < fccShift n + 2 then rel.getLsbD (b - fccShift n) else fsr.getLsbD b := by
  have hn := fccShift_lt n
  have h3 : ∀ k, (3#64).getLsbD k = true ↔ k < 2 := getLsbD_iff_of_fin (by decide) fun _ _ => by omega
  by_cases hb : b < 64
  · simp only [withFcc, BitVec.getLsbD_or, BitVec.getLsbD_and, BitVec.getLsbD_not, BitVec.getLsbD_shiftLeft,
      BitVec.getLsbD_setWidth]
    by_cases h : fccShift n ≤ b
    · have hk := h3 (b - fccShift n)
      by_cases h2 : b < fccShift n + 2
      · simp [h, h2, hb, hk.2 (by omega), show ¬b < fccShift n by omega, show b - fccShift n < 64 by omega]
      · have hz : (3#64).getLsbD (b - fccShift n) = false := Bool.eq_false_iff.2 (mt hk.1 (by omega))
        simp [h, h2, hb, hz, BitVec.getLsbD_of_ge rel (b - fccShift n) (by omega)]
    · simp [h, hb, show b < fccShift n by omega]
  · rw [BitVec.getLsbD_of_ge _ b (by omega), BitVec.getLsbD_of_ge fsr b (by omega), if_neg (by omega)]

theorem fccOf_withFcc (fsr : Word64) (m n : FccNum) (rel : BitVec 2) :
    fccOf (withFcc fsr n rel) m = if m = n then rel else fccOf fsr m := by
  refine BitVec.eq_of_getLsbD_eq fun k hk => ?_
  rw [fccOf_eq_extract, BitVec.getLsbD_extractLsb', getLsbD_withFcc]
  by_cases h : m = n
  · rw [if_pos h, h, if_pos (by omega), Nat.add_sub_cancel_left]
    simp [hk]
  · have := fccShift_apart h
    rw [if_neg h, if_neg (by omega), fccOf_eq_extract, BitVec.getLsbD_extractLsb']

theorem getLsbD_withFcc_other (fsr : Word64) (n : FccNum) (rel : BitVec 2) {b : Nat}
    (hb : b < 10 ∨ (12 ≤ b ∧ b < 32) ∨ 38 ≤ b) : (withFcc fsr n rel).getLsbD b = fsr.getLsbD b := by
  have h : ∀ n : FccNum, fccShift n = 10 ∨ (32 ≤ fccShift n ∧ fccShift n ≤ 36) := by decide
  have := h n
  rw [getLsbD_withFcc, if_neg (by omega)]

/-- An FPop left unfinished writes 2 into `ftt` and its own value into `cexc`. -/
theorem getLsbD_unfinishedFsr (fsr : Word64) (b : Nat) : (withFttCexc fsr 2 (fsr.extractLsb' 0 5)).getLsbD b
    = if 14 ≤ b ∧ b ≤ 16 then decide (b = 15) else fsr.getLsbD b := by
  rw [getLsbD_withFttCexc]
  by_cases h5 : b < 5
  · rw [if_pos h5, if_neg (by omega), BitVec.getLsbD_extractLsb']
    simp [h5]
  · rw [if_neg h5]
    by_cases h : 14 ≤ b ∧ b ≤ 16
    · rw [if_pos h, if_pos h]
      obtain rfl | rfl | rfl : b = 14 ∨ b = 15 ∨ b = 16 := by omega
      all_goals rfl
    · rw [if_neg h, if_neg h]

/-- Settles O46: Table 5-7 row by row, the fields of FSR bit by bit, the unfinished FPop by `unlessUnfinished_true`. -/
theorem ieeeExceptions : Obligations.IeeeExceptions := by
  refine ⟨fun tem e => ⟨fun ho => ?overflow, fun ho hu => ?underflow, fun ho hu => ?others⟩,
    getLsbD_withFttCexc, getLsbD_accrue,
    fun fsr m n rel => ⟨fccOf_withFcc fsr m n rel, fun _ => getLsbD_withFcc_other fsr n rel⟩,
    fun s k => ⟨rfl, fun hl => ⟨_, ?unfinished, getLsbD_unfinishedFsr s.fsr⟩⟩⟩
  case overflow =>
    exact ⟨fun h => by simp only [ieeeDecision, ho, h, if_true],
      fun h h0 => by simp only [ieeeDecision, ho, h, h0, if_true, Bool.false_eq_true, if_false],
      fun h h0 => by simp only [ieeeDecision, ho, h, h0, if_true, Bool.false_eq_true, if_false]⟩
  case underflow =>
    exact ⟨fun h => by simp only [ieeeDecision, ho, hu, h, if_true, Bool.false_eq_true, if_false],
      fun h h0 => by simp only [ieeeDecision, ho, hu, h, h0, if_true, Bool.false_eq_true, if_false],
      fun h h0 => by simp only [ieeeDecision, ho, hu, h, h0, if_true, Bool.false_eq_true, if_false]⟩
  case others =>
    obtain ⟨hnv, hof, huf, hdz, hnx⟩ := getLsbD_mask e
    rw [ieeeDecision_of_neither tem ho hu]
    refine ⟨?_, hnv, hof.trans ho, huf.trans hu, hdz, hnx⟩
    rw [and_ne_zero_iff, hnv, hof, huf, hdz, hnx, ho, hu]
    simp
  case unfinished =>
    rw [unlessUnfinished_true]
    exact raise_eq_next_iff.2 ⟨rfl, hl, rfl⟩

end Sys2Proof.Machine

/-! SUPPORT. Floating-point bit patterns: their fields, the value each stands for, and what `unpack` makes of them (45_floating_point.md R1151). -/

namespace Sys2Proof.Machine

open Sys2Proof.Claims

/-! ### The formats -/

theorem fracBits_eq (f : FpFormat) : f.fracBits = fracWidth f := by cases f <;> rfl

theorem expBits_eq (f : FpFormat) : f.expBits = expWidth f := by cases f <;> rfl

theorem bias_eq (f : FpFormat) : f.bias = fpBias f := by cases f <;> rfl

theorem emin_eq (f : FpFormat) : f.emin = 1 - (fpBias f : Int) := by rw [FpFormat.emin, bias_eq]

theorem quantum_eq (f : FpFormat) : f.quantum = 1 - (fpBias f : Int) - fracWidth f := by
  rw [FpFormat.quantum, emin_eq, fracBits_eq]

/-- The exponent field of a number is at most twice the bias. -/
theorem two_pow_expWidth (f : FpFormat) : 2 ^ expWidth f = 2 * fpBias f + 2 := by cases f <;> rfl

theorem fpBias_pos (f : FpFormat) : 1 ≤ fpBias f := by cases f <;> decide

theorem two_pow_fpWidth (f : FpFormat) : 2 ^ fpWidth f = 2 * 2 ^ expWidth f * 2 ^ fracWidth f := by
  rw [fpWidth, pow_add, pow_add, pow_one]

theorem signed_eq (f : FpFormat) (neg : Bool) (m : Nat) :
    signed f neg m = m + neg.toNat * 2 ^ expWidth f * 2 ^ fracWidth f := by
  cases neg with
  | false => simp [signed]
  | true => simp [signed, fracBits_eq, expBits_eq, pow_add, Nat.add_comm]

theorem infinityBits_eq (f : FpFormat) : infinityBits f = (2 ^ expWidth f - 1) * 2 ^ fracWidth f := by
  rw [infinityBits, fracBits_eq, expBits_eq]

theorem infinityOf_eq (f : FpFormat) (neg : Bool) : infinityOf f neg = signed f neg (infinityBits f) := by
  rw [infinityOf, signed, infinityBits_eq, fracBits_eq, expBits_eq, Nat.add_comm (fracWidth f)]

theorem zeroOf_eq (f : FpFormat) (neg : Bool) : zeroOf f neg = signed f neg 0 := by
  rw [zeroOf, signed, fracBits_eq, expBits_eq, Nat.add_comm (fracWidth f), Nat.add_zero]

/-! ### The fields of a sign over a magnitude -/

section
variable {f : FpFormat} {neg : Bool} {m : Nat}

theorem negative_eq (f : FpFormat) (n : Nat) :
    negative f n = decide (n / (2 ^ expWidth f * 2 ^ fracWidth f) % 2 = 1) := by
  rw [negative, Nat.testBit_eq_decide_div_mod_eq, pow_add]

theorem fracField_signed : fracField f (signed f neg m) = fracField f m := by
  rw [fracField, signed_eq, Nat.add_mul_mod_self_right, fracField]

theorem expField_signed : expField f (signed f neg m) = expField f m := by
  rw [expField, signed_eq, Nat.add_mul_div_right _ _ (Nat.two_pow_pos _), Nat.add_mul_mod_self_right, expField]

theorem isNumber_signed : isNumber f (signed f neg m) = isNumber f m := by
  rw [isNumber, expField_signed, isNumber]

theorem expField_of_lt (h : m < 2 ^ expWidth f * 2 ^ fracWidth f) : expField f m = m / 2 ^ fracWidth f :=
  Nat.mod_eq_of_lt (Nat.div_lt_of_lt_mul (by rwa [Nat.mul_comm]))

theorem negative_signed (h : m < 2 ^ expWidth f * 2 ^ fracWidth f) : negative f (signed f neg m) = neg := by
  rw [negative_eq, signed_eq, Nat.mul_assoc, Nat.add_mul_div_right _ _ (by positivity), Nat.div_eq_of_lt h]
  cases neg <;> rfl

theorem signed_lt (h : m < 2 ^ expWidth f * 2 ^ fracWidth f) : signed f neg m < 2 ^ fpWidth f := by
  rw [signed_eq, two_pow_fpWidth, Nat.mul_assoc, Nat.mul_assoc]
  have : neg.toNat * (2 ^ expWidth f * 2 ^ fracWidth f) ≤ 1 * (2 ^ expWidth f * 2 ^ fracWidth f) :=
    Nat.mul_le_mul_right _ neg.toNat_le
  omega

theorem infinityBits_lt : infinityBits f < 2 ^ expWidth f * 2 ^ fracWidth f := by
  rw [infinityBits_eq]
  exact Nat.mul_lt_mul_of_pos_right (Nat.sub_lt (Nat.two_pow_pos _) Nat.one_pos) (Nat.two_pow_pos _)

/-- A magnitude below an infinity's is a number's. -/
theorem isNumber_of_lt (h : m < infinityBits f) : isNumber f m = true := by
  rw [isNumber, expField_of_lt (h.trans infinityBits_lt), bne_iff_ne]
  rw [infinityBits_eq] at h
  exact (Nat.div_lt_of_lt_mul (by rwa [Nat.mul_comm])).ne

end

/-! ### A bit pattern is its fields -/

section
variable {f : FpFormat} {n : Nat}

theorem fracField_lt (f : FpFormat) (n : Nat) : fracField f n < 2 ^ fracWidth f := Nat.mod_lt _ (Nat.two_pow_pos _)

theorem expField_lt (f : FpFormat) (n : Nat) : expField f n < 2 ^ expWidth f := Nat.mod_lt _ (Nat.two_pow_pos _)

/-- The exponent and fraction fields together. -/
def magnitude (f : FpFormat) (n : Nat) : Nat := expField f n * 2 ^ fracWidth f + fracField f n

theorem magnitude_lt (f : FpFormat) (n : Nat) : magnitude f n < 2 ^ expWidth f * 2 ^ fracWidth f := by
  have := Nat.mul_le_mul_right (2 ^ fracWidth f) (Nat.succ_le_of_lt (expField_lt f n))
  have := fracField_lt f n
  rw [magnitude]
  rw [Nat.succ_mul] at *
  omega

theorem signed_magnitude (h : n < 2 ^ fpWidth f) : signed f (negative f n) (magnitude f n) = n := by
  rw [two_pow_fpWidth, Nat.mul_assoc] at h
  have hb : n / (2 ^ expWidth f * 2 ^ fracWidth f) < 2 := Nat.div_lt_of_lt_mul (by omega)
  have ht : (negative f n).toNat = n / (2 ^ expWidth f * 2 ^ fracWidth f) := by
    rw [negative_eq]
    obtain hz | ho := Nat.le_one_iff_eq_zero_or_eq_one.1 (Nat.lt_succ_iff.1 hb)
    · rw [hz]; rfl
    · rw [ho]; rfl
  have hsplit := Nat.div_add_mod (n / 2 ^ fracWidth f) (2 ^ expWidth f)
  rw [Nat.div_div_eq_div_mul, Nat.mul_comm (2 ^ fracWidth f)] at hsplit
  calc signed f (negative f n) (magnitude f n)
      = (2 ^ expWidth f * (n / (2 ^ expWidth f * 2 ^ fracWidth f)) + expField f n) * 2 ^ fracWidth f + fracField f n := by
        rw [signed_eq, magnitude, ht]; ring
    _ = n / 2 ^ fracWidth f * 2 ^ fracWidth f + fracField f n := by rw [expField, hsplit]
    _ = n := Nat.div_add_mod' n _

theorem negative_of_signed_eq (f : FpFormat) (n : Nat) :
    (n / 2 ^ (fracWidth f + expWidth f) % 2 == 1) = negative f n := by
  rw [negative_eq, pow_add, Nat.mul_comm (2 ^ fracWidth f)]
  rfl

theorem quietBit_eq (f : FpFormat) (n : Nat) :
    (fracField f n / 2 ^ (fracWidth f - 1) == 1) = n.testBit (fracWidth f - 1) := by
  have h : ∀ w, 0 < w → n % 2 ^ w / 2 ^ (w - 1) = n / 2 ^ (w - 1) % 2 := fun w hw => by
    obtain ⟨k, rfl⟩ := Nat.exists_eq_succ_of_ne_zero hw.ne'
    rw [Nat.succ_sub_one, Nat.pow_succ, Nat.mod_mul_right_div_self]
  rw [fracField, h _ (by cases f <;> decide), Nat.testBit_eq_decide_div_mod_eq]
  rfl

/-! ### The number of a bit pattern -/

/-- The significand of a number. -/
def significand (f : FpFormat) (n : Nat) : Nat := (if expField f n = 0 then 0 else 2 ^ fracWidth f) + fracField f n

/-- The exponent of its last bit. -/
def lastExponent (f : FpFormat) (n : Nat) : Int := (max (expField f n) 1 : Nat) - fpBias f - fracWidth f

theorem numberValue_eq (f : FpFormat) (n : Nat) :
    numberValue f n = signedValue (negative f n) (significand f n) (lastExponent f n) := rfl

theorem significand_lt (f : FpFormat) (n : Nat) : significand f n < 2 ^ (fracWidth f + 1) := by
  have := fracField_lt f n
  rw [significand, pow_succ]
  split <;> omega

theorem quantum_le_lastExponent (f : FpFormat) (n : Nat) : f.quantum ≤ lastExponent f n := by
  rw [quantum_eq, lastExponent]
  omega

theorem lastExponent_le (h : isNumber f n = true) : lastExponent f n ≤ fpBias f - fracWidth f := by
  have h1 := expField_lt f n
  have h2 := two_pow_expWidth f
  have h3 := fpBias_pos f
  have h4 : expField f n ≠ 2 ^ expWidth f - 1 := by simpa [isNumber] using h
  rw [lastExponent]
  omega

/-! ### What `unpack` makes of each class (45_floating_point.md R1151) -/

theorem unpack_eq (f : FpFormat) (n : Nat) : unpack f n =
    if isNumber f n then
      if significand f n = 0 then .zero (negative f n) else .finite (negative f n) (significand f n) (lastExponent f n)
    else if fracField f n = 0 then .inf (negative f n)
    else .nan (negative f n) (n.testBit (fracWidth f - 1)) (fracField f n % 2 ^ (fracWidth f - 1)) := by
  have hP := Nat.two_pow_pos (fracWidth f)
  unfold unpack
  rw [fracBits_eq, expBits_eq, quantum_eq]
  dsimp only
  rw [negative_of_signed_eq, show n % 2 ^ fracWidth f = fracField f n from rfl,
    show n / 2 ^ fracWidth f % 2 ^ expWidth f = expField f n from rfl, quietBit_eq]
  by_cases he : expField f n = 2 ^ expWidth f - 1
  · have hn : isNumber f n = false := by rw [isNumber, he, bne_self_eq_false]
    simp only [if_pos he, hn, Bool.false_eq_true, if_false]
  · have hn : isNumber f n = true := by rw [isNumber, bne_iff_ne]; exact he
    simp only [if_neg he, hn, if_true]
    by_cases h0 : expField f n = 0
    · simp [significand, lastExponent, h0]
    · rw [if_neg h0, if_neg (by simp only [significand, h0, if_false]; omega), significand, if_neg h0, lastExponent]
      congr 1
      omega

theorem unpack_of_nan (h : isNaN f n = true) : unpack f n
    = .nan (negative f n) (n.testBit (fracWidth f - 1)) (fracField f n % 2 ^ (fracWidth f - 1)) := by
  obtain ⟨hn, hz⟩ : isNumber f n = false ∧ fracField f n ≠ 0 := by simpa [isNaN] using h
  rw [unpack_eq, if_neg (by simp [hn]), if_neg hz]

theorem unpack_of_infinity (h : isInfinity f n = true) : unpack f n = .inf (negative f n) := by
  obtain ⟨hn, hz⟩ : isNumber f n = false ∧ fracField f n = 0 := by simpa [isInfinity] using h
  rw [unpack_eq, if_neg (by simp [hn]), if_pos hz]

theorem unpack_of_zero (h : isNumber f n = true) (hz : significand f n = 0) : unpack f n = .zero (negative f n) := by
  rw [unpack_eq, if_pos h, if_pos hz]

theorem unpack_of_nonzero (h : isNumber f n = true) (hz : significand f n ≠ 0) :
    unpack f n = .finite (negative f n) (significand f n) (lastExponent f n) := by
  rw [unpack_eq, if_pos h, if_neg hz]

/-- Every bit pattern is in one class. -/
theorem class_cases (f : FpFormat) (n : Nat) : isNaN f n = true ∨ isInfinity f n = true ∨ isNumber f n = true := by
  rw [isNaN, isInfinity]
  cases isNumber f n <;> simp [em']

theorem isNaN_eq_false_of_number (h : isNumber f n = true) : isNaN f n = false := by simp [isNaN, h]

theorem isInfinity_eq_false_of_number (h : isNumber f n = true) : isInfinity f n = false := by simp [isInfinity, h]

theorem isNumber_eq_false_of_infinity (h : isInfinity f n = true) : isNumber f n = false := by
  simpa using (Bool.and_eq_true_iff.1 h).1

theorem isNaN_eq_false_of_infinity (h : isInfinity f n = true) : isNaN f n = false := by
  have := (Bool.and_eq_true_iff.1 h).2
  simp [isNaN, bne, this]

/-! The value's class is the pattern's. -/

theorem isNan_unpack (f : FpFormat) (n : Nat) : (unpack f n).isNan = isNaN f n := by
  obtain h | h | h := class_cases f n
  · rw [unpack_of_nan h, h]; rfl
  · rw [unpack_of_infinity h, isNaN_eq_false_of_infinity h]; rfl
  · rw [unpack_eq, if_pos h, isNaN_eq_false_of_number h]
    split <;> rfl

theorem isSNan_unpack (f : FpFormat) (n : Nat) : (unpack f n).isSNan = isSignalling f n := by
  obtain h | h | h := class_cases f n
  · rw [unpack_of_nan h, isSignalling, h]; rfl
  · rw [unpack_of_infinity h, isSignalling, isNaN_eq_false_of_infinity h]; rfl
  · rw [unpack_eq, if_pos h, isSignalling, isNaN_eq_false_of_number h]
    split <;> rfl

end

end Sys2Proof.Machine

/-! SUPPORT. Rounding: a magnitude to a multiple of a power of two, a number to a format, a number to an integer (45_floating_point.md R1153, R1154, R1212). -/

namespace Sys2Proof.Machine

open Sys2Proof.Claims

/-! ### A sign, a significand and an exponent as a rational number -/

section
variable (neg : Bool) (m : Nat) (e : Int)

theorem signedValue_false : signedValue false m e = m * (2 : ℚ) ^ e := by simp [signedValue]

theorem signedValue_true : signedValue true m e = -(m * (2 : ℚ) ^ e) := by simp [signedValue]

@[simp] theorem signedValue_zero : signedValue neg 0 e = 0 := by simp [signedValue]

theorem signedValue_not : signedValue (!neg) m e = -signedValue neg m e := by
  cases neg <;> simp [signedValue_false, signedValue_true]

theorem abs_signedValue : |signedValue neg m e| = m * (2 : ℚ) ^ e := by
  have h : (0 : ℚ) ≤ m * (2 : ℚ) ^ e := by positivity
  cases neg
  · rw [signedValue_false, abs_of_nonneg h]
  · rw [signedValue_true, abs_neg, abs_of_nonneg h]

/-- The same number with its exponent lowered, or raised. -/
theorem signedValue_rescale (q : Int) :
    signedValue neg m e = (if neg then -1 else 1) * (m * (2 : ℚ) ^ (e - q)) * (2 : ℚ) ^ q := by
  rw [signedValue, mul_assoc, mul_assoc _ _ ((2 : ℚ) ^ q), mul_assoc (m : ℚ), ← zpow_add₀ two_ne_zero, sub_add_cancel]

variable {neg m e}

theorem signedValue_eq_zero_iff : signedValue neg m e = 0 ↔ m = 0 := by
  have h : (2 : ℚ) ^ e ≠ 0 := (zpow_pos two_pos e).ne'
  rw [← abs_eq_zero, abs_signedValue, mul_eq_zero, or_iff_left h, Nat.cast_eq_zero]

theorem signedValue_lt_zero_iff (hm : 0 < m) : signedValue neg m e < 0 ↔ neg = true := by
  have h : (0 : ℚ) < m * (2 : ℚ) ^ e := by positivity
  cases neg
  · simpa [signedValue_false] using h.le
  · simpa [signedValue_true] using h

theorem decide_signedValue_lt_zero (hm : 0 < m) : decide (signedValue neg m e < 0) = neg := by
  rw [Bool.eq_iff_iff, decide_eq_true_iff, signedValue_lt_zero_iff hm]

theorem signedValue_pos_iff (hm : 0 < m) : 0 < signedValue neg m e ↔ neg = false := by
  have h : (0 : ℚ) < m * (2 : ℚ) ^ e := by positivity
  cases neg
  · simpa [signedValue_false] using h
  · simpa [signedValue_true] using h.le

/-- Two numbers of one sign and exponent are as far apart as their magnitudes. -/
theorem abs_signedValue_sub (neg : Bool) (n m : Nat) (e q : Int) :
    |signedValue neg n q - signedValue neg m e| = |n - m * (2 : ℚ) ^ (e - q)| * (2 : ℚ) ^ q := by
  have h : signedValue neg n q - signedValue neg m e
      = (if neg then -1 else 1) * ((n - m * (2 : ℚ) ^ (e - q)) * (2 : ℚ) ^ q) := by
    rw [signedValue_rescale neg m e q, signedValue]
    ring
  have hs : |(if neg then -1 else 1 : ℚ)| = 1 := by cases neg <;> simp
  rw [h, abs_mul, hs, one_mul, abs_mul, abs_of_pos (a := (2 : ℚ) ^ q) (by positivity)]

end

/-- A power of two whose exponent is not negative. -/
theorem two_zpow_of_nonneg {k : Int} (h : 0 ≤ k) : (2 : ℚ) ^ k = ((2 ^ k.toNat : Nat) : ℚ) := by
  rw [Nat.cast_pow, Nat.cast_ofNat, ← zpow_natCast, Int.toNat_of_nonneg h]

/-! ### A magnitude in units of the last place kept (45_floating_point.md R1154) -/

/-- The magnitude `x` of a number with a sign, rounded to the integer `n`: 0 nearest, ties to even, 1 toward zero, 2 upward, 3 downward. -/
structure MagnitudeRounded (mode : BitVec 2) (neg : Bool) (x : ℚ) (n : Nat) : Prop where
  close : |n - x| < 1
  nearest : mode = 0#2 → 2 * |n - x| ≤ 1 ∧ (2 * |n - x| = 1 → n % 2 = 0)
  truncated : mode = 1#2 → (n : ℚ) ≤ x
  upward : mode = 2#2 → if neg then (n : ℚ) ≤ x else x ≤ n
  downward : mode = 3#2 → if neg then x ≤ n else (n : ℚ) ≤ x

/-- Whether `roundMagnitude` takes the multiple above, of a magnitude of `hi` units and `lo` parts of one. -/
def roundsUp (mode : BitVec 2) (neg : Bool) (unit hi lo : Nat) : Bool :=
  match mode.toNat with
  | 0 => unit < 2 * lo || (2 * lo == unit && hi % 2 == 1)
  | 1 => false
  | 2 => !neg && lo != 0
  | _ => neg && lo != 0

section
variable {mode : BitVec 2} {neg : Bool} {mant : Nat} {exp q : Int}

theorem roundMagnitude_of_le (h : q ≤ exp) :
    roundMagnitude mode neg mant exp q = (mant * 2 ^ (exp - q).toNat, false) := if_pos h

theorem roundMagnitude_of_lt {unit : Nat} (h : exp < q) (hu : unit = 2 ^ (q - exp).toNat) : roundMagnitude mode neg mant exp q
    = (mant / unit + (roundsUp mode neg unit (mant / unit) (mant % unit)).toNat, mant % unit != 0) := by
  rw [roundMagnitude, if_neg (by omega), hu]
  refine Prod.ext ?_ rfl
  rw [← hu]
  show (if roundsUp mode neg unit (mant / unit) (mant % unit) then _ else _) = _
  cases roundsUp mode neg unit (mant / unit) (mant % unit) <;> rfl

theorem scaled_of_le (h : q ≤ exp) : (mant : ℚ) * (2 : ℚ) ^ (exp - q) = ((mant * 2 ^ (exp - q).toNat : Nat) : ℚ) := by
  rw [two_zpow_of_nonneg (by omega), Nat.cast_mul]

theorem scaled_of_lt {unit : Nat} (h : exp < q) (hu : unit = 2 ^ (q - exp).toNat) :
    (mant : ℚ) * (2 : ℚ) ^ (exp - q) = (mant / unit : Nat) + (mant % unit : Nat) / (unit : ℚ) := by
  have hne : (unit : ℚ) ≠ 0 := by rw [hu]; positivity
  have hm : (mant : ℚ) = unit * (mant / unit : Nat) + (mant % unit : Nat) := by exact_mod_cast (Nat.div_add_mod mant unit).symm
  rw [← neg_sub q exp, zpow_neg, two_zpow_of_nonneg (by omega), ← hu, ← div_eq_mul_inv, div_eq_iff hne, add_mul,
    div_mul_cancel₀ _ hne, mul_comm _ (unit : ℚ)]
  exact hm

end

/-- An exact magnitude is rounded to itself. -/
theorem magnitudeRounded_self (mode : BitVec 2) (neg : Bool) (n : Nat) : MagnitudeRounded mode neg n n := by
  constructor <;> simp

theorem mode_cases (mode : BitVec 2) : mode = 0#2 ∨ mode = 1#2 ∨ mode = 2#2 ∨ mode = 3#2 := by
  revert mode
  decide

theorem roundsUp_of_exact (mode : BitVec 2) (neg : Bool) {unit : Nat} (hi : Nat) (hu : 0 < unit) :
    roundsUp mode neg unit hi 0 = false := by
  obtain rfl | rfl | rfl | rfl := mode_cases mode
  all_goals simp [roundsUp]
  omega

section
variable {mode : BitVec 2} {neg : Bool} {unit hi lo : Nat} (hlo : lo < unit)
include hlo

/-- Down is right by less than a unit, and is chosen where the mode says so. -/
theorem magnitudeRounded_down (h : roundsUp mode neg unit hi lo = false) :
    MagnitudeRounded mode neg (hi + lo / (unit : ℚ)) hi := by
  have hu : (0 : ℚ) < unit := by exact_mod_cast (by omega : 0 < unit)
  have h0 : (0 : ℚ) ≤ lo / unit := by positivity
  have h1 : (lo : ℚ) / unit < 1 := by rw [div_lt_one hu]; exact_mod_cast hlo
  have hd : |(hi : ℚ) - (hi + lo / unit)| = lo / unit := by rw [sub_add_cancel_left, abs_neg, abs_of_nonneg h0]
  refine ⟨by rwa [hd], ?nearest, fun _ => by linarith, ?upward, ?downward⟩
  case nearest =>
    rintro rfl
    have hn : ¬unit < 2 * lo ∧ (2 * lo = unit → hi % 2 = 0) := by simpa [roundsUp] using h
    rw [hd, ← mul_div_assoc, div_le_one hu, div_eq_one_iff_eq hu.ne']
    exact ⟨by exact_mod_cast Nat.le_of_not_lt hn.1, fun he => hn.2 (by exact_mod_cast he)⟩
  case upward =>
    rintro rfl
    cases neg
    · have hz : lo = 0 := by simpa [roundsUp] using h
      simp [hz]
    · simpa using h0
  case downward =>
    rintro rfl
    cases neg
    · simpa using h0
    · have hz : lo = 0 := by simpa [roundsUp] using h
      simp [hz]

theorem magnitudeRounded_up (h : roundsUp mode neg unit hi lo = true) :
    MagnitudeRounded mode neg (hi + lo / (unit : ℚ)) (hi + 1) := by
  have hu : (0 : ℚ) < unit := by exact_mod_cast (by omega : 0 < unit)
  have h1 : (lo : ℚ) / unit < 1 := by rw [div_lt_one hu]; exact_mod_cast hlo
  have hd : |((hi + 1 : Nat) : ℚ) - (hi + lo / unit)| = 1 - lo / unit := by
    rw [Nat.cast_add_one, add_sub_add_left_eq_sub, abs_of_pos (sub_pos.2 h1)]
  have hne : lo ≠ 0 := by
    rintro rfl
    simp [roundsUp_of_exact mode neg hi hlo] at h
  have h0 : (0 : ℚ) < lo / unit := div_pos (by exact_mod_cast Nat.pos_of_ne_zero hne) hu
  refine ⟨by rw [hd]; linarith, ?nearest, ?truncated, ?upward, ?downward⟩
  case nearest =>
    rintro rfl
    have hn : unit < 2 * lo ∨ (2 * lo = unit ∧ hi % 2 = 1) := by simpa [roundsUp] using h
    have hh : (1 : ℚ) / 2 ≤ lo / unit := by
      rw [div_le_div_iff₀ two_pos hu, one_mul]
      exact_mod_cast (by omega : unit ≤ lo * 2)
    refine ⟨by rw [hd]; linarith, fun he => ?_⟩
    have he' : (lo : ℚ) / unit = 1 / 2 := by rw [hd] at he; linarith
    rw [div_eq_div_iff hu.ne' two_ne_zero, one_mul] at he'
    have : lo * 2 = unit := by exact_mod_cast he'
    omega
  case truncated => rintro rfl; cases h
  case upward =>
    rintro rfl
    cases neg
    · simpa using h1.le
    · cases h
  case downward =>
    rintro rfl
    cases neg
    · cases h
    · simpa using h1.le

end

section
variable (mode : BitVec 2) (neg : Bool) (mant : Nat) (exp q : Int)

theorem roundMagnitude_rounded :
    MagnitudeRounded mode neg (mant * (2 : ℚ) ^ (exp - q)) (roundMagnitude mode neg mant exp q).1 := by
  obtain h | h := le_or_gt q exp
  · rw [roundMagnitude_of_le h, scaled_of_le h]
    exact magnitudeRounded_self mode neg _
  · have hlo := Nat.mod_lt mant (Nat.two_pow_pos (q - exp).toNat)
    rw [roundMagnitude_of_lt h rfl, scaled_of_lt h rfl]
    cases hup : roundsUp mode neg (2 ^ (q - exp).toNat) (mant / 2 ^ (q - exp).toNat) (mant % 2 ^ (q - exp).toNat)
    · exact magnitudeRounded_down hlo hup
    · exact magnitudeRounded_up hlo hup

theorem roundMagnitude_exact_iff : (roundMagnitude mode neg mant exp q).2 = false
    ↔ ((roundMagnitude mode neg mant exp q).1 : ℚ) = mant * (2 : ℚ) ^ (exp - q) := by
  obtain h | h := le_or_gt q exp
  · rw [roundMagnitude_of_le h, scaled_of_le h]
    exact iff_of_true rfl rfl
  · rw [roundMagnitude_of_lt h rfl, scaled_of_lt h rfl]
    have hlo := Nat.mod_lt mant (Nat.two_pow_pos (q - exp).toNat)
    generalize 2 ^ (q - exp).toNat = unit at *
    have hu : (0 : ℚ) < unit := by exact_mod_cast (by omega : 0 < unit)
    by_cases hz : mant % unit = 0
    · rw [hz, roundsUp_of_exact mode neg _ (by omega)]
      simp
    · have h0 : (0 : ℚ) < (mant % unit : Nat) / unit := div_pos (by exact_mod_cast Nat.pos_of_ne_zero hz) hu
      have h1 : ((mant % unit : Nat) : ℚ) / unit < 1 := by rw [div_lt_one hu]; exact_mod_cast hlo
      refine iff_of_false (by simpa using hz) fun he => ?_
      rw [Nat.cast_add, add_right_inj] at he
      cases hup : roundsUp mode neg unit (mant / unit) (mant % unit)
      · simp [hup] at he
        linarith
      · simp [hup] at he
        linarith

end

section
variable {mode : BitVec 2} {neg : Bool} {x : ℚ} {n N : Nat} (h : MagnitudeRounded mode neg x n)
include h

theorem MagnitudeRounded.le_of_le (hx : x ≤ N) : n ≤ N := by
  have hc := (abs_lt.1 h.close).2
  have : (n : ℚ) < (N + 1 : Nat) := by rw [Nat.cast_add_one]; linarith
  exact Nat.lt_succ_iff.1 (by exact_mod_cast this)

theorem MagnitudeRounded.ge_of_ge (hx : N ≤ x) : N ≤ n := by
  have hc := (abs_lt.1 h.close).1
  have : (N : ℚ) < (n + 1 : Nat) := by rw [Nat.cast_add_one]; linarith
  exact Nat.lt_succ_iff.1 (by exact_mod_cast this)

end

/-- A magnitude rounded is, with its sign and its unit, the number rounded. -/
theorem rounded_of_magnitude {mode : BitVec 2} {neg : Bool} {mant n : Nat} {exp q : Int}
    (h : MagnitudeRounded mode neg (mant * (2 : ℚ) ^ (exp - q)) n) :
    Rounded mode q (signedValue neg mant exp) (signedValue neg n q) := by
  have hP : (0 : ℚ) < (2 : ℚ) ^ q := by positivity
  have hx : mant * (2 : ℚ) ^ exp = mant * (2 : ℚ) ^ (exp - q) * (2 : ℚ) ^ q := by
    rw [mul_assoc, ← zpow_add₀ two_ne_zero, sub_add_cancel]
  refine ⟨if neg then -n else n, ?multiple, ?close, ?nearest, ?truncated, ?upward, ?downward⟩
  case multiple => cases neg <;> simp [signedValue]
  case close =>
    rw [abs_signedValue_sub]
    exact mul_lt_of_lt_one_left hP h.close
  case nearest =>
    intro hm
    obtain ⟨hle, hev⟩ := h.nearest hm
    rw [abs_signedValue_sub, ← mul_assoc]
    refine ⟨mul_le_of_le_one_left hP.le hle, fun he => ?_⟩
    have := hev (mul_right_cancel₀ hP.ne' (he.trans (one_mul _).symm))
    split <;> omega
  case truncated =>
    intro hm
    rw [abs_signedValue, abs_signedValue, hx]
    exact mul_le_mul_of_nonneg_right (h.truncated hm) hP.le
  case upward =>
    intro hm
    have := h.upward hm
    cases neg
    · rw [signedValue_false, signedValue_false, hx]
      exact mul_le_mul_of_nonneg_right this hP.le
    · rw [signedValue_true, signedValue_true, hx]
      exact neg_le_neg (mul_le_mul_of_nonneg_right this hP.le)
  case downward =>
    intro hm
    have := h.downward hm
    cases neg
    · rw [signedValue_false, signedValue_false, hx]
      exact mul_le_mul_of_nonneg_right this hP.le
    · rw [signedValue_true, signedValue_true, hx]
      exact neg_le_neg (mul_le_mul_of_nonneg_right this hP.le)

/-- Rounding changes the number exactly where it changes the magnitude. -/
theorem roundMagnitude_changed (mode : BitVec 2) (neg : Bool) (mant : Nat) (exp q : Int) :
    (roundMagnitude mode neg mant exp q).2
      = decide (signedValue neg (roundMagnitude mode neg mant exp q).1 q ≠ signedValue neg mant exp) := by
  have hP : (2 : ℚ) ^ q ≠ 0 := by positivity
  have h := roundMagnitude_exact_iff mode neg mant exp q
  rw [Bool.eq_iff_iff, decide_eq_true_iff, ← not_iff_not, Bool.not_eq_true, not_ne_iff, h,
    ← sub_eq_zero (b := signedValue neg mant exp), ← abs_eq_zero (a := _ - signedValue neg mant exp),
    abs_signedValue_sub, mul_eq_zero, or_iff_left hP, abs_eq_zero, sub_eq_zero]

/-! ### The number whose bit pattern is a sign, an exponent field and a significand -/

/-- The fields of `k` units of the exponent and a significand `m` that may carry into them: the last exponent is `k` places above the least. -/
theorem significand_lastExponent (f : FpFormat) {k m : Nat} (hm : m ≤ 2 * 2 ^ fracWidth f)
    (hk : k = 0 ∨ 2 ^ fracWidth f ≤ m) (hlt : k * 2 ^ fracWidth f + m < infinityBits f) :
    (significand f (k * 2 ^ fracWidth f + m) : ℚ) * (2 : ℚ) ^ lastExponent f (k * 2 ^ fracWidth f + m)
      = m * (2 : ℚ) ^ (k + f.quantum) := by
  have hP := Nat.two_pow_pos (fracWidth f)
  have he := expField_of_lt (hlt.trans infinityBits_lt)
  rw [significand, lastExponent, fracField, quantum_eq, he, Nat.mul_comm k, Nat.mul_add_div hP, Nat.mul_add_mod]
  obtain hsub | ⟨hge, hnormal⟩ | hcarry : m < 2 ^ fracWidth f ∨ (2 ^ fracWidth f ≤ m ∧ m < 2 * 2 ^ fracWidth f)
      ∨ m = 2 * 2 ^ fracWidth f := by omega
  case inl =>
    obtain rfl : k = 0 := by omega
    rw [Nat.div_eq_of_lt hsub, Nat.mod_eq_of_lt hsub]
    simp
  case inr.inl =>
    have hd : m / 2 ^ fracWidth f = 1 := Nat.div_eq_of_lt_le (by omega) (by omega)
    have hr : m % 2 ^ fracWidth f = m - 2 ^ fracWidth f := by rw [Nat.mod_eq_sub_mod hge, Nat.mod_eq_of_lt (by omega)]
    rw [hd, hr, if_neg (by omega), Nat.add_sub_cancel' hge]
    congr 2
    omega
  case inr.inr =>
    have hexp : ((max (k + 2) 1 : Nat) : Int) - fpBias f - fracWidth f = k + (1 - fpBias f - fracWidth f) + 1 := by omega
    rw [hcarry, Nat.mul_div_cancel _ hP, Nat.mul_mod_left, if_neg (by omega), Nat.add_zero, Nat.cast_mul, hexp,
      zpow_add_one₀ two_ne_zero, Nat.cast_ofNat]
    ring

theorem numberValue_signed (f : FpFormat) (neg : Bool) {k m : Nat} (hm : m ≤ 2 * 2 ^ fracWidth f)
    (hk : k = 0 ∨ 2 ^ fracWidth f ≤ m) (hlt : k * 2 ^ fracWidth f + m < infinityBits f) :
    numberValue f (signed f neg (k * 2 ^ fracWidth f + m)) = signedValue neg m (k + f.quantum) := by
  have h := significand_lastExponent f hm hk hlt
  rw [numberValue_eq, negative_signed (hlt.trans infinityBits_lt), significand, lastExponent, expField_signed,
    fracField_signed, ← significand, ← lastExponent, signedValue, signedValue, mul_assoc, mul_assoc, h]

theorem encodes_signed (f : FpFormat) {neg : Bool} {k m : Nat} {x : ℚ} (hm : m ≤ 2 * 2 ^ fracWidth f)
    (hk : k = 0 ∨ 2 ^ fracWidth f ≤ m) (hlt : k * 2 ^ fracWidth f + m < infinityBits f) (hneg : decide (x < 0) = neg) :
    Encodes f (signed f neg (k * 2 ^ fracWidth f + m)) x (signedValue neg m (k + f.quantum)) :=
  ⟨signed_lt (hlt.trans infinityBits_lt), by rw [isNumber_signed, isNumber_of_lt hlt],
    by rw [negative_signed (hlt.trans infinityBits_lt), hneg], numberValue_signed f neg hm hk hlt⟩

/-! ### `roundTo` (45_floating_point.md R1154) -/

section
variable {f : FpFormat} {mode : BitVec 2} {ufm neg : Bool} {mant : Nat} {exp : Int}

theorem roundTo_of_tiny (h : exp + Nat.log2 mant < f.emin) : roundTo f mode ufm neg mant exp
    = (signed f neg (roundMagnitude mode neg mant exp f.quantum).1,
      { FpFlags.none with
        unf := ufm || (roundMagnitude mode neg mant exp f.quantum).2,
        nx := (roundMagnitude mode neg mant exp f.quantum).2 }) := if_pos h

theorem roundTo_of_overflow {r : Nat × Bool} (h : f.emin ≤ exp + Nat.log2 mant)
    (hr : roundMagnitude mode neg mant exp (exp + Nat.log2 mant - fracWidth f) = r)
    (ho : (fpBias f : Int) < exp + Nat.log2 mant - fracWidth f + Nat.log2 r.1) : roundTo f mode ufm neg mant exp
    = (overflowBits f mode neg, { FpFlags.none with ovf := true, nx := true }) := by
  simp only [roundTo, if_neg (not_lt.2 h), fracBits_eq, bias_eq, hr, if_pos ho]

theorem roundTo_of_normal {r : Nat × Bool} (h : f.emin ≤ exp + Nat.log2 mant)
    (hr : roundMagnitude mode neg mant exp (exp + Nat.log2 mant - fracWidth f) = r)
    (ho : exp + Nat.log2 mant - fracWidth f + Nat.log2 r.1 ≤ (fpBias f : Int)) : roundTo f mode ufm neg mant exp
    = (signed f neg ((exp + Nat.log2 mant - f.emin).toNat * 2 ^ fracWidth f + r.1), { FpFlags.none with nx := r.2 }) := by
  simp only [roundTo, if_neg (not_lt.2 h), fracBits_eq, bias_eq, hr, if_neg (not_lt.2 ho)]

/-- The leading bit of a number. -/
theorem abs_signedValue_bounds (neg : Bool) (exp : Int) (hm : 0 < mant) :
    (2 : ℚ) ^ (exp + Nat.log2 mant) ≤ |signedValue neg mant exp|
      ∧ |signedValue neg mant exp| < (2 : ℚ) ^ (exp + Nat.log2 mant + 1) := by
  have hP : (0 : ℚ) < (2 : ℚ) ^ exp := by positivity
  have h1 : ((2 ^ Nat.log2 mant : Nat) : ℚ) ≤ mant := Nat.cast_le.2 (Nat.log2_self_le hm.ne')
  have h2 : (mant : ℚ) < (2 ^ (Nat.log2 mant + 1) : Nat) := Nat.cast_lt.2 Nat.lt_log2_self
  rw [abs_signedValue, add_assoc, zpow_add₀ two_ne_zero, zpow_add₀ two_ne_zero, mul_comm (mant : ℚ)]
  rw [Nat.cast_pow, ← zpow_natCast] at h1 h2
  exact ⟨mul_le_mul_of_nonneg_left (by exact_mod_cast h1) hP.le, mul_lt_mul_of_pos_left (by exact_mod_cast h2) hP⟩

/-- A number in units of the last place a format keeps of it. -/
theorem leading_units (f : FpFormat) (exp : Int) (hm : 0 < mant) :
    ((2 ^ fracWidth f : Nat) : ℚ) ≤ mant * (2 : ℚ) ^ (exp - (exp + Nat.log2 mant - fracWidth f))
      ∧ mant * (2 : ℚ) ^ (exp - (exp + Nat.log2 mant - fracWidth f)) < (2 * 2 ^ fracWidth f : Nat) := by
  obtain ⟨h1, h2⟩ := abs_signedValue_bounds false (exp - (exp + Nat.log2 mant - fracWidth f)) hm
  rw [abs_signedValue] at h1 h2
  rw [show exp - (exp + Nat.log2 mant - fracWidth f) + Nat.log2 mant = (fracWidth f : Int) by omega] at h1 h2
  rw [zpow_add_one₀ two_ne_zero, zpow_natCast] at h2
  rw [zpow_natCast] at h1
  push_cast
  exact ⟨h1, by rwa [mul_comm 2]⟩

/-- A number below the least normal one, in units of the last place of a subnormal one. -/
theorem subnormal_units (hm : 0 < mant) (h : exp + Nat.log2 mant < f.emin) :
    mant * (2 : ℚ) ^ (exp - f.quantum) ≤ (2 ^ fracWidth f : Nat) := by
  have h2 := (abs_signedValue_bounds false (exp - f.quantum) hm).2
  rw [abs_signedValue] at h2
  have hq : exp - f.quantum + Nat.log2 mant + 1 ≤ fracWidth f := by
    rw [FpFormat.quantum, fracBits_eq]
    omega
  have := zpow_le_zpow_right₀ (one_le_two (α := ℚ)) hq
  rw [zpow_natCast] at this
  push_cast
  exact h2.le.trans this

end

/-- The bits of a significand, which rounding may carry into one more. -/
theorem log2_significand {f : FpFormat} {m : Nat} (h1 : 2 ^ fracWidth f ≤ m) (h2 : m ≤ 2 * 2 ^ fracWidth f) :
    (m < 2 * 2 ^ fracWidth f ∧ Nat.log2 m = fracWidth f) ∨ (m = 2 * 2 ^ fracWidth f ∧ Nat.log2 m = fracWidth f + 1) := by
  have hP := Nat.two_pow_pos (fracWidth f)
  have hlo := (Nat.le_log2 (by omega)).2 h1
  obtain hlt | rfl := h2.lt_or_eq
  · have := (Nat.log2_lt (n := m) (k := fracWidth f + 1) (by omega)).2 (by rwa [Nat.pow_succ'])
    exact .inl ⟨hlt, by omega⟩
  · rw [← Nat.pow_succ']
    exact .inr ⟨rfl, Nat.log2_two_pow⟩

theorem maxFinite_eq (f : FpFormat) :
    maxFinite f = ((2 * 2 ^ fracWidth f - 1 : Nat) : ℚ) * (2 : ℚ) ^ ((fpBias f : Int) - fracWidth f) := by
  have hP := Nat.two_pow_pos (fracWidth f)
  have hp : (2 : ℚ) ^ fracWidth f ≠ 0 := by positivity
  rw [maxFinite, Nat.cast_sub (by omega), zpow_sub₀ two_ne_zero, zpow_neg, zpow_natCast]
  push_cast
  field_simp

/-- Overflow, on the exponent of the rounded number, is overflow of the number. -/
theorem maxFinite_lt_iff {f : FpFormat} {m : Nat} (q : Int) (h1 : 2 ^ fracWidth f ≤ m) (h2 : m ≤ 2 * 2 ^ fracWidth f) :
    maxFinite f < m * (2 : ℚ) ^ q ↔ (fpBias f : Int) < q + Nat.log2 m := by
  have hP := Nat.two_pow_pos (fracWidth f)
  have hm : 0 < m := by omega
  obtain ⟨hlo, hhi⟩ := abs_signedValue_bounds false q hm
  rw [abs_signedValue] at hlo hhi
  have hmax : maxFinite f < (2 : ℚ) ^ ((fpBias f : Int) + 1) := by
    rw [maxFinite, zpow_add_one₀ two_ne_zero, mul_comm _ (2 : ℚ)]
    exact mul_lt_mul_of_pos_right (sub_lt_self _ (by positivity)) (by positivity)
  constructor
  · contrapose!
    intro hle
    rw [maxFinite_eq]
    obtain ⟨hlt, hlog⟩ | ⟨rfl, hlog⟩ := log2_significand h1 h2
    · refine mul_le_mul (Nat.cast_le.2 (by omega)) (zpow_le_zpow_right₀ one_le_two (by omega)) (by positivity) (by positivity)
    · have hstep : (2 : ℚ) ^ q * 2 ≤ (2 : ℚ) ^ ((fpBias f : Int) - fracWidth f) := by
        rw [← zpow_add_one₀ two_ne_zero]
        exact zpow_le_zpow_right₀ one_le_two (by omega)
      calc ((2 * 2 ^ fracWidth f : Nat) : ℚ) * (2 : ℚ) ^ q = ((2 ^ fracWidth f : Nat) : ℚ) * ((2 : ℚ) ^ q * 2) := by
            push_cast; ring
        _ ≤ _ := mul_le_mul (Nat.cast_le.2 (by omega)) hstep (by positivity) (by positivity)
  · intro hlt
    exact hmax.trans_le ((zpow_le_zpow_right₀ one_le_two (by omega)).trans hlo)

/-- A significand at an exponent within range lies below an infinity. -/
theorem magnitude_lt_infinity {f : FpFormat} {k m : Nat} (h1 : 2 ^ fracWidth f ≤ m) (h2 : m ≤ 2 * 2 ^ fracWidth f)
    (h : (k : Int) + f.quantum + Nat.log2 m ≤ fpBias f) : k * 2 ^ fracWidth f + m < infinityBits f := by
  have hP := Nat.two_pow_pos (fracWidth f)
  have hQ := two_pow_expWidth f
  rw [quantum_eq] at h
  obtain ⟨hlt, hlog⟩ | ⟨rfl, hlog⟩ := log2_significand h1 h2
  · have := Nat.mul_le_mul_right (2 ^ fracWidth f) (show k + 2 ≤ 2 ^ expWidth f - 1 by omega)
    rw [infinityBits_eq]
    rw [Nat.add_mul] at this
    omega
  · have := Nat.mul_le_mul_right (2 ^ fracWidth f) (show k + 3 ≤ 2 ^ expWidth f - 1 by omega)
    rw [infinityBits_eq]
    rw [Nat.add_mul] at this
    omega

theorem infinityBits_gt (f : FpFormat) : 2 ^ fracWidth f < infinityBits f := by cases f <;> decide

/-- Which directions overflow to an infinity; the others give the largest number, the bit pattern before it. -/
theorem overflowBits_eq (f : FpFormat) (mode : BitVec 2) (neg : Bool) : overflowBits f mode neg
    = if mode = 0#2 ∨ (mode = 2#2 ∧ neg = false) ∨ (mode = 3#2 ∧ neg = true) then infinityOf f neg
      else infinityOf f neg - 1 := by
  have h1 : signed f neg (infinityBits f - 1) = signed f neg (infinityBits f) - 1 := by
    rw [signed_eq, signed_eq, Nat.sub_add_comm (Nat.one_le_of_lt (infinityBits_gt f))]
  rw [infinityOf_eq, ← h1]
  obtain rfl | rfl | rfl | rfl := mode_cases mode
  case inr.inr.inl | inr.inr.inr => cases neg <;> rfl
  all_goals rfl

section
variable {f : FpFormat} {mant : Nat} (mode : BitVec 2) (ufm neg : Bool) {exp : Int} (hm : 0 < mant)
include hm

/-- Below the least normal number the last place is that of the subnormal ones. -/
theorem roundTo_of_tiny_rounds (h : exp + Nat.log2 mant < f.emin) :
    ∃ r, Rounded mode (1 - fpBias f - fracWidth f) (signedValue neg mant exp) r
      ∧ Encodes f (roundTo f mode ufm neg mant exp).1 (signedValue neg mant exp) r
      ∧ (roundTo f mode ufm neg mant exp).2 = { FpFlags.none with
        unf := ufm || decide (r ≠ signedValue neg mant exp), nx := decide (r ≠ signedValue neg mant exp) } := by
  have hr := roundMagnitude_rounded mode neg mant exp f.quantum
  have hx := roundMagnitude_changed mode neg mant exp f.quantum
  have hle := hr.le_of_le (subnormal_units hm h)
  have hinf := infinityBits_gt f
  rw [roundTo_of_tiny h]
  generalize roundMagnitude mode neg mant exp f.quantum = r at hr hx hle
  have he := encodes_signed f (k := 0) (m := r.1) (by omega) (.inl rfl) (by omega)
    (decide_signedValue_lt_zero (neg := neg) (e := exp) hm)
  rw [Nat.zero_mul, Nat.zero_add, Nat.cast_zero, zero_add] at he
  refine ⟨signedValue neg r.1 f.quantum, ?_, he, by rw [hx]⟩
  rw [quantum_eq] at hr ⊢
  exact rounded_of_magnitude hr

/-- From there on the last place follows the leading bit, up to the largest number. -/
theorem roundTo_of_normal_rounds {r : Nat × Bool} (h : f.emin ≤ exp + Nat.log2 mant)
    (hr : roundMagnitude mode neg mant exp (exp + Nat.log2 mant - fracWidth f) = r) (h1 : 2 ^ fracWidth f ≤ r.1)
    (h2 : r.1 ≤ 2 * 2 ^ fracWidth f) (ho : exp + Nat.log2 mant - fracWidth f + Nat.log2 r.1 ≤ (fpBias f : Int)) :
    Encodes f (roundTo f mode ufm neg mant exp).1 (signedValue neg mant exp)
        (signedValue neg r.1 (exp + Nat.log2 mant - fracWidth f))
      ∧ (roundTo f mode ufm neg mant exp).2 = { FpFlags.none with
        nx := decide (signedValue neg r.1 (exp + Nat.log2 mant - fracWidth f) ≠ signedValue neg mant exp) } := by
  have hk : ((exp + Nat.log2 mant - f.emin).toNat : Int) + f.quantum = exp + Nat.log2 mant - fracWidth f := by
    rw [FpFormat.quantum, fracBits_eq]
    omega
  have hx := roundMagnitude_changed mode neg mant exp (exp + Nat.log2 mant - fracWidth f)
  rw [hr] at hx
  rw [roundTo_of_normal h hr ho, hx, ← hk]
  exact ⟨encodes_signed f h2 (.inr h1) (magnitude_lt_infinity h1 h2 (by rw [hk]; exact ho))
    (decide_signedValue_lt_zero hm), rfl⟩

/-- `roundTo` is round_to of R1154: overflow comes before tininess, which no number has that overflows. -/
theorem roundTo_roundsTo : RoundsTo f mode ufm (signedValue neg mant exp) (roundTo f mode ufm neg mant exp) := by
  have hbias := fpBias_pos f
  have hemin := emin_eq f
  obtain ⟨hlo, hhi⟩ := abs_signedValue_bounds neg exp hm
  obtain ⟨hu1, hu2⟩ := leading_units f exp hm
  have hr := roundMagnitude_rounded mode neg mant exp (exp + Nat.log2 mant - fracWidth f)
  generalize hrr : roundMagnitude mode neg mant exp (exp + Nat.log2 mant - fracWidth f) = r at hr
  have h1 : 2 ^ fracWidth f ≤ r.1 := hr.ge_of_ge hu1
  have h2 : r.1 ≤ 2 * 2 ^ fracWidth f := hr.le_of_le hu2.le
  refine ⟨exp + Nat.log2 mant, _, hlo, hhi, rounded_of_magnitude hr, ?_⟩
  rw [abs_signedValue neg r.1, if_congr (maxFinite_lt_iff _ h1 h2) rfl rfl]
  obtain htiny | hnormal := lt_or_ge (exp + Nat.log2 mant) f.emin
  case inl =>
    have hlog := log2_significand h1 h2
    rw [if_neg (by omega), if_pos (hhi.trans_le (zpow_le_zpow_right₀ one_le_two (by omega)))]
    exact roundTo_of_tiny_rounds mode ufm neg hm htiny
  case inr =>
    by_cases ho : (fpBias f : Int) < exp + Nat.log2 mant - fracWidth f + Nat.log2 r.1
    · rw [if_pos ho, roundTo_of_overflow hnormal hrr ho, overflowBits_eq, decide_signedValue_lt_zero hm]
      simp only [signedValue_lt_zero_iff hm, signedValue_pos_iff hm]
    · rw [if_neg ho, if_neg (not_lt.2 ((zpow_le_zpow_right₀ one_le_two (by omega)).trans hlo))]
      exact roundTo_of_normal_rounds mode ufm neg hm hnormal hrr h1 h2 (not_lt.1 ho)

end

/-! ### Truncation to an integer (45_floating_point.md R1212) -/

/-- Toward zero, the sign does not matter. -/
theorem truncMagnitude_eq (neg : Bool) (mant : Nat) (exp : Int) :
    truncMagnitude mant exp = roundMagnitude 1#2 neg mant exp 0 := by cases neg <;> rfl

/-- The integer of a sign and a magnitude. -/
def signedInt (neg : Bool) (m : Nat) : Int := if neg then -(m : Int) else m

theorem signedInt_cast (neg : Bool) (m : Nat) : (signedInt neg m : ℚ) = signedValue neg m 0 := by
  cases neg <;> simp [signedInt, signedValue]

section
variable {neg : Bool} {mant n : Nat} {exp : Int} (h : MagnitudeRounded 1#2 neg (mant * (2 : ℚ) ^ exp) n)
include h

theorem natCast_le_truncated_iff (N : Nat) : N ≤ n ↔ (N : ℚ) ≤ mant * (2 : ℚ) ^ exp :=
  ⟨fun hN => (Nat.cast_le.2 hN).trans (h.truncated rfl), h.ge_of_ge⟩

/-- Whether the truncated value is out of range says whether the number is, one unit more room being below (log 35). -/
theorem truncated_out_of_range_iff {B : Nat} (hB : 0 < B) :
    (B : Int) ≤ signedInt neg n ∨ signedInt neg n ≤ -((B : Int) + 1)
      ↔ ¬(-(B : ℚ) - 1 < signedValue neg mant exp ∧ signedValue neg mant exp < B) := by
  have hx : (0 : ℚ) ≤ mant * (2 : ℚ) ^ exp := by positivity
  have hBq : (0 : ℚ) < B := Nat.cast_pos.2 hB
  cases neg
  case false =>
    have hlow : -(B : ℚ) - 1 < signedValue false mant exp := by rw [signedValue_false]; linarith
    rw [and_iff_right hlow, not_lt, signedValue_false, ← natCast_le_truncated_iff h B, signedInt, if_neg Bool.false_ne_true]
    omega
  case true =>
    have hhigh : signedValue true mant exp < B := by rw [signedValue_true]; linarith
    have hone := natCast_le_truncated_iff h (B + 1)
    rw [Nat.cast_add_one] at hone
    rw [and_iff_left hhigh, not_lt, signedValue_true, le_sub_iff_add_le, neg_add_le_iff_le_add, ← sub_eq_add_neg,
      le_sub_iff_add_le, add_comm 1, ← hone, signedInt, if_pos rfl]
    omega

/-- Truncated, a number comes nearer to zero by less than one. -/
theorem truncated_near : |(signedInt neg n : ℚ)| ≤ |signedValue neg mant exp|
    ∧ |signedValue neg mant exp - signedInt neg n| < 1 ∧ (signedInt neg n : ℚ) * signedValue neg mant exp ≥ 0 := by
  have hclose := h.close
  rw [signedInt_cast, abs_signedValue, abs_signedValue, zpow_zero, mul_one, abs_sub_comm, abs_signedValue_sub, sub_zero,
    zpow_zero, mul_one]
  refine ⟨h.truncated rfl, hclose, ?_⟩
  have hx : (0 : ℚ) ≤ mant * (2 : ℚ) ^ exp := by positivity
  cases neg
  · rw [signedValue_false, signedValue_false]
    positivity
  · rw [signedValue_true, signedValue_true, neg_mul_neg]
    positivity

end

theorem fpToInt_finite (w : Nat) (neg : Bool) (mant : Nat) (exp : Int) : fpToInt w (.finite neg mant exp)
    = if 2 ^ (w - 1) ≤ signedInt neg (truncMagnitude mant exp).1
        ∨ signedInt neg (truncMagnitude mant exp).1 ≤ -(2 ^ (w - 1) + 1) then (invalidInt w neg, .invalid)
      else (signedInt neg (truncMagnitude mant exp).1, { FpFlags.none with nx := (truncMagnitude mant exp).2 }) := rfl

/-- A number in range gives its integer part, and says whether that is all of it. -/
theorem fpToInt_finite_spec (w : Nat) (neg : Bool) (mant : Nat) (exp : Int) :
    let x := signedValue neg mant exp
    let r := fpToInt w (.finite neg mant exp)
    if -(2 ^ (w - 1) : ℚ) - 1 < x ∧ x < 2 ^ (w - 1) then
      |(r.1 : ℚ)| ≤ |x| ∧ |x - r.1| < 1 ∧ (r.1 : ℚ) * x ≥ 0
        ∧ r.2 = { FpFlags.none with nx := decide ((r.1 : ℚ) ≠ x) }
    else r = (if neg then -2 ^ (w - 1) else 2 ^ (w - 1) - 1, FpFlags.invalid) := by
  intro x r
  have hr := roundMagnitude_rounded 1#2 neg mant exp 0
  have hx := roundMagnitude_changed 1#2 neg mant exp 0
  rw [← truncMagnitude_eq, sub_zero] at hr
  rw [← truncMagnitude_eq, ← signedInt_cast] at hx
  have hrange := truncated_out_of_range_iff hr (Nat.two_pow_pos (w - 1))
  push_cast at hrange
  by_cases h : -(2 ^ (w - 1) : ℚ) - 1 < x ∧ x < 2 ^ (w - 1)
  · obtain ⟨hle, hnear, hsign⟩ := truncated_near hr
    have he : r = _ := (fpToInt_finite w neg mant exp).trans (if_neg fun hout => hrange.1 hout h)
    rw [if_pos h, he, hx]
    exact ⟨hle, hnear, hsign, rfl⟩
  · rw [if_neg h]
    exact (fpToInt_finite w neg mant exp).trans (if_pos (hrange.2 h))

theorem fpToInt_of_not_number {f : FpFormat} (w : Nat) {n : Nat} (h : isNumber f n = false) :
    fpToInt w (unpack f n) = (if negative f n then -2 ^ (w - 1) else 2 ^ (w - 1) - 1, FpFlags.invalid) := by
  obtain hn | hi | hc := class_cases f n
  · rw [unpack_of_nan hn]; rfl
  · rw [unpack_of_infinity hi]; rfl
  · simp [h] at hc

theorem numberValue_eq_zero_iff (f : FpFormat) (n : Nat) : numberValue f n = 0 ↔ significand f n = 0 :=
  signedValue_eq_zero_iff

/-- Settles O48: `roundTo` by `roundTo_roundsTo`, a magnitude by `roundMagnitude_rounded`, the conversions to integers by `fpToInt_finite_spec`. -/
theorem rounding : Obligations.Rounding := by
  refine ⟨fun f mode ufm neg mant exp hm => roundTo_roundsTo mode ufm neg hm, fun s => rfl,
    fun mode neg mant exp q => ?magnitude, fun w neg mant exp _ => fpToInt_finite_spec w neg mant exp,
    fun f w n _ _ => ⟨fpToInt_of_not_number w, fun hn hz => ?zero⟩⟩
  case magnitude =>
    have h := roundMagnitude_rounded mode neg mant exp q
    exact ⟨roundMagnitude_exact_iff mode neg mant exp q, h.close, h.nearest, h.truncated, h.upward, h.downward⟩
  case zero => rw [unpack_of_zero hn ((numberValue_eq_zero_iff f n).1 hz)]; rfl

end Sys2Proof.Machine

/-! SUPPORT. `pack` undoes `unpack`; the NaN rule, conversions and compares on bit patterns (45_floating_point.md R1151, R1156, R1189, R1199, R1200, R1219, R1275). -/

namespace Sys2Proof.Machine

open Sys2Proof.Claims

/-! ### Numbers a format holds -/

/-- Rounding to a unit of which the number is a multiple changes nothing. -/
theorem rounded_eq_of_multiple {mode : BitVec 2} {q : Int} {x r : ℚ} {k : Int} (h : Rounded mode q x r)
    (hx : x = k * (2 : ℚ) ^ q) : r = x := by
  obtain ⟨n, rfl, hclose, -⟩ := h
  rw [hx, ← sub_mul, abs_mul, abs_of_pos (a := (2 : ℚ) ^ q) (by positivity)] at hclose
  have hlt : |((n - k : Int) : ℚ)| < 1 := by
    rw [Int.cast_sub]
    exact lt_of_mul_lt_mul_right (hclose.trans_eq (one_mul _).symm) (by positivity)
  have : |n - k| < 1 := by exact_mod_cast hlt
  rw [hx, show n = k by rw [abs_lt] at this; omega]

section
variable {f : FpFormat} {mant : Nat} {exp : Int}

/-- A number with no more bits than the format keeps, none below its least one, is held as it is. -/
theorem roundTo_exact (mode : BitVec 2) (ufm neg : Bool) (hm : 0 < mant) (hlog : Nat.log2 mant ≤ fracWidth f)
    (hlow : f.quantum ≤ exp) (hhigh : exp + Nat.log2 mant ≤ fpBias f) :
    Encodes f (roundTo f mode ufm neg mant exp).1 (signedValue neg mant exp) (signedValue neg mant exp) := by
  obtain htiny | hnormal := lt_or_ge (exp + Nat.log2 mant) f.emin
  case inl =>
    obtain ⟨r, hr, he, -⟩ := roundTo_of_tiny_rounds mode ufm neg hm htiny
    have hx : signedValue neg mant exp
        = (signedInt neg (mant * 2 ^ (exp - f.quantum).toNat) : Int) * (2 : ℚ) ^ (1 - fpBias f - fracWidth f : Int) := by
      rw [← quantum_eq, signedValue_rescale neg mant exp f.quantum, scaled_of_le hlow, signedInt_cast, signedValue,
        zpow_zero, mul_one]
    rwa [rounded_eq_of_multiple hr hx] at he
  case inr =>
    have hq : exp + Nat.log2 mant - fracWidth f ≤ exp := by omega
    obtain ⟨hu1, hu2⟩ := leading_units f exp hm
    rw [scaled_of_le hq, Nat.cast_le] at hu1
    rw [scaled_of_le hq, Nat.cast_lt] at hu2
    have hl := log2_significand hu1 hu2.le
    have he := (roundTo_of_normal_rounds mode ufm neg hm hnormal (roundMagnitude_of_le hq) hu1 hu2.le (by dsimp only; omega)).1
    rwa [show signedValue neg (mant * 2 ^ (exp - (exp + Nat.log2 mant - fracWidth f)).toNat)
      (exp + Nat.log2 mant - fracWidth f) = signedValue neg mant exp by
        rw [signedValue_rescale neg mant exp (exp + Nat.log2 mant - fracWidth f), scaled_of_le hq, signedValue]] at he

end

theorem pack_finite (f : FpFormat) (neg : Bool) (mant : Nat) (exp : Int) :
    pack f (.finite neg mant exp) = (roundTo f 0 false neg mant exp).1 := rfl

theorem roundMagnitude_self (mode : BitVec 2) (neg : Bool) (mant : Nat) (exp : Int) :
    roundMagnitude mode neg mant exp exp = (mant, false) := by
  rw [roundMagnitude_of_le le_rfl, sub_self, Int.toNat_zero, pow_zero, mul_one]

section
variable {f : FpFormat} {n : Nat}

/-! ### Every bit pattern is that of its value (45_floating_point.md R1151) -/

theorem pack_subnormal (hn : n < 2 ^ fpWidth f) (h0 : expField f n = 0) (hz : significand f n ≠ 0) :
    pack f (.finite (negative f n) (significand f n) (lastExponent f n)) = n := by
  have hs : significand f n = magnitude f n := by rw [significand, magnitude, h0, if_pos rfl, zero_mul]
  have hq : lastExponent f n = f.quantum := by rw [lastExponent, quantum_eq, h0]; omega
  have hlog : Nat.log2 (significand f n) < fracWidth f :=
    (Nat.log2_lt hz).2 (by rw [significand, h0, if_pos rfl, zero_add]; exact fracField_lt f n)
  rw [pack_finite, hq, roundTo_of_tiny (by rw [FpFormat.quantum, fracBits_eq]; omega), roundMagnitude_self]
  show signed f (negative f n) (significand f n) = n
  rw [hs, signed_magnitude hn]

theorem pack_normal (hn : n < 2 ^ fpWidth f) (h : isNumber f n = true) (h0 : expField f n ≠ 0) :
    pack f (.finite (negative f n) (significand f n) (lastExponent f n)) = n := by
  have hlt := significand_lt f n
  have hle := lastExponent_le h
  have he := emin_eq f
  have hs : significand f n = 2 ^ fracWidth f + fracField f n := by rw [significand, if_neg h0]
  have hx : lastExponent f n = expField f n - fpBias f - fracWidth f := by rw [lastExponent]; omega
  rw [pow_succ'] at hlt
  have hlog : Nat.log2 (significand f n) = fracWidth f := by
    obtain ⟨-, h⟩ | ⟨h, -⟩ := log2_significand (f := f) (m := significand f n) (by omega) (by omega)
    · exact h
    · omega
  have hr : roundMagnitude 0 (negative f n) (significand f n) (lastExponent f n)
      (lastExponent f n + Nat.log2 (significand f n) - fracWidth f) = (significand f n, false) := by
    rw [hlog, add_sub_cancel_right, roundMagnitude_self]
  rw [pack_finite, roundTo_of_normal (by omega) hr (by rw [hlog]; omega)]
  show signed f (negative f n) _ = n
  rw [hlog, show (lastExponent f n + fracWidth f - f.emin).toNat = expField f n - 1 by omega, hs, ← Nat.add_assoc,
    ← Nat.succ_mul, show (expField f n - 1).succ = expField f n by omega]
  exact signed_magnitude hn

/-- The quiet bit over the payload. -/
theorem fracField_eq (f : FpFormat) (n : Nat) : fracField f n
    = (if n.testBit (fracWidth f - 1) then 2 ^ (fracWidth f - 1) else 0) + fracField f n % 2 ^ (fracWidth f - 1) := by
  have hF : fracWidth f - 1 + 1 = fracWidth f := by cases f <;> rfl
  have hlt := fracField_lt f n
  rw [← hF, pow_succ'] at hlt
  have hd := Nat.div_add_mod (fracField f n) (2 ^ (fracWidth f - 1))
  have hb := quietBit_eq f n
  obtain h | h := Nat.le_one_iff_eq_zero_or_eq_one.1
    (Nat.lt_succ_iff.1 (Nat.div_lt_of_lt_mul (by rwa [mul_comm]) : fracField f n / 2 ^ (fracWidth f - 1) < 2))
  all_goals
    rw [h] at hb hd
    rw [← hb]
    simpa using hd.symm

theorem magnitude_of_not_number (h : isNumber f n = false) : magnitude f n = infinityBits f + fracField f n := by
  have he : expField f n = 2 ^ expWidth f - 1 := by simpa [isNumber] using h
  rw [magnitude, he, infinityBits_eq]

theorem pack_nan (hn : n < 2 ^ fpWidth f) (h : isNaN f n = true) : pack f (unpack f n) = n := by
  have hf : isNumber f n = false := by simpa using (Bool.and_eq_true_iff.1 h).1
  rw [unpack_of_nan h, pack, fracBits_eq, Nat.add_assoc, ← fracField_eq, ← magnitude_of_not_number hf, signed_magnitude hn]

theorem pack_unpack (hn : n < 2 ^ fpWidth f) : pack f (unpack f n) = n := by
  obtain h | h | h := class_cases f n
  case inl => exact pack_nan hn h
  case inr.inl =>
    have hz : fracField f n = 0 := by simpa using (Bool.and_eq_true_iff.1 h).2
    rw [unpack_of_infinity h, pack, ← Nat.add_zero (infinityBits f), ← hz,
      ← magnitude_of_not_number (isNumber_eq_false_of_infinity h), signed_magnitude hn]
  case inr.inr =>
    by_cases hz : significand f n = 0
    · have hm : magnitude f n = 0 := by
        have hP := Nat.two_pow_pos (fracWidth f)
        rw [significand] at hz
        by_cases h0 : expField f n = 0
        · rw [magnitude, h0, zero_mul, zero_add]; omega
        · rw [if_neg h0] at hz; omega
      rw [unpack_of_zero h hz, pack, ← hm, signed_magnitude hn]
    · rw [unpack_of_nonzero h hz]
      by_cases h0 : expField f n = 0
      · exact pack_subnormal hn h0 hz
      · exact pack_normal hn h h0

/-! ### NaNs (45_floating_point.md R1156) -/

theorem quietOf_eq (hn : n < 2 ^ fpWidth f) (h : isNaN f n = true) : quietOf f n = pack f (unpack f n).quieted := by
  have hp := pack_nan hn h
  rw [unpack_of_nan h] at hp ⊢
  rw [pack, fracBits_eq, signed_eq] at hp
  rw [quietOf, FpVal.quieted, pack, fracBits_eq, signed_eq]
  cases hb : n.testBit (fracWidth f - 1)
  · rw [hb] at hp
    rw [if_neg Bool.false_ne_true] at hp ⊢
    rw [if_pos rfl]
    omega
  · rw [hb] at hp
    exact hp.symm

theorem quieted_of_quiet {v : FpVal} (h : v.isSNan = false) : v.quieted = v := by
  cases v with
  | nan neg quiet payload =>
    obtain rfl : quiet = true := by simpa [FpVal.isSNan] using h
    rfl
  | inf | zero | finite => rfl

theorem isNan_of_isSNan {v : FpVal} (h : v.isSNan = true) : v.isNan = true := by
  cases v with
  | nan => rfl
  | inf | zero | finite => cases h

/-- The NaN chosen is one of the operands, quiet; invalid is detected where either signals. -/
theorem chooseNan_eq_some {a b : FpVal} {w : FpVal × FpFlags} (h : chooseNan a b = some w) :
    ∃ v, (v = a ∨ v = b) ∧ v.isNan = true
      ∧ w = (v.quieted, if a.isSNan || b.isSNan then .invalid else .none) := by
  unfold chooseNan at h
  split at h
  case isTrue hb =>
    exact ⟨b, .inr rfl, isNan_of_isSNan hb, by rw [hb, Bool.or_true, if_pos rfl]; exact (Option.some.inj h).symm⟩
  case isFalse hb =>
  rw [Bool.not_eq_true] at hb
  split at h
  case isTrue ha =>
    exact ⟨a, .inl rfl, isNan_of_isSNan ha, by rw [ha, Bool.true_or, if_pos rfl]; exact (Option.some.inj h).symm⟩
  case isFalse ha =>
  rw [Bool.not_eq_true] at ha
  rw [ha, hb]
  split at h
  case isTrue hn => exact ⟨b, .inr rfl, hn, by rw [quieted_of_quiet hb]; exact (Option.some.inj h).symm⟩
  case isFalse =>
  split at h
  case isTrue hn => exact ⟨a, .inl rfl, hn, by rw [quieted_of_quiet ha]; exact (Option.some.inj h).symm⟩
  case isFalse => cases h

theorem chooseNan_eq_none_iff {a b : FpVal} : chooseNan a b = none ↔ a.isNan = false ∧ b.isNan = false := by
  rw [chooseNan]
  cases hb : b.isSNan
  case true => simp [isNan_of_isSNan hb]
  cases ha : a.isSNan
  case true => simp [isNan_of_isSNan ha]
  cases a.isNan <;> cases b.isNan <;> simp

theorem isNaN_of_isSignalling (h : isSignalling f n = true) : isNaN f n = true := (Bool.and_eq_true_iff.1 h).1

/-- The rule for bit patterns is the rule for their values. -/
theorem nanRule_eq {m : Nat} (hn : n < 2 ^ fpWidth f) (hm : m < 2 ^ fpWidth f) :
    nanRule f n m = (chooseNan (unpack f n) (unpack f m)).map fun v => (pack f v.1, v.2) := by
  rw [nanRule, chooseNan, isSNan_unpack, isSNan_unpack, isNan_unpack, isNan_unpack]
  cases hsm : isSignalling f m
  case true => simp [quietOf_eq hm (isNaN_of_isSignalling hsm)]
  cases hsn : isSignalling f n
  case true => simp [quietOf_eq hn (isNaN_of_isSignalling hsn)]
  cases isNaN f m
  case true => simp [pack_unpack hm]
  cases isNaN f n
  case true => simp [pack_unpack hn]
  case false => rfl

end

/-! ### What an operation delivers (45_floating_point.md R1179) -/

theorem FpFlags.none_or (e : FpFlags) : FpFlags.none.or e = e := by
  simp [FpFlags.or, FpFlags.none]

theorem deliver_cell (f : FpFormat) (s : State) (v : FpVal) (e : FpFlags) : deliver f s (.cell v, e) = (pack f v, e) := rfl

theorem deliver_exact (f : FpFormat) (s : State) (neg : Bool) (mant : Nat) (exp : Int) :
    deliver f s (.exact neg mant exp, .none) = roundTo f (roundingMode s) (underflowMask s) neg mant exp := by
  simp only [deliver, FpFlags.none_or]

theorem delivers_of_exact {f : FpFormat} {s : State} {neg : Bool} {mant : Nat} {exp : Int} {x : ℚ} (hm : 0 < mant)
    (hx : signedValue neg mant exp = x) : Delivers f s x (deliver f s (.exact neg mant exp, .none)) :=
  ⟨neg, mant, exp, hm, hx, deliver_exact f s neg mant exp⟩

/-- The sign and the magnitude of an integer. -/
theorem signedValue_natAbs (t e : Int) : signedValue (decide (t < 0)) t.natAbs e = t * (2 : ℚ) ^ e := by
  have habs : ((t.natAbs : Nat) : ℚ) = |(t : ℚ)| := by rw [← Int.cast_natCast, Int.natCast_natAbs, Int.cast_abs]
  obtain h | h := lt_or_ge t 0
  · rw [decide_eq_true h, signedValue_true, habs, abs_of_neg (Int.cast_lt_zero.2 h), neg_mul, neg_neg]
  · rw [decide_eq_false (not_lt.2 h), signedValue_false, habs, abs_of_nonneg (Int.cast_nonneg h)]

theorem zero_signed (f : FpFormat) (neg : Bool) : zeroOf f neg < 2 ^ fpWidth f ∧ isNumber f (zeroOf f neg) = true
    ∧ negative f (zeroOf f neg) = neg ∧ numberValue f (zeroOf f neg) = 0 := by
  have h0 : 0 < infinityBits f := (Nat.two_pow_pos _).trans (infinityBits_gt f)
  have hv := numberValue_signed f neg (k := 0) (m := 0) (Nat.zero_le _) (.inl rfl) (by simpa using h0)
  rw [zero_mul, signedValue_zero] at hv
  rw [zeroOf_eq]
  exact ⟨signed_lt (h0.trans infinityBits_lt), by rw [isNumber_signed, isNumber_of_lt h0],
    negative_signed (h0.trans infinityBits_lt), hv⟩

theorem pack_zero (f : FpFormat) (neg : Bool) : pack f (.zero neg) = zeroOf f neg := (zeroOf_eq f neg).symm

theorem pack_inf (f : FpFormat) (neg : Bool) : pack f (.inf neg) = infinityOf f neg := (infinityOf_eq f neg).symm

theorem pack_defaultNan (f : FpFormat) : pack f (defaultNan f) = defaultNanOf f := by cases f <;> decide

/-! ### NaNs widened and narrowed (45_floating_point.md R1199) -/

/-- The fields of a NaN's bit pattern. -/
theorem fields_pack_nan (f : FpFormat) (neg quiet : Bool) {p : Nat} (hp : p < 2 ^ (fracWidth f - 1)) :
    negative f (pack f (.nan neg quiet p)) = neg
      ∧ fracField f (pack f (.nan neg quiet p)) = (if quiet then 2 ^ (fracWidth f - 1) else 0) + p := by
  have hF : fracWidth f - 1 + 1 = fracWidth f := by cases f <;> rfl
  have hy : (if quiet then 2 ^ (fracWidth f - 1) else 0) + p < 2 ^ fracWidth f := by
    rw [← hF, pow_succ', Nat.add_sub_cancel]
    split <;> omega
  have hlt : infinityBits f + ((if quiet then 2 ^ (fracWidth f - 1) else 0) + p) < 2 ^ expWidth f * 2 ^ fracWidth f := by
    have := Nat.sub_one_mul (2 ^ expWidth f) (2 ^ fracWidth f)
    have := Nat.le_mul_of_pos_left (2 ^ fracWidth f) (Nat.two_pow_pos (expWidth f))
    rw [infinityBits_eq]
    omega
  rw [pack, fracBits_eq, Nat.add_assoc]
  refine ⟨negative_signed hlt, ?_⟩
  rw [fracField_signed, fracField, infinityBits_eq, Nat.mul_comm, Nat.mul_add_mod, Nat.mod_eq_of_lt hy]

theorem widenNan_pack (neg quiet : Bool) {p : Nat} (hp : p < 2 ^ 22) :
    widenNan (pack .single (.nan neg quiet p)) = pack .double (FpVal.nan neg quiet p).widened := by
  obtain ⟨hneg, hfrac⟩ := fields_pack_nan .single neg quiet hp
  rw [widenNan, hneg, hfrac, FpVal.widened, pack, signed_eq]
  cases neg <;> cases quiet <;> simp [infinityBits, fracWidth, expWidth, FpFormat.fracBits, FpFormat.expBits] <;> omega

theorem narrowNan_pack (neg quiet : Bool) {p : Nat} (hp : p < 2 ^ 51) :
    narrowNan (pack .double (.nan neg quiet p)) = pack .single (FpVal.nan neg quiet p).narrowed := by
  obtain ⟨hneg, hfrac⟩ := fields_pack_nan .double neg quiet hp
  rw [narrowNan, hneg, hfrac, FpVal.narrowed, pack, signed_eq]
  cases neg <;> cases quiet <;> simp [infinityBits, fracWidth, expWidth, FpFormat.fracBits, FpFormat.expBits] <;> omega

section
variable {f : FpFormat} {n m : Nat}

/-- A NaN, quiet, as `unpack` gives it. -/
theorem quieted_unpack_of_nan (h : isNaN f n = true) :
    (unpack f n).quieted = .nan (negative f n) true (fracField f n % 2 ^ (fracWidth f - 1)) := by
  rw [unpack_of_nan h]; rfl

theorem payload_lt (f : FpFormat) (n : Nat) : fracField f n % 2 ^ (fracWidth f - 1) < 2 ^ (fracWidth f - 1) :=
  Nat.mod_lt _ (Nat.two_pow_pos _)

theorem widenNan_quieted (h : isNaN .single n = true) :
    widenNan (pack .single (unpack .single n).quieted) = pack .double (unpack .single n).quieted.widened := by
  rw [quieted_unpack_of_nan h]
  exact widenNan_pack _ _ (payload_lt .single n)

theorem narrowNan_quieted (h : isNaN .double n = true) :
    narrowNan (pack .double (unpack .double n).quieted) = pack .single (unpack .double n).quieted.narrowed := by
  rw [quieted_unpack_of_nan h]
  exact narrowNan_pack _ _ (payload_lt .double n)

/-! ### Between formats (45_floating_point.md R1199) -/

theorem singleToDouble_of_nan (hn : n < 2 ^ 32) (h : isNaN .single n = true) :
    singleToDouble (unpack .single n) = (widenNan (quietOf .single n), nanFlags .single n) := by
  rw [quietOf_eq (f := .single) hn h, widenNan_quieted h, singleToDouble, isSNan_unpack]
  rfl

theorem doubleToSingle_of_nan (s : State) (hn : n < 2 ^ 64) (h : isNaN .double n = true) :
    doubleToSingle s (unpack .double n) = (narrowNan (quietOf .double n), nanFlags .double n) := by
  rw [quietOf_eq (f := .double) hn h, narrowNan_quieted h, nanFlags, ← isSNan_unpack, unpack_of_nan h]
  rfl

theorem log2_significand_le (hz : significand f n ≠ 0) : Nat.log2 (significand f n) ≤ fracWidth f :=
  Nat.lt_succ_iff.1 ((Nat.log2_lt hz).2 (significand_lt f n))

theorem lastExponent_bounds (h : isNumber .single n = true) :
    -149 ≤ lastExponent .single n ∧ lastExponent .single n ≤ 104 :=
  ⟨quantum_le_lastExponent .single n, lastExponent_le h⟩

/-- Every single-precision number is one of double precision. -/
theorem singleToDouble_of_number (h : isNumber .single n = true) :
    let r := singleToDouble (unpack .single n)
    r.1 < 2 ^ 64 ∧ isNumber .double r.1 = true ∧ negative .double r.1 = negative .single n
      ∧ numberValue .double r.1 = numberValue .single n ∧ r.2 = .none := by
  by_cases hz : significand .single n = 0
  · have hr : singleToDouble (unpack .single n) = (zeroOf .double (negative .single n), .none) := by
      rw [unpack_of_zero h hz, ← pack_zero]; rfl
    obtain ⟨hlt, hnum, hneg, hv⟩ := zero_signed .double (negative .single n)
    rw [hr]
    exact ⟨hlt, hnum, hneg, hv.trans ((numberValue_eq_zero_iff _ n).2 hz).symm, rfl⟩
  · have hr : singleToDouble (unpack .single n)
        = (pack .double (.finite (negative .single n) (significand .single n) (lastExponent .single n)), .none) := by
      rw [unpack_of_nonzero h hz]; rfl
    obtain ⟨h1, h2⟩ := lastExponent_bounds h
    have hlog : Nat.log2 (significand .single n) ≤ 23 := log2_significand_le hz
    have hpos := Nat.pos_of_ne_zero hz
    obtain ⟨hlt, hnum, hneg, hv⟩ := roundTo_exact (f := .double) 0 false (negative .single n) hpos
      (hlog.trans (by decide)) ((by decide : FpFormat.quantum .double ≤ -149).trans h1)
      (show _ ≤ (1023 : Int) by omega)
    rw [hr]
    exact ⟨hlt, hnum, hneg.trans (decide_signedValue_lt_zero hpos), hv, rfl⟩

theorem doubleToSingle_of_number (s : State) (h : isNumber .double n = true) :
    if numberValue .double n = 0 then doubleToSingle s (unpack .double n) = (zeroOf .single (negative .double n), .none)
    else Delivers .single s (numberValue .double n) (doubleToSingle s (unpack .double n)) := by
  simp only [numberValue_eq_zero_iff]
  split
  case isTrue hz => rw [unpack_of_zero h hz, ← pack_zero]; rfl
  case isFalse hz =>
    rw [unpack_of_nonzero h hz]
    exact delivers_of_exact (Nat.pos_of_ne_zero hz) rfl

/-! ### Products (45_floating_point.md R1189, R1272) -/

/-- A product with an infinity: a zero is invalid, else an infinity. -/
theorem mulExact_of_infinity (g : FpFormat) (hn : isNaN f n = false) (hm : isNaN f m = false)
    (h : isInfinity f n = true ∨ isInfinity f m = true) : mulExact g (unpack f n) (unpack f m)
      = if (isNumber f n = true ∧ numberValue f n = 0) ∨ (isNumber f m = true ∧ numberValue f m = 0)
        then (.cell (defaultNan g), .invalid) else (.cell (.inf (negative f n ^^ negative f m)), .none) := by
  simp only [numberValue_eq_zero_iff]
  obtain hcn | hcn | hcn := class_cases f n
  case inl => simp [hn] at hcn
  case inr.inl =>
    have hnn := isNumber_eq_false_of_infinity hcn
    obtain hcm | hcm | hcm := class_cases f m
    case inl => simp [hm] at hcm
    case inr.inl =>
      have hmm := isNumber_eq_false_of_infinity hcm
      rw [unpack_of_infinity hcn, unpack_of_infinity hcm, if_neg (by simp [hnn, hmm])]
      rfl
    case inr.inr =>
      by_cases hz : significand f m = 0
      · rw [unpack_of_infinity hcn, unpack_of_zero hcm hz, if_pos (.inr ⟨hcm, hz⟩)]; rfl
      · rw [unpack_of_infinity hcn, unpack_of_nonzero hcm hz, if_neg (by simp [hnn, hz])]; rfl
  case inr.inr =>
    have hcm : isInfinity f m = true := h.resolve_left (by simp [isInfinity_eq_false_of_number hcn])
    have hmm := isNumber_eq_false_of_infinity hcm
    by_cases hz : significand f n = 0
    · rw [unpack_of_infinity hcm, unpack_of_zero hcn hz, if_pos (.inl ⟨hcn, hz⟩)]; rfl
    · rw [unpack_of_infinity hcm, unpack_of_nonzero hcn hz, if_neg (by simp [hmm, hz])]; rfl

theorem mulExact_of_numbers (g : FpFormat) (hn : isNumber f n = true) (hm : isNumber f m = true) :
    mulExact g (unpack f n) (unpack f m)
      = (if significand f n * significand f m = 0 then .cell (.zero (negative f n ^^ negative f m))
        else .exact (negative f n ^^ negative f m) (significand f n * significand f m) (lastExponent f n + lastExponent f m),
        .none) := by
  by_cases hzn : significand f n = 0
  case pos =>
    rw [unpack_of_zero hn hzn, hzn, zero_mul, if_pos rfl]
    by_cases hzm : significand f m = 0
    · rw [unpack_of_zero hm hzm]; rfl
    · rw [unpack_of_nonzero hm hzm]; rfl
  case neg =>
    rw [unpack_of_nonzero hn hzn]
    by_cases hzm : significand f m = 0
    · rw [unpack_of_zero hm hzm, hzm, mul_zero, if_pos rfl]; rfl
    · rw [unpack_of_nonzero hm hzm, if_neg (Nat.mul_ne_zero hzn hzm)]; rfl

theorem signedValue_mul (neg neg' : Bool) (m m' : Nat) (e e' : Int) :
    signedValue (neg ^^ neg') (m * m') (e + e') = signedValue neg m e * signedValue neg' m' e' := by
  rw [signedValue, signedValue, signedValue, zpow_add₀ two_ne_zero]
  cases neg <;> cases neg' <;> simp <;> ring

/-- The value of a product of significands. -/
theorem numberValue_mul (f : FpFormat) (n m : Nat) : numberValue f n * numberValue f m
    = signedValue (negative f n ^^ negative f m) (significand f n * significand f m) (lastExponent f n + lastExponent f m) := by
  rw [signedValue_mul, numberValue_eq, numberValue_eq]

theorem singleProduct_of_none {a b : FpVal} (h : chooseNan a b = none) :
    singleProduct a b = (pack .double (mulExact .double a b).1.toVal, (mulExact .double a b).2) := by
  rw [singleProduct, h]

theorem singleProduct_of_some {v : FpVal × FpFlags}
    (h : chooseNan (unpack .single n) (unpack .single m) = some v) :
    singleProduct (unpack .single n) (unpack .single m) = (widenNan (pack .single v.1), v.2) := by
  have hr : singleProduct (unpack .single n) (unpack .single m) = (pack .double v.1.widened, v.2) := by
    rw [singleProduct, h]
  obtain ⟨w, rfl | rfl, hnan, rfl⟩ := chooseNan_eq_some h
  all_goals rw [hr, widenNan_quieted (by rw [← isNan_unpack, hnan])]

/-- A product of two single-precision numbers has at most 48 bits, and its exponent lies in double precision's range. -/
theorem singleProduct_of_numbers (hn : isNumber .single n = true) (hm : isNumber .single m = true) :
    let r := singleProduct (unpack .single n) (unpack .single m)
    r.1 < 2 ^ 64 ∧ isNumber .double r.1 = true ∧ negative .double r.1 = (negative .single n ^^ negative .single m)
      ∧ numberValue .double r.1 = numberValue .single n * numberValue .single m ∧ r.2 = .none := by
  have hnone : chooseNan (unpack .single n) (unpack .single m) = none :=
    chooseNan_eq_none_iff.2 ⟨by rw [isNan_unpack, isNaN_eq_false_of_number hn],
      by rw [isNan_unpack, isNaN_eq_false_of_number hm]⟩
  rw [numberValue_mul]
  by_cases hz : significand .single n * significand .single m = 0
  · have hr : singleProduct (unpack .single n) (unpack .single m)
        = (zeroOf .double (negative .single n ^^ negative .single m), .none) := by
      rw [singleProduct_of_none hnone, mulExact_of_numbers .double hn hm, if_pos hz, ← pack_zero]
      rfl
    obtain ⟨hlt, hnum, hneg, hv⟩ := zero_signed .double (negative .single n ^^ negative .single m)
    rw [hr]
    exact ⟨hlt, hnum, hneg, hv.trans (signedValue_eq_zero_iff.2 hz).symm, rfl⟩
  · have hr : singleProduct (unpack .single n) (unpack .single m)
        = ((roundTo .double 0 false (negative .single n ^^ negative .single m) (significand .single n * significand .single m)
          (lastExponent .single n + lastExponent .single m)).1, .none) := by
      rw [singleProduct_of_none hnone, mulExact_of_numbers .double hn hm, if_neg hz]
      rfl
    obtain ⟨hn1, hn2⟩ := lastExponent_bounds hn
    obtain ⟨hm1, hm2⟩ := lastExponent_bounds hm
    have hlog : Nat.log2 (significand .single n * significand .single m) < 48 :=
      (Nat.log2_lt hz).2 ((Nat.mul_lt_mul'' (significand_lt .single n) (significand_lt .single m)).trans_eq (by decide))
    have hq : FpFormat.quantum .double ≤ -298 := by decide
    have hpos := Nat.pos_of_ne_zero hz
    obtain ⟨hlt, hnum, hneg, hv⟩ := roundTo_exact (f := .double) 0 false (negative .single n ^^ negative .single m) hpos
      (show _ ≤ 52 by omega) (show _ ≤ lastExponent .single n + lastExponent .single m by omega)
      (show _ ≤ (1023 : Int) by omega)
    rw [hr]
    exact ⟨hlt, hnum, hneg.trans (decide_signedValue_lt_zero hpos), hv, rfl⟩

end

/-- An integer as an exact number (45_floating_point.md R1200, R1275). -/
theorem intToFp_delivers (f : FpFormat) (s : State) (i : Int) :
    if i = 0 then intToFp f s i = (0, .none) else Delivers f s i (intToFp f s i) := by
  split
  case isTrue h => rw [intToFp, if_pos h]; rfl
  case isFalse h =>
    rw [intToFp, if_neg h]
    exact delivers_of_exact (Int.natAbs_pos.2 h) (by rw [signedValue_natAbs, zpow_zero, mul_one])

/-! ### Compares (45_floating_point.md R1219) -/

/-- A number brought to a lower exponent is an integer times its power of two. -/
theorem scaled_finite {neg : Bool} {mant : Nat} {exp e : Int} (h : e ≤ exp) :
    ((FpVal.finite neg mant exp).scaled e : ℚ) * (2 : ℚ) ^ e = signedValue neg mant exp := by
  have hs : (FpVal.finite neg mant exp).scaled e = signedInt neg (mant * 2 ^ (exp - e).toNat) := rfl
  rw [hs, signedInt_cast, signedValue_rescale neg mant exp e, scaled_of_le h, signedValue, zpow_zero, mul_one]

section
variable {f : FpFormat} {n m : Nat}

theorem scaled_unpack (h : isNumber f n = true) {e : Int} (he : e ≤ (unpack f n).exponent) :
    ((unpack f n).scaled e : ℚ) * (2 : ℚ) ^ e = numberValue f n := by
  by_cases hz : significand f n = 0
  · rw [(numberValue_eq_zero_iff f n).2 hz, unpack_of_zero h hz]
    simp [FpVal.scaled]
  · rw [unpack_of_nonzero h hz] at he ⊢
    exact scaled_finite he

theorem unpack_number_cases (h : isNumber f n = true) :
    (∃ neg, unpack f n = .zero neg) ∨ ∃ neg mant exp, unpack f n = .finite neg mant exp := by
  by_cases hz : significand f n = 0
  · exact .inl ⟨_, unpack_of_zero h hz⟩
  · exact .inr ⟨_, _, _, unpack_of_nonzero h hz⟩

/-- Neither a NaN nor an infinity: the integers at the lesser exponent are compared. -/
theorem fpRelation_eq_scaled (hn : isNumber f n = true) (hm : isNumber f m = true) {e : Int}
    (he : e = min (unpack f n).exponent (unpack f m).exponent) : fpRelation (unpack f n) (unpack f m)
      = if (unpack f n).scaled e = (unpack f m).scaled e then 0
        else if (unpack f n).scaled e < (unpack f m).scaled e then 1 else 2 := by
  obtain ⟨_, hx⟩ | ⟨_, _, _, hx⟩ := unpack_number_cases hn
  all_goals obtain ⟨_, hy⟩ | ⟨_, _, _, hy⟩ := unpack_number_cases hm
  all_goals rw [he, hx, hy]; rfl

theorem fpRelation_of_numbers (hn : isNumber f n = true) (hm : isNumber f m = true) :
    fpRelation (unpack f n) (unpack f m)
      = if numberValue f n = numberValue f m then 0 else if numberValue f n < numberValue f m then 1 else 2 := by
  have hr := fpRelation_eq_scaled hn hm rfl
  have hsn := scaled_unpack hn (min_le_left _ (unpack f m).exponent)
  have hsm := scaled_unpack hm (min_le_right (unpack f n).exponent _)
  have hP : (0 : ℚ) < (2 : ℚ) ^ min (unpack f n).exponent (unpack f m).exponent := by positivity
  generalize min (unpack f n).exponent (unpack f m).exponent = e at *
  have heq : (unpack f n).scaled e = (unpack f m).scaled e ↔ numberValue f n = numberValue f m := by
    rw [← hsn, ← hsm, mul_left_inj' hP.ne', Int.cast_inj]
  have hlt : (unpack f n).scaled e < (unpack f m).scaled e ↔ numberValue f n < numberValue f m := by
    rw [← hsn, ← hsm, mul_lt_mul_iff_left₀ hP, Int.cast_lt]
  simp only [hr, heq, hlt]

theorem compareFlags_eq (signalling : Bool) (n m : Nat) : compareFlags signalling (unpack f n) (unpack f m)
    = if isSignalling f n || isSignalling f m || (signalling && (isNaN f n || isNaN f m)) then .invalid else .none := by
  rw [compareFlags, isSNan_unpack, isSNan_unpack, isNan_unpack, isNan_unpack]

theorem fpRelation_of_nan (h : isNaN f n = true ∨ isNaN f m = true) : fpRelation (unpack f n) (unpack f m) = 3 := by
  unfold fpRelation
  rw [isNan_unpack, isNan_unpack, if_pos (by simpa using h)]

theorem fpRelation_of_infinities (hn : isInfinity f n = true) (hm : isInfinity f m = true) :
    fpRelation (unpack f n) (unpack f m) = if negative f n = negative f m then 0 else if negative f n then 1 else 2 := by
  rw [unpack_of_infinity hn, unpack_of_infinity hm]
  rfl

theorem fpRelation_of_infinity_number (hn : isInfinity f n = true) (hm : isNumber f m = true) :
    fpRelation (unpack f n) (unpack f m) = if negative f n then 1 else 2 := by
  rw [unpack_of_infinity hn, unpack_eq, if_pos hm]
  split <;> rfl

theorem fpRelation_of_number_infinity (hn : isNumber f n = true) (hm : isInfinity f m = true) :
    fpRelation (unpack f n) (unpack f m) = if negative f m then 2 else 1 := by
  rw [unpack_of_infinity hm, unpack_eq, if_pos hn]
  split <;> rfl

/-- A number is the number of its fields. -/
theorem unpack_of_number (h : isNumber f n = true) :
    if numberValue f n = 0 then unpack f n = .zero (negative f n)
    else ∃ mant exp, unpack f n = .finite (negative f n) mant exp ∧ 0 < mant
      ∧ signedValue (negative f n) mant exp = numberValue f n := by
  simp only [numberValue_eq_zero_iff]
  split
  case isTrue hz => exact unpack_of_zero h hz
  case isFalse hz => exact ⟨_, _, unpack_of_nonzero h hz, Nat.pos_of_ne_zero hz, rfl⟩

end

/-- Settles O49: bit patterns by `pack_unpack` and `unpack_of_number`, the conversions and products class by class, the compares by `scaled_unpack`. -/
theorem unpackPack : Obligations.UnpackPack := by
  refine ⟨fun n hn => pack_unpack (f := .single) hn, fun n hn => pack_unpack (f := .double) hn,
    fun f n _ hn => unpack_of_number hn,
    fun n hn => ⟨singleToDouble_of_nan hn, fun hi => ?wideInfinity, singleToDouble_of_number⟩,
    fun s n hn => ⟨doubleToSingle_of_nan s hn, fun hi => ?narrowInfinity, doubleToSingle_of_number s⟩,
    fun n m hn hm => ⟨fun v hv => ?productNan, fun hnone hi => ?productInfinity, singleProduct_of_numbers⟩,
    intToFp_delivers,
    fun f n m _ _ => ⟨fun signalling => compareFlags_eq signalling n m, fpRelation_of_nan, fpRelation_of_numbers,
      fpRelation_of_infinities, fpRelation_of_infinity_number, fpRelation_of_number_infinity⟩⟩
  case wideInfinity => rw [unpack_of_infinity hi, ← pack_inf]; rfl
  case narrowInfinity => rw [unpack_of_infinity hi, ← pack_inf]; rfl
  case productNan =>
    rw [nanRule_eq (f := .single) hn hm, Option.map_eq_some_iff] at hv
    obtain ⟨w, hw, rfl⟩ := hv
    exact singleProduct_of_some hw
  case productInfinity =>
    rw [nanRule_eq (f := .single) hn hm, Option.map_eq_none_iff] at hnone
    obtain ⟨hnn, hmm⟩ := chooseNan_eq_none_iff.1 hnone
    rw [isNan_unpack] at hnn hmm
    rw [singleProduct_of_none hnone, mulExact_of_infinity .double hnn hmm hi]
    split
    · rw [← pack_defaultNan]; rfl
    · rw [← pack_inf]; rfl

end Sys2Proof.Machine

/-! SUPPORT. Exact arithmetic on every class of operands: sums, products, quotients, roots and fused multiply-adds (45_floating_point.md R1156, R1179, R1194, R1260, R1270 to R1274). -/

namespace Sys2Proof.Machine

open Sys2Proof.Claims

/-! ### The value with its sign complemented (45_floating_point.md R1260, R1271) -/

theorem xor_two_pow_of_lt {k m : Nat} (h : m < 2 ^ k) : m ^^^ 2 ^ k = m + 2 ^ k := by
  have hd : (m ^^^ 2 ^ k) / 2 ^ k = 1 := by
    rw [Nat.xor_div_two_pow, Nat.div_eq_of_lt h, Nat.div_self (Nat.two_pow_pos k)]; rfl
  have hr : (m ^^^ 2 ^ k) % 2 ^ k = m := by
    rw [Nat.xor_mod_two_pow, Nat.mod_eq_of_lt h, Nat.mod_self, Nat.xor_zero]
  have := Nat.div_add_mod (m ^^^ 2 ^ k) (2 ^ k)
  rw [hd, hr] at this
  omega

section
variable {f : FpFormat} {n : Nat}

theorem flipSign_signed {neg : Bool} {m : Nat} (h : m < 2 ^ expWidth f * 2 ^ fracWidth f) :
    flipSign f (signed f neg m) = signed f (!neg) m := by
  rw [← pow_add] at h
  have hx := xor_two_pow_of_lt h
  rw [flipSign, signed_eq, signed_eq, Nat.mul_assoc, Nat.mul_assoc, ← pow_add]
  cases neg
  · simp [hx]
  · simp [← hx]

theorem flipSign_eq (hn : n < 2 ^ fpWidth f) : flipSign f n = signed f (!negative f n) (magnitude f n) := by
  rw [← flipSign_signed (magnitude_lt f n), signed_magnitude hn]

/-- Only the sign bit changes. -/
theorem fields_flipSign (hn : n < 2 ^ fpWidth f) : flipSign f n < 2 ^ fpWidth f ∧ negative f (flipSign f n) = !negative f n
    ∧ expField f (flipSign f n) = expField f n ∧ fracField f (flipSign f n) = fracField f n := by
  rw [flipSign_eq hn]
  refine ⟨signed_lt (magnitude_lt f n), negative_signed (magnitude_lt f n), ?exponent, ?fraction⟩
  case exponent =>
    conv_rhs => rw [← signed_magnitude hn]
    rw [expField_signed, expField_signed]
  case fraction =>
    conv_rhs => rw [← signed_magnitude hn]
    rw [fracField_signed, fracField_signed]

theorem isNumber_flipSign (hn : n < 2 ^ fpWidth f) : isNumber f (flipSign f n) = isNumber f n := by
  obtain ⟨-, -, he, -⟩ := fields_flipSign hn
  rw [isNumber, he, isNumber]

theorem isInfinity_flipSign (hn : n < 2 ^ fpWidth f) : isInfinity f (flipSign f n) = isInfinity f n := by
  obtain ⟨-, -, -, hf⟩ := fields_flipSign hn
  rw [isInfinity, isNumber_flipSign hn, hf, isInfinity]

theorem isNaN_flipSign (hn : n < 2 ^ fpWidth f) : isNaN f (flipSign f n) = isNaN f n := by
  obtain ⟨-, -, -, hf⟩ := fields_flipSign hn
  rw [isNaN, isNumber_flipSign hn, hf, isNaN]

theorem numberValue_flipSign (hn : n < 2 ^ fpWidth f) : numberValue f (flipSign f n) = -numberValue f n := by
  obtain ⟨-, hs, he, hf⟩ := fields_flipSign hn
  rw [numberValue, hs, he, hf, signedValue_not, numberValue]

theorem unpack_flipSign (hn : n < 2 ^ fpWidth f) (h : isNaN f n = false) :
    unpack f (flipSign f n) = (unpack f n).negated := by
  obtain ⟨-, hs, he, hf⟩ := fields_flipSign hn
  obtain hc | hc | hc := class_cases f n
  case inl => simp [h] at hc
  case inr.inl =>
    rw [unpack_of_infinity hc, unpack_of_infinity (by rw [isInfinity_flipSign hn, hc]), hs]
    rfl
  case inr.inr =>
    rw [unpack_eq, unpack_eq, isNumber_flipSign hn, if_pos hc, if_pos hc, significand, lastExponent, hs, he, hf,
      ← significand, ← lastExponent]
    split <;> rfl

end

/-! ### Numbers as rational numbers -/

/-- `v` is the number `x`, a zero with the sign `neg`. -/
def Denotes (v : FpVal) (neg : Bool) (x : ℚ) : Prop :=
  (x = 0 ∧ v = .zero neg) ∨ ∃ mant exp, 0 < mant ∧ v = .finite neg mant exp ∧ signedValue neg mant exp = x

theorem signedValue_ne_zero {neg : Bool} {mant : Nat} {exp : Int} {x : ℚ} (hm : 0 < mant) (hx : signedValue neg mant exp = x) :
    x ≠ 0 := by
  rw [← hx, Ne, signedValue_eq_zero_iff]
  exact hm.ne'

theorem Denotes.isNan {v : FpVal} {neg : Bool} {x : ℚ} (h : Denotes v neg x) : v.isNan = false := by
  obtain ⟨-, rfl⟩ | ⟨_, _, -, rfl, -⟩ := h
  all_goals rfl

section
variable {f : FpFormat} {n m : Nat}

theorem denotes_unpack (h : isNumber f n = true) : Denotes (unpack f n) (negative f n) (numberValue f n) := by
  by_cases hz : significand f n = 0
  · exact .inl ⟨(numberValue_eq_zero_iff f n).2 hz, unpack_of_zero h hz⟩
  · exact .inr ⟨_, _, Nat.pos_of_ne_zero hz, unpack_of_nonzero h hz, rfl⟩

theorem denotes_product (g : FpFormat) (hn : isNumber f n = true) (hm : isNumber f m = true) :
    Denotes (mulExact g (unpack f n) (unpack f m)).1.toVal (negative f n ^^ negative f m)
      (numberValue f n * numberValue f m) := by
  rw [mulExact_of_numbers g hn hm, numberValue_mul]
  by_cases hz : significand f n * significand f m = 0
  · rw [if_pos hz]
    exact .inl ⟨signedValue_eq_zero_iff.2 hz, rfl⟩
  · rw [if_neg hz]
    exact .inr ⟨_, _, Nat.pos_of_ne_zero hz, rfl, rfl⟩

end

/-! ### Sums (45_floating_point.md R1270) -/

/-- `r` is the exact number `x`, not yet rounded. -/
def Exact (r : FpResult) (x : ℚ) : Prop :=
  ∃ neg mant exp, 0 < mant ∧ signedValue neg mant exp = x ∧ r = .exact neg mant exp

theorem delivers_of_exact_result {f : FpFormat} {s : State} {r : FpResult} {x : ℚ} (h : Exact r x) :
    Delivers f s x (deliver f s (r, .none)) := by
  obtain ⟨neg, mant, exp, hm, hx, rfl⟩ := h
  exact delivers_of_exact hm hx

/-- The sum of two nonzero numbers is exact, and where it is zero its sign is the direction's. -/
theorem sumFinite_spec (mode : BitVec 2) (na nb : Bool) (ma mb : Nat) (ea eb : Int) :
    let x := signedValue na ma ea
    let y := signedValue nb mb eb
    let r := sumFinite mode (.finite na ma ea) (.finite nb mb eb) ea eb
    if x + y = 0 then r = .cell (.zero (zeroSumNegative mode)) else Exact r (x + y) := by
  intro x y r
  have hx := scaled_finite (neg := na) (mant := ma) (min_le_left ea eb)
  have hy := scaled_finite (neg := nb) (mant := mb) (min_le_right ea eb)
  have hP : (2 : ℚ) ^ min ea eb ≠ 0 := by positivity
  have hr : r = if (FpVal.finite na ma ea).scaled (min ea eb) + (FpVal.finite nb mb eb).scaled (min ea eb) = 0
      then .cell (.zero (zeroSumNegative mode))
      else .exact (decide ((FpVal.finite na ma ea).scaled (min ea eb) + (FpVal.finite nb mb eb).scaled (min ea eb) < 0))
        ((FpVal.finite na ma ea).scaled (min ea eb) + (FpVal.finite nb mb eb).scaled (min ea eb)).natAbs (min ea eb) := rfl
  have hsum : (((FpVal.finite na ma ea).scaled (min ea eb) + (FpVal.finite nb mb eb).scaled (min ea eb) : Int) : ℚ)
      * (2 : ℚ) ^ min ea eb = x + y := by rw [Int.cast_add, add_mul, hx, hy]
  generalize (FpVal.finite na ma ea).scaled (min ea eb) + (FpVal.finite nb mb eb).scaled (min ea eb) = t at hr hsum
  have hz : x + y = 0 ↔ t = 0 := by rw [← hsum, mul_eq_zero, or_iff_left hP, Int.cast_eq_zero]
  rw [hr]
  by_cases ht : t = 0
  · rw [if_pos (hz.2 ht), if_pos ht]
  · rw [if_neg (mt hz.1 ht), if_neg ht]
    exact ⟨_, _, _, Int.natAbs_pos.2 ht, by rw [signedValue_natAbs, hsum], rfl⟩

/-- The sum of two numbers, zeros apart: a zero leaves the other as it is (log 41). -/
def SumCases (mode : BitVec 2) (a b : FpVal) (xneg yneg : Bool) (x y : ℚ) (r : FpResult) : Prop :=
  if x = 0 ∧ y = 0 then r = .cell (.zero (if xneg = yneg then xneg else zeroSumNegative mode))
  else if x = 0 then r = .cell b
  else if y = 0 then r = .cell a
  else if x + y = 0 then r = .cell (.zero (zeroSumNegative mode))
  else Exact r (x + y)

theorem addExact_of_numbers (f : FpFormat) (mode : BitVec 2) {a b : FpVal} {xneg yneg : Bool} {x y : ℚ}
    (ha : Denotes a xneg x) (hb : Denotes b yneg y) :
    ∃ r, addExact f mode a b = (r, .none) ∧ SumCases mode a b xneg yneg x y r := by
  obtain ⟨hx, rfl⟩ | ⟨ma, ea, hma, rfl, hx⟩ := ha
  case inl =>
    obtain ⟨hy, rfl⟩ | ⟨mb, eb, hmb, rfl, hy⟩ := hb
    · exact ⟨_, rfl, by rw [SumCases, if_pos ⟨hx, hy⟩]⟩
    · have hy0 := signedValue_ne_zero hmb hy
      exact ⟨_, rfl, by rw [SumCases, if_neg fun h => hy0 h.2, if_pos hx]⟩
  case inr =>
    have hx0 := signedValue_ne_zero hma hx
    obtain ⟨hy, rfl⟩ | ⟨mb, eb, hmb, rfl, hy⟩ := hb
    · exact ⟨_, rfl, by rw [SumCases, if_neg fun h => hx0 h.1, if_neg hx0, if_pos hy]⟩
    · have hy0 := signedValue_ne_zero hmb hy
      refine ⟨_, rfl, ?_⟩
      rw [SumCases, if_neg fun h => hx0 h.1, if_neg hx0, if_neg hy0, ← hx, ← hy]
      exact sumFinite_spec mode _ _ ma mb ea eb

/-! ### FADD to FDIV (45_floating_point.md R1179) -/

theorem withNans_of_some {a b : FpVal} {w : FpVal × FpFlags} (op : FpVal → FpVal → FpResult × FpFlags)
    (h : chooseNan a b = some w) : withNans a b op = (.cell w.1, w.2) := by
  rw [withNans, h]

theorem withNans_of_none {a b : FpVal} (op : FpVal → FpVal → FpResult × FpFlags) (h : chooseNan a b = none) :
    withNans a b op = op a b := by
  rw [withNans, h]

section
variable {f : FpFormat} {s : State} {n m : Nat}

theorem chooseNan_unpack_eq_none (hn : isNaN f n = false) (hm : isNaN f m = false) :
    chooseNan (unpack f n) (unpack f m) = none :=
  chooseNan_eq_none_iff.2 ⟨by rw [isNan_unpack, hn], by rw [isNan_unpack, hm]⟩

theorem arith_of_nanRule {r : Nat × FpFlags} (o : FpOp) (hn : n < 2 ^ fpWidth f) (hm : m < 2 ^ fpWidth f)
    (h : nanRule f n m = some r) : arith o f s (unpack f n) (unpack f m) = r := by
  rw [nanRule_eq hn hm, Option.map_eq_some_iff] at h
  obtain ⟨w, hw, rfl⟩ := h
  rw [arith, withNans_of_some _ hw, deliver_cell]

section
variable (hn : isNaN f n = false) (hm : isNaN f m = false)
include hn hm

theorem arith_of_not_nan (o : FpOp) :
    arith o f s (unpack f n) (unpack f m) = deliver f s (o.apply f (roundingMode s) (unpack f n) (unpack f m)) := by
  rw [arith, withNans_of_none _ (chooseNan_unpack_eq_none hn hm)]

/-- A difference is the sum with the second operand's sign complemented. -/
theorem arith_sub (hlt : m < 2 ^ fpWidth f) : arith .sub f s (unpack f n) (unpack f m)
    = arith .add f s (unpack f n) (unpack f (flipSign f m)) := by
  rw [arith_of_not_nan hn hm, arith_of_not_nan hn (by rw [isNaN_flipSign hlt, hm]), unpack_flipSign hlt hm]
  rfl

/-- A product with an infinity. -/
theorem arith_mul_of_infinity (h : isInfinity f n = true ∨ isInfinity f m = true) :
    arith .mul f s (unpack f n) (unpack f m)
      = if (isNumber f n = true ∧ numberValue f n = 0) ∨ (isNumber f m = true ∧ numberValue f m = 0)
        then (defaultNanOf f, .invalid) else (infinityOf f (negative f n ^^ negative f m), .none) := by
  rw [arith_of_not_nan hn hm, FpOp.apply, mulExact_of_infinity f hn hm h]
  split
  · rw [deliver_cell, pack_defaultNan]
  · rw [deliver_cell, pack_inf]

end

/-! Infinities. -/

theorem pack_of_infinity (hn : n < 2 ^ fpWidth f) (h : isInfinity f n = true) : pack f (.inf (negative f n)) = n := by
  rw [← unpack_of_infinity h, pack_unpack hn]

theorem arith_add_infinities (hn : n < 2 ^ fpWidth f) (hi : isInfinity f n = true) (hj : isInfinity f m = true) :
    arith .add f s (unpack f n) (unpack f m)
      = if negative f n ^^ negative f m then (defaultNanOf f, .invalid) else (n, .none) := by
  have hp := pack_of_infinity hn hi
  rw [arith_of_not_nan (isNaN_eq_false_of_infinity hi) (isNaN_eq_false_of_infinity hj), unpack_of_infinity hi,
    unpack_of_infinity hj, ← pack_defaultNan]
  cases hx : negative f n <;> cases hy : negative f m
  all_goals rw [hx] at hp
  case false.false | true.true => exact congrArg (·, FpFlags.none) hp
  all_goals rfl

theorem arith_add_infinity_number (hn : n < 2 ^ fpWidth f) (hi : isInfinity f n = true) (hm : isNumber f m = true) :
    arith .add f s (unpack f n) (unpack f m) = (n, .none) := by
  rw [arith_of_not_nan (isNaN_eq_false_of_infinity hi) (isNaN_eq_false_of_number hm), unpack_of_infinity hi]
  refine Eq.trans ?_ (congrArg (·, FpFlags.none) (pack_of_infinity hn hi))
  obtain ⟨_, hy⟩ | ⟨_, _, _, hy⟩ := unpack_number_cases hm
  all_goals rw [hy]; rfl

theorem arith_add_number_infinity (hm : m < 2 ^ fpWidth f) (hn : isNumber f n = true) (hj : isInfinity f m = true) :
    arith .add f s (unpack f n) (unpack f m) = (m, .none) := by
  rw [arith_of_not_nan (isNaN_eq_false_of_number hn) (isNaN_eq_false_of_infinity hj), unpack_of_infinity hj]
  refine Eq.trans ?_ (congrArg (·, FpFlags.none) (pack_of_infinity hm hj))
  obtain ⟨_, hx⟩ | ⟨_, _, _, hx⟩ := unpack_number_cases hn
  all_goals rw [hx]; rfl

theorem arith_sub_infinities (hn : n < 2 ^ fpWidth f) (hm : m < 2 ^ fpWidth f) (hi : isInfinity f n = true)
    (hj : isInfinity f m = true) : arith .sub f s (unpack f n) (unpack f m)
      = if negative f n ^^ negative f m then (n, .none) else (defaultNanOf f, .invalid) := by
  obtain ⟨-, hs, -, -⟩ := fields_flipSign hm
  rw [arith_sub (isNaN_eq_false_of_infinity hi) (isNaN_eq_false_of_infinity hj) hm,
    arith_add_infinities hn hi (by rw [isInfinity_flipSign hm, hj]), hs, Bool.xor_not]
  cases negative f n ^^ negative f m <;> rfl

theorem arith_sub_infinity_number (hn : n < 2 ^ fpWidth f) (hm : m < 2 ^ fpWidth f) (hi : isInfinity f n = true)
    (hy : isNumber f m = true) : arith .sub f s (unpack f n) (unpack f m) = (n, .none) := by
  rw [arith_sub (isNaN_eq_false_of_infinity hi) (isNaN_eq_false_of_number hy) hm]
  exact arith_add_infinity_number hn hi (by rw [isNumber_flipSign hm, hy])

theorem arith_sub_number_infinity (hm : m < 2 ^ fpWidth f) (hx : isNumber f n = true) (hj : isInfinity f m = true) :
    arith .sub f s (unpack f n) (unpack f m) = (flipSign f m, .none) := by
  obtain ⟨hlt, -, -, -⟩ := fields_flipSign hm
  rw [arith_sub (isNaN_eq_false_of_number hx) (isNaN_eq_false_of_infinity hj) hm]
  exact arith_add_number_infinity hlt hx (by rw [isInfinity_flipSign hm, hj])

theorem arith_mul_infinities (hi : isInfinity f n = true) (hj : isInfinity f m = true) :
    arith .mul f s (unpack f n) (unpack f m) = (infinityOf f (negative f n ^^ negative f m), .none) := by
  rw [arith_mul_of_infinity (isNaN_eq_false_of_infinity hi) (isNaN_eq_false_of_infinity hj) (.inl hi)]
  simp [isNumber_eq_false_of_infinity hi, isNumber_eq_false_of_infinity hj]

theorem arith_mul_infinity_number (hi : isInfinity f n = true) (hy : isNumber f m = true) :
    arith .mul f s (unpack f n) (unpack f m)
      = if numberValue f m = 0 then (defaultNanOf f, .invalid) else (infinityOf f (negative f n ^^ negative f m), .none) := by
  rw [arith_mul_of_infinity (isNaN_eq_false_of_infinity hi) (isNaN_eq_false_of_number hy) (.inl hi)]
  simp [isNumber_eq_false_of_infinity hi, hy]

theorem arith_mul_number_infinity (hx : isNumber f n = true) (hj : isInfinity f m = true) :
    arith .mul f s (unpack f n) (unpack f m)
      = if numberValue f n = 0 then (defaultNanOf f, .invalid) else (infinityOf f (negative f n ^^ negative f m), .none) := by
  rw [arith_mul_of_infinity (isNaN_eq_false_of_number hx) (isNaN_eq_false_of_infinity hj) (.inr hj)]
  simp [isNumber_eq_false_of_infinity hj, hx]

theorem arith_div_infinities (hi : isInfinity f n = true) (hj : isInfinity f m = true) :
    arith .div f s (unpack f n) (unpack f m) = (defaultNanOf f, .invalid) := by
  rw [arith_of_not_nan (isNaN_eq_false_of_infinity hi) (isNaN_eq_false_of_infinity hj), unpack_of_infinity hi,
    unpack_of_infinity hj, ← pack_defaultNan]
  rfl

theorem arith_div_infinity_number (hi : isInfinity f n = true) (hm : isNumber f m = true) :
    arith .div f s (unpack f n) (unpack f m) = (infinityOf f (negative f n ^^ negative f m), .none) := by
  rw [arith_of_not_nan (isNaN_eq_false_of_infinity hi) (isNaN_eq_false_of_number hm), unpack_of_infinity hi, ← pack_inf,
    unpack_eq f m, if_pos hm]
  split <;> rfl

theorem arith_div_number_infinity (hn : isNumber f n = true) (hj : isInfinity f m = true) :
    arith .div f s (unpack f n) (unpack f m) = (zeroOf f (negative f n ^^ negative f m), .none) := by
  rw [arith_of_not_nan (isNaN_eq_false_of_number hn) (isNaN_eq_false_of_infinity hj), unpack_of_infinity hj, ← pack_zero,
    unpack_eq f n, if_pos hn]
  split <;> rfl

/-! Numbers. -/

theorem sumGives_of_sumCases {x y : ℚ} {xneg yneg : Bool} {a b : FpVal} {r : FpResult}
    (h : SumCases (roundingMode s) a b xneg yneg x y r) (ha : pack f a = n) (hb : pack f b = m) :
    SumGives f s x y xneg yneg n m (deliver f s (r, .none)) := by
  unfold SumCases at h
  unfold SumGives
  split at h
  case isTrue hc => rw [if_pos hc, h, deliver_cell, pack_zero]; rfl
  case isFalse hc =>
  rw [if_neg hc]
  split at h
  case isTrue hx => rw [if_pos hx, h, deliver_cell, hb]
  case isFalse hx =>
  rw [if_neg hx]
  split at h
  case isTrue hy => rw [if_pos hy, h, deliver_cell, ha]
  case isFalse hy =>
  rw [if_neg hy]
  split at h
  case isTrue hz => rw [if_pos hz, h, deliver_cell, pack_zero]; rfl
  case isFalse hz => rw [if_neg hz]; exact delivers_of_exact_result h

theorem arith_add_numbers (hn : n < 2 ^ fpWidth f) (hm : m < 2 ^ fpWidth f) (hx : isNumber f n = true)
    (hy : isNumber f m = true) : SumGives f s (numberValue f n) (numberValue f m) (negative f n) (negative f m) n m
      (arith .add f s (unpack f n) (unpack f m)) := by
  obtain ⟨r, he, hr⟩ := addExact_of_numbers f (roundingMode s) (denotes_unpack hx) (denotes_unpack hy)
  rw [arith_of_not_nan (isNaN_eq_false_of_number hx) (isNaN_eq_false_of_number hy), FpOp.apply, he]
  exact sumGives_of_sumCases hr (pack_unpack hn) (pack_unpack hm)

theorem arith_sub_numbers (hn : n < 2 ^ fpWidth f) (hm : m < 2 ^ fpWidth f) (hx : isNumber f n = true)
    (hy : isNumber f m = true) : SumGives f s (numberValue f n) (-numberValue f m) (negative f n) (!negative f m) n
      (flipSign f m) (arith .sub f s (unpack f n) (unpack f m)) := by
  obtain ⟨hlt, hs, -, -⟩ := fields_flipSign hm
  rw [arith_sub (isNaN_eq_false_of_number hx) (isNaN_eq_false_of_number hy) hm, ← numberValue_flipSign hm, ← hs]
  exact arith_add_numbers hn hlt hx (by rw [isNumber_flipSign hm, hy])

theorem arith_mul_numbers (hx : isNumber f n = true) (hy : isNumber f m = true) :
    if numberValue f n * numberValue f m = 0
      then arith .mul f s (unpack f n) (unpack f m) = (zeroOf f (negative f n ^^ negative f m), .none)
      else Delivers f s (numberValue f n * numberValue f m) (arith .mul f s (unpack f n) (unpack f m)) := by
  rw [arith_of_not_nan (isNaN_eq_false_of_number hx) (isNaN_eq_false_of_number hy), FpOp.apply, mulExact_of_numbers f hx hy,
    numberValue_mul]
  simp only [signedValue_eq_zero_iff]
  split
  case isTrue => rw [deliver_cell, pack_zero]
  case isFalse hz => exact delivers_of_exact (Nat.pos_of_ne_zero hz) rfl

end

/-! ### Quotients (45_floating_point.md R1273) -/

/-- A quotient of naturals lies between its integer part and the next integer. -/
theorem div_bounds (n : Nat) {k : Nat} (hk : 0 < k) : ((n / k : Nat) : ℚ) ≤ n / k ∧ (n : ℚ) / k < (n / k : Nat) + 1
    ∧ (((n / k : Nat) : ℚ) = n / k ↔ n % k = 0) := by
  have hkq : (0 : ℚ) < k := Nat.cast_pos.2 hk
  have hsplit := Nat.div_add_mod' n k
  have hmod := Nat.mod_lt n hk
  refine ⟨Nat.cast_div_le, ?above, ?exact⟩
  case above =>
    rw [div_lt_iff₀ hkq]
    exact_mod_cast (by rw [Nat.succ_mul]; omega : n < (n / k + 1) * k)
  case exact =>
    rw [eq_div_iff hkq.ne']
    norm_cast
    omega

section
variable {f : FpFormat} {s : State} {neg : Bool} {ma mb : Nat}

/-- The quotient's last bit says whether a remainder is left. -/
theorem quotient_spec (hma : 0 < ma) (hmb : 0 < mb) (hlt : mb < 2 ^ 53) (e : Int) :
    ∃ (q : Nat) (k : Int), q * (2 : ℚ) ^ k ≤ ma / mb * (2 : ℚ) ^ e ∧ ma / mb * (2 : ℚ) ^ e < (q + 1) * (2 : ℚ) ^ k
      ∧ DeliversSticky f s neg q k (decide (q * (2 : ℚ) ^ k = ma / mb * (2 : ℚ) ^ e))
        (deliver f s (quotient neg ma mb e, .none)) := by
  obtain ⟨hle, hgt, hexact⟩ := div_bounds (ma * 2 ^ 120) hmb
  have hP : (0 : ℚ) < (2 : ℚ) ^ (e - 120) := by positivity
  have hx : (ma : ℚ) / mb * (2 : ℚ) ^ e = ((ma * 2 ^ 120 : Nat) : ℚ) / mb * (2 : ℚ) ^ (e - 120) := by
    rw [Nat.cast_mul, zpow_sub₀ two_ne_zero]
    push_cast
    field_simp
  have hlarge : 2 ^ 57 ≤ ma * 2 ^ 120 / mb := by
    rw [Nat.le_div_iff_mul_le hmb]
    nlinarith
  refine ⟨ma * 2 ^ 120 / mb, e - 120, ?_, ?_, hlarge, ?_⟩
  · rw [hx]; exact mul_le_mul_of_nonneg_right hle hP.le
  · rw [hx]; exact mul_lt_mul_of_pos_right hgt hP
  · rw [quotient, deliver_exact, hx]
    simp only [decide_eq_true_eq, sub_sub, mul_left_inj' hP.ne', hexact]
    rfl

end

section
variable {f : FpFormat} {s : State} {n m : Nat}

theorem significand_lt_of_format (f : FpFormat) (n : Nat) : significand f n < 2 ^ 53 :=
  (significand_lt f n).trans_le (by cases f <;> decide)

theorem abs_numberValue_div (f : FpFormat) (n m : Nat) : |numberValue f n / numberValue f m|
    = significand f n / significand f m * (2 : ℚ) ^ (lastExponent f n - lastExponent f m) := by
  rw [abs_div, numberValue_eq, numberValue_eq, abs_signedValue, abs_signedValue, zpow_sub₀ two_ne_zero, mul_div_mul_comm]

theorem arith_div_numbers (hx : isNumber f n = true) (hy : isNumber f m = true) :
    if numberValue f m = 0 then arith .div f s (unpack f n) (unpack f m)
        = (if numberValue f n = 0 then (defaultNanOf f, .invalid)
          else (infinityOf f (negative f n ^^ negative f m), .divByZero))
    else if numberValue f n = 0 then arith .div f s (unpack f n) (unpack f m) = (zeroOf f (negative f n ^^ negative f m), .none)
    else ∃ (q : Nat) (e : Int), q * (2 : ℚ) ^ e ≤ |numberValue f n / numberValue f m|
      ∧ |numberValue f n / numberValue f m| < (q + 1) * (2 : ℚ) ^ e
      ∧ DeliversSticky f s (negative f n ^^ negative f m) q e
        (decide (q * (2 : ℚ) ^ e = |numberValue f n / numberValue f m|)) (arith .div f s (unpack f n) (unpack f m)) := by
  rw [arith_of_not_nan (isNaN_eq_false_of_number hx) (isNaN_eq_false_of_number hy), FpOp.apply, abs_numberValue_div]
  simp only [numberValue_eq_zero_iff]
  by_cases hzm : significand f m = 0
  case pos =>
    rw [if_pos hzm, unpack_of_zero hy hzm]
    by_cases hzn : significand f n = 0
    · rw [if_pos hzn, unpack_of_zero hx hzn, ← pack_defaultNan]; rfl
    · rw [if_neg hzn, unpack_of_nonzero hx hzn, ← pack_inf]; rfl
  case neg =>
    rw [if_neg hzm, unpack_of_nonzero hy hzm]
    by_cases hzn : significand f n = 0
    · rw [if_pos hzn, unpack_of_zero hx hzn, ← pack_zero]; rfl
    · rw [if_neg hzn, unpack_of_nonzero hx hzn]
      exact quotient_spec (Nat.pos_of_ne_zero hzn) (Nat.pos_of_ne_zero hzm) (significand_lt_of_format f m) _

/-! ### Roots (45_floating_point.md R1274) -/

/-- Each bit is kept that leaves the square at most `n`. -/
theorem isqrtFrom_spec (n : Nat) {k r : Nat} (hle : r * r ≤ n) (hlt : n < (r + 2 ^ k) * (r + 2 ^ k)) :
    isqrtFrom n k r * isqrtFrom n k r ≤ n ∧ n < (isqrtFrom n k r + 1) * (isqrtFrom n k r + 1) := by
  induction k generalizing r with
  | zero => exact ⟨hle, hlt⟩
  | succ k ih =>
    rw [isqrtFrom]
    split
    case isTrue h => exact ih h (by rwa [Nat.add_assoc, ← Nat.two_mul, ← Nat.pow_succ'])
    case isFalse h => exact ih hle (Nat.lt_of_not_le h)

theorem isqrt_spec {n : Nat} (h : n < 2 ^ 192) : isqrt n * isqrt n ≤ n ∧ n < (isqrt n + 1) * (isqrt n + 1) :=
  isqrtFrom_spec n (Nat.zero_le _) (by simpa [← pow_add] using h)

/-- The root's last bit says whether it is inexact. -/
theorem rootFinite_spec {mant : Nat} (hm : 0 < mant) (hlt : mant < 2 ^ 53) (exp : Int) :
    ∃ (q : Nat) (e : Int), (q * (2 : ℚ) ^ e) ^ 2 ≤ mant * (2 : ℚ) ^ exp
      ∧ mant * (2 : ℚ) ^ exp < ((q + 1) * (2 : ℚ) ^ e) ^ 2
      ∧ DeliversSticky f s false q e (decide ((q * (2 : ℚ) ^ e) ^ 2 = mant * (2 : ℚ) ^ exp))
        (deliver f s (rootFinite mant exp, .none)) := by
  have hodd : exp % 2 = 0 ∨ exp % 2 = 1 := Int.emod_two_eq_zero_or_one exp
  generalize hN : mant * 2 ^ (114 + (exp % 2).toNat) = N
  generalize hE : (exp - 114 - exp % 2) / 2 = e
  have hsmall : N < 2 ^ 192 := by
    obtain h | h := hodd <;> rw [h] at hN <;> norm_num at hN ⊢ <;> omega
  have hbig : 2 ^ 114 ≤ N := by
    obtain h | h := hodd <;> rw [h] at hN <;> norm_num at hN ⊢ <;> omega
  obtain ⟨hle, hgt⟩ := isqrt_spec hsmall
  have hP : (0 : ℚ) < ((2 : ℚ) ^ e) ^ 2 := by positivity
  have hx : mant * (2 : ℚ) ^ exp = N * ((2 : ℚ) ^ e) ^ 2 := by
    have hexp : exp = (114 + (exp % 2).toNat : Nat) + e * 2 := by
      push_cast
      rw [Int.toNat_of_nonneg (by omega)]
      omega
    rw [← hN, ← zpow_natCast ((2 : ℚ) ^ e), ← zpow_mul, Nat.cast_mul, mul_assoc, Nat.cast_pow, Nat.cast_ofNat,
      ← zpow_natCast, ← zpow_add₀ two_ne_zero]
    exact congrArg (fun k : Int => (mant : ℚ) * (2 : ℚ) ^ k) hexp
  have hlarge : 2 ^ 57 ≤ isqrt N := by
    by_contra hc
    have : (isqrt N + 1) * (isqrt N + 1) ≤ 2 ^ 57 * 2 ^ 57 := Nat.mul_le_mul (by omega) (by omega)
    omega
  refine ⟨isqrt N, e, ?_, ?_, hlarge, ?_⟩
  · rw [hx, mul_pow, pow_two]
    exact mul_le_mul_of_nonneg_right (by exact_mod_cast hle) hP.le
  · rw [hx, mul_pow, pow_two ((isqrt N : ℚ) + 1)]
    exact mul_lt_mul_of_pos_right (by exact_mod_cast hgt) hP
  · have hexact : ((isqrt N : ℚ) * (2 : ℚ) ^ e) ^ 2 = mant * (2 : ℚ) ^ exp ↔ isqrt N * isqrt N = N := by
      rw [hx, mul_pow, mul_left_inj' hP.ne', pow_two]
      norm_cast
    rw [rootFinite, deliver_exact, hN, hE]
    simp only [decide_eq_true_eq, hexact]

theorem squareRoot_of_nan (hn : n < 2 ^ fpWidth f) (h : isNaN f n = true) :
    squareRoot f s (unpack f n) = (quietOf f n, nanFlags f n) := by
  rw [squareRoot, withNan, isNan_unpack, if_pos h, isSNan_unpack, deliver_cell, ← quietOf_eq hn h]
  rfl

theorem squareRoot_of_not_nan (h : isNaN f n = false) :
    squareRoot f s (unpack f n) = deliver f s (sqrtExact f (unpack f n)) := by
  rw [squareRoot, withNan, isNan_unpack, if_neg (by simp [h])]

theorem squareRoot_of_infinity (hn : n < 2 ^ fpWidth f) (h : isInfinity f n = true) : squareRoot f s (unpack f n)
    = if negative f n then (defaultNanOf f, .invalid) else (n, .none) := by
  have hp := pack_of_infinity hn h
  rw [squareRoot_of_not_nan (isNaN_eq_false_of_infinity h), unpack_of_infinity h, ← pack_defaultNan]
  cases hneg : negative f n
  all_goals rw [hneg] at hp
  · exact congrArg (·, FpFlags.none) hp
  · rfl

theorem squareRoot_of_number (hn : n < 2 ^ fpWidth f) (h : isNumber f n = true) :
    (numberValue f n = 0 → squareRoot f s (unpack f n) = (n, .none))
    ∧ (numberValue f n < 0 → squareRoot f s (unpack f n) = (defaultNanOf f, .invalid))
    ∧ (0 < numberValue f n → ∃ (q : Nat) (e : Int), (q * (2 : ℚ) ^ e) ^ 2 ≤ numberValue f n
      ∧ numberValue f n < ((q + 1) * (2 : ℚ) ^ e) ^ 2
      ∧ DeliversSticky f s false q e (decide ((q * (2 : ℚ) ^ e) ^ 2 = numberValue f n)) (squareRoot f s (unpack f n))) := by
  rw [squareRoot_of_not_nan (isNaN_eq_false_of_number h)]
  by_cases hz : significand f n = 0
  case pos =>
    have hv := (numberValue_eq_zero_iff f n).2 hz
    refine ⟨fun _ => ?_, fun hneg => absurd hv hneg.ne, fun hpos => absurd hv hpos.ne'⟩
    have hp := pack_unpack hn
    rw [unpack_of_zero h hz] at hp ⊢
    exact congrArg (·, FpFlags.none) hp
  case neg =>
    have hm := Nat.pos_of_ne_zero hz
    refine ⟨fun hv => absurd ((numberValue_eq_zero_iff f n).1 hv) hz, fun hneg => ?_, fun hpos => ?_⟩
    · rw [unpack_of_nonzero h hz, (signedValue_lt_zero_iff hm).1 hneg, ← pack_defaultNan]
      rfl
    · have hs := (signedValue_pos_iff hm).1 hpos
      rw [unpack_of_nonzero h hz, numberValue_eq, hs, signedValue_false]
      exact rootFinite_spec hm (significand_lt_of_format f n) _

end

/-! ### Fused multiply-adds (45_floating_point.md R1260) -/

section
variable {f : FpFormat} {s : State} {n m : Nat}

/-- The product a fused multiply-add adds to, where an operand is a NaN, and where none is. -/
theorem fusedProduct_of_some {a b : FpVal} {w : FpVal × FpFlags} (h : chooseNan a b = some w) : fusedProduct f a b = w := by
  rw [fusedProduct, withNans_of_some _ h]
  rfl

theorem fusedProduct_of_none {a b : FpVal} (h : chooseNan a b = none) :
    fusedProduct f a b = ((mulExact f a b).1.toVal, (mulExact f a b).2) := by
  rw [fusedProduct, withNans_of_none _ h]

/-- An infinity times a zero, by the fields of the operands. -/
theorem timesZero_iff : ((isInfinity f n && isNumber f m && fracField f m == 0 && expField f m == 0)
      || (isInfinity f m && isNumber f n && fracField f n == 0 && expField f n == 0)) = true
    ↔ (isInfinity f n = true ∧ isNumber f m = true ∧ numberValue f m = 0)
      ∨ (isInfinity f m = true ∧ isNumber f n = true ∧ numberValue f n = 0) := by
  have hz : ∀ k, numberValue f k = 0 ↔ fracField f k = 0 ∧ expField f k = 0 := fun k => by
    have hP := Nat.two_pow_pos (fracWidth f)
    rw [numberValue_eq_zero_iff, significand]
    split <;> omega
  simp only [hz, Bool.or_eq_true, Bool.and_eq_true, beq_iff_eq, and_assoc]

/-! The sum's sign: NaNs keep theirs. -/

theorem fusedResult_nan (negate : Bool) {v : FpVal} (h : v.isNan = true) : fusedResult negate (.cell v) = .cell v := by
  cases v with
  | nan => cases negate <;> rfl
  | inf | zero | finite => cases h

theorem fusedResult_inf (negate x : Bool) : fusedResult negate (.cell (.inf x)) = .cell (.inf (x ^^ negate)) := by
  cases negate <;> simp [fusedResult, FpResult.toVal, FpVal.negated]

theorem fusedResult_zero (negate x : Bool) : fusedResult negate (.cell (.zero x)) = .cell (.zero (x ^^ negate)) := by
  cases negate <;> simp [fusedResult, FpResult.toVal, FpVal.negated]

/-- A number, a cell of the sum's table too, is rounded. -/
theorem fusedResult_finite (negate : Bool) {r : FpResult} {neg : Bool} {mant : Nat} {exp : Int} {x : ℚ} (hm : 0 < mant)
    (hx : signedValue neg mant exp = x) (h : r.toVal = .finite neg mant exp) :
    Exact (fusedResult negate r) (if negate then -x else x) := by
  refine ⟨neg ^^ negate, mant, exp, hm, ?_, ?_⟩
  · cases negate <;> simp [signedValue_not, hx]
  · rw [fusedResult, h]
    cases negate <;> simp [FpVal.negated]

/-- The sum of the product and the addend, both numbers. -/
theorem fusedResult_of_sumCases (negate : Bool) {mode : BitVec 2} {a b : FpVal} {xneg yneg : Bool} {x y : ℚ} {r : FpResult}
    (ha : Denotes a xneg x) (hb : Denotes b yneg y) (h : SumCases mode a b xneg yneg x y r) :
    if x + y = 0 then fusedResult negate r
        = .cell (.zero ((if x = 0 ∧ xneg = yneg then xneg else zeroSumNegative mode) ^^ negate))
      else Exact (fusedResult negate r) (if negate then -(x + y) else x + y) := by
  unfold SumCases at h
  split at h
  case isTrue hc => simp [hc.1, hc.2, h, fusedResult_zero]
  case isFalse hc =>
  split at h
  case isTrue hx =>
    obtain ⟨hy, -⟩ | ⟨mant, exp, hm, rfl, hy⟩ := hb
    · exact absurd ⟨hx, hy⟩ hc
    · rw [hx, zero_add, if_neg (signedValue_ne_zero hm hy), h]
      exact fusedResult_finite negate hm hy rfl
  case isFalse hx =>
  split at h
  case isTrue hy =>
    obtain ⟨hx', -⟩ | ⟨mant, exp, hm, rfl, hx'⟩ := ha
    · exact absurd hx' hx
    · rw [hy, add_zero, if_neg hx, h]
      exact fusedResult_finite negate hm hx' rfl
  case isFalse hy =>
  split at h
  case isTrue hz => rw [if_pos hz, h, fusedResult_zero, if_neg fun hc => hx hc.1]
  case isFalse hz =>
    obtain ⟨neg, mant, exp, hm, hv, rfl⟩ := h
    rw [if_neg hz]
    exact fusedResult_finite negate hm hv rfl

end

/-- The addend with its sign as the sum takes it. -/
def addend (f : FpFormat) (minus : Bool) (c : Nat) : Nat := if minus then flipSign f c else c

theorem fields_addend {f : FpFormat} {c : Nat} (minus : Bool) (hc : c < 2 ^ fpWidth f) :
    isNumber f (addend f minus c) = isNumber f c
    ∧ isInfinity f (addend f minus c) = isInfinity f c
    ∧ negative f (addend f minus c) = (negative f c ^^ minus)
    ∧ numberValue f (addend f minus c) = if minus then -numberValue f c else numberValue f c := by
  obtain ⟨-, hs, -, -⟩ := fields_flipSign hc
  cases minus
  · simp [addend]
  · simp [addend, isNumber_flipSign hc, isInfinity_flipSign hc, hs, numberValue_flipSign hc]

section
variable {f : FpFormat} {s : State} {minus negate : Bool} {a b : FpVal} {c : Nat} (hc : c < 2 ^ fpWidth f)
include hc

/-- A product that is a NaN yields to one in the addend, but for the conditions it has detected. -/
theorem fused_of_nan_product {v : FpVal} {e : FpFlags} (hp : fusedProduct f a b = (v, e)) (hv : v.isNan = true)
    (hq : v.isSNan = false) (he : e = .none ∨ e = .invalid) : fusedMultiplyAdd f s minus negate a b (unpack f c)
      = if isSignalling f c then (quietOf f c, .invalid) else if isNaN f c then (c, e) else (pack f v, e) := by
  have hnone : e.or .none = e := by obtain rfl | rfl := he <;> rfl
  have hinv : e.or .invalid = .invalid := by obtain rfl | rfl := he <;> rfl
  have hchoose : chooseNan v (unpack f c) = if isSignalling f c then some ((unpack f c).quieted, .invalid)
      else if isNaN f c then some (unpack f c, .none) else some (v, .none) := by
    rw [chooseNan, isSNan_unpack, isNan_unpack, hv, hq]
    rfl
  rw [fusedMultiplyAdd, hp]
  dsimp only
  by_cases hs : isSignalling f c = true
  case pos =>
    have hn := isNaN_of_isSignalling hs
    rw [if_pos hs, withNans_of_some _ (hchoose.trans (if_pos hs)), fusedResult_nan negate (by rw [quieted_unpack_of_nan hn]; rfl),
      deliver_cell, ← quietOf_eq hc hn, hinv]
  case neg =>
  rw [if_neg hs] at hchoose ⊢
  by_cases hn : isNaN f c = true
  case pos =>
    rw [if_pos hn, withNans_of_some _ (hchoose.trans (if_pos hn)), fusedResult_nan negate (by rw [isNan_unpack, hn]),
      deliver_cell, pack_unpack hc, hnone]
  case neg =>
    rw [if_neg hn, withNans_of_some _ (hchoose.trans (if_neg hn)), fusedResult_nan negate hv, deliver_cell, hnone]

/-- A NaN in the addend, the product being none. -/
theorem fused_of_nan_addend {v : FpVal} (hp : fusedProduct f a b = (v, .none)) (hv : v.isNan = false)
    (hn : isNaN f c = true) :
    fusedMultiplyAdd f s minus negate a b (unpack f c) = (quietOf f c, nanFlags f c) := by
  have hsn : v.isSNan = false := by
    rw [← Bool.not_eq_true]
    exact fun h => by simp [isNan_of_isSNan h] at hv
  have hchoose : chooseNan v (unpack f c) = some ((unpack f c).quieted, nanFlags f c) := by
    rw [chooseNan, isSNan_unpack, isNan_unpack, hsn, hn, nanFlags]
    cases hs : isSignalling f c
    · rw [quieted_of_quiet (by rw [isSNan_unpack, hs])]; rfl
    · rfl
  rw [fusedMultiplyAdd, hp]
  dsimp only
  rw [withNans_of_some _ hchoose, fusedResult_nan negate (by rw [quieted_unpack_of_nan hn]; rfl), FpFlags.none_or, deliver_cell,
    ← quietOf_eq hc hn]

/-- No NaN: the sum with the addend, its sign complemented where it is subtracted. -/
theorem fused_of_no_nan {v : FpVal} (hp : fusedProduct f a b = (v, .none)) (hv : v.isNan = false)
    (hn : isNaN f c = false) : fusedMultiplyAdd f s minus negate a b (unpack f c)
      = deliver f s (fusedResult negate (addExact f (roundingMode s) v (unpack f (addend f minus c))).1,
        (addExact f (roundingMode s) v (unpack f (addend f minus c))).2) := by
  have hadd : (if minus then FpOp.sub else FpOp.add).apply f (roundingMode s) v (unpack f c)
      = addExact f (roundingMode s) v (unpack f (addend f minus c)) := by
    cases minus
    · rfl
    · simp only [if_true, addend, unpack_flipSign hc hn]; rfl
  rw [fusedMultiplyAdd, hp]
  dsimp only
  rw [withNans_of_none _ (chooseNan_eq_none_iff.2 ⟨hv, by rw [isNan_unpack, hn]⟩), FpFlags.none_or, hadd]

end

section
variable {f : FpFormat} {s : State} {minus negate : Bool} {a b c : Nat}

/-- A product that is an infinity. -/
theorem fused_of_infinite_product {sp : Bool} (hc : c < 2 ^ fpWidth f)
    (hp : fusedProduct f (unpack f a) (unpack f b) = (.inf sp, .none)) (hn : isNaN f c = false) :
    fusedMultiplyAdd f s minus negate (unpack f a) (unpack f b) (unpack f c)
      = if isInfinity f c && (negative f c ^^ minus) != sp then (defaultNanOf f, .invalid)
        else (infinityOf f (sp ^^ negate), .none) := by
  obtain ⟨hnum, hinf, hneg, -⟩ := fields_addend minus hc
  rw [fused_of_no_nan hc hp rfl hn, ← hneg]
  obtain h | h | h := class_cases f c
  case inl => simp [hn] at h
  case inr.inl =>
    rw [unpack_of_infinity (hinf.trans h), h]
    by_cases hs : sp = negative f (addend f minus c)
    · rw [← hs, if_neg (by simp), addExact, if_pos rfl, fusedResult_inf, deliver_cell, pack_inf]
    · rw [if_pos (by simpa using Ne.symm hs), addExact, if_neg hs, fusedResult_nan negate rfl, deliver_cell, pack_defaultNan]
  case inr.inr =>
    have hadd : addExact f (roundingMode s) (.inf sp) (unpack f (addend f minus c))
        = (.cell (.inf sp), .none) := by
      obtain ⟨_, hy⟩ | ⟨_, _, _, hy⟩ := unpack_number_cases (hnum.trans h)
      all_goals rw [hy]; rfl
    rw [hadd, if_neg (by simp [isInfinity_eq_false_of_number h]), fusedResult_inf, deliver_cell, pack_inf]

/-- A product that is a number. -/
theorem fused_of_finite_product (hc : c < 2 ^ fpWidth f) (ha : isNumber f a = true) (hb : isNumber f b = true)
    (hn : isNaN f c = false) :
    let sp := negative f a ^^ negative f b
    let sc := negative f c ^^ minus
    let x := numberValue f a * numberValue f b
    let y := if minus then -numberValue f c else numberValue f c
    let r := fusedMultiplyAdd f s minus negate (unpack f a) (unpack f b) (unpack f c)
    if isInfinity f c then r = (infinityOf f (sc ^^ negate), .none)
    else if x + y = 0 then r = (zeroOf f ((if x = 0 ∧ sp = sc then sp else roundingMode s == 3#2) ^^ negate), .none)
    else Delivers f s (if negate then -(x + y) else x + y) r := by
  intro sp sc x y r
  obtain ⟨hnum, hinf, hneg, hval⟩ := fields_addend minus hc
  have hx := denotes_product f ha hb
  have hflags : (mulExact f (unpack f a) (unpack f b)).2 = .none := by rw [mulExact_of_numbers f ha hb]
  have hp := fusedProduct_of_none (f := f) (chooseNan_unpack_eq_none (isNaN_eq_false_of_number ha) (isNaN_eq_false_of_number hb))
  rw [hflags] at hp
  generalize (mulExact f (unpack f a) (unpack f b)).1.toVal = v at hx hp
  have hr : r = _ := fused_of_no_nan hc hp hx.isNan hn
  split
  case isTrue hi =>
    have hadd : addExact f (roundingMode s) v (.inf sc) = (.cell (.inf sc), .none) := by
      obtain ⟨-, rfl⟩ | ⟨_, _, -, rfl, -⟩ := hx
      all_goals rfl
    rw [hr, unpack_of_infinity (hinf.trans hi), hneg, hadd, fusedResult_inf, deliver_cell, pack_inf]
  case isFalse hi =>
    have hcn : isNumber f c = true := by
      obtain h | h | h := class_cases f c
      · simp [hn] at h
      · exact absurd h hi
      · exact h
    have hy := denotes_unpack (hnum.trans hcn)
    rw [hneg, hval] at hy
    obtain ⟨t, hadd, ht⟩ := addExact_of_numbers f (roundingMode s) hx hy
    have hres := fusedResult_of_sumCases negate hx hy ht
    rw [hr, hadd]
    split
    case isTrue hz => rw [(if_pos hz).mp hres, deliver_cell, pack_zero]; rfl
    case isFalse hz => exact delivers_of_exact_result ((if_neg hz).mp hres)

/-- An infinity times a zero: the product is the default NaN. -/
theorem fused_of_invalid_product (hc : c < 2 ^ fpWidth f)
    (h : (isInfinity f a = true ∧ isNumber f b = true ∧ numberValue f b = 0)
      ∨ (isInfinity f b = true ∧ isNumber f a = true ∧ numberValue f a = 0)) :
    fusedMultiplyAdd f s minus negate (unpack f a) (unpack f b) (unpack f c)
      = if isSignalling f c then (quietOf f c, .invalid) else if isNaN f c then (c, .invalid)
        else (defaultNanOf f, .invalid) := by
  have hna : isNaN f a = false := by
    obtain ⟨hi, -, -⟩ | ⟨-, hx, -⟩ := h
    · exact isNaN_eq_false_of_infinity hi
    · exact isNaN_eq_false_of_number hx
  have hnb : isNaN f b = false := by
    obtain ⟨-, hx, -⟩ | ⟨hi, -, -⟩ := h
    · exact isNaN_eq_false_of_number hx
    · exact isNaN_eq_false_of_infinity hi
  have hp := fusedProduct_of_none (f := f) (chooseNan_unpack_eq_none hna hnb)
  rw [mulExact_of_infinity f hna hnb (h.imp (·.1) (·.1)), if_pos (h.symm.imp (·.2) (·.2))] at hp
  rw [fused_of_nan_product hc hp rfl rfl (.inr rfl), FpResult.toVal, pack_defaultNan]

/-- A NaN operand of the product. -/
theorem fused_of_nan_operand {r : Nat × FpFlags} (ha : a < 2 ^ fpWidth f) (hb : b < 2 ^ fpWidth f) (hc : c < 2 ^ fpWidth f)
    (h : nanRule f a b = some r) : fusedMultiplyAdd f s minus negate (unpack f a) (unpack f b) (unpack f c)
      = if isSignalling f c then (quietOf f c, .invalid) else if isNaN f c then (c, r.2) else r := by
  rw [nanRule_eq ha hb, Option.map_eq_some_iff] at h
  obtain ⟨w, hw, rfl⟩ := h
  have hp := fusedProduct_of_some (f := f) hw
  obtain ⟨v, -, hnan, rfl⟩ := chooseNan_eq_some hw
  have hq : v.quieted.isNan = true ∧ v.quieted.isSNan = false := by
    cases v with
    | nan => exact ⟨rfl, rfl⟩
    | inf | zero | finite => cases hnan
  exact fused_of_nan_product hc hp hq.1 hq.2 (by split; exacts [.inr rfl, .inl rfl])

/-- What a fused multiply-add gives, by the class of the product and of the addend. -/
theorem fusedMultiplyAdd_gives (ha : a < 2 ^ fpWidth f) (hb : b < 2 ^ fpWidth f) (hc : c < 2 ^ fpWidth f) :
    FusedGives f s minus negate a b c (fusedMultiplyAdd f s minus negate (unpack f a) (unpack f b) (unpack f c)) := by
  unfold FusedGives
  dsimp only
  by_cases htz : (isInfinity f a = true ∧ isNumber f b = true ∧ numberValue f b = 0)
      ∨ (isInfinity f b = true ∧ isNumber f a = true ∧ numberValue f a = 0)
  case pos =>
    rw [if_pos (timesZero_iff.2 htz), fused_of_invalid_product hc htz]
    dsimp only
    split
    case isTrue => rfl
    case isFalse => split <;> rfl
  case neg =>
  rw [if_neg (mt timesZero_iff.1 htz)]
  cases hrule : nanRule f a b
  case some r =>
    rw [fused_of_nan_operand ha hb hc hrule]
    dsimp only
    split
    case isTrue => rfl
    case isFalse => split <;> rfl
  case none =>
    rw [nanRule_eq ha hb, Option.map_eq_none_iff] at hrule
    obtain ⟨hna, hnb⟩ := chooseNan_eq_none_iff.1 hrule
    rw [isNan_unpack] at hna hnb
    have hp := fusedProduct_of_none (f := f) hrule
    dsimp only
    by_cases hinf : isInfinity f a = true ∨ isInfinity f b = true
    case pos =>
      have hzero : ¬((isNumber f a = true ∧ numberValue f a = 0) ∨ (isNumber f b = true ∧ numberValue f b = 0)) := by
        rintro (⟨hx, hz⟩ | ⟨hx, hz⟩)
        · exact htz (.inr ⟨hinf.resolve_left (by simp [isInfinity_eq_false_of_number hx]), hx, hz⟩)
        · exact htz (.inl ⟨hinf.resolve_right (by simp [isInfinity_eq_false_of_number hx]), hx, hz⟩)
      rw [mulExact_of_infinity f hna hnb hinf, if_neg hzero] at hp
      rw [if_pos (Bool.or_eq_true_iff.2 hinf)]
      by_cases hn : isNaN f c = true
      · rw [if_pos hn]
        exact fused_of_nan_addend hc hp rfl hn
      · rw [if_neg hn, fused_of_infinite_product hc hp (by simpa using hn)]
        split_ifs
        · rfl
        · rfl
    case neg =>
      have hxa : isNumber f a = true := ((class_cases f a).resolve_left (by simp [hna])).resolve_left fun h => hinf (.inl h)
      have hxb : isNumber f b = true := ((class_cases f b).resolve_left (by simp [hnb])).resolve_left fun h => hinf (.inr h)
      have hx := denotes_product f hxa hxb
      rw [show (mulExact f (unpack f a) (unpack f b)).2 = .none by rw [mulExact_of_numbers f hxa hxb]] at hp
      rw [if_neg (mt Bool.or_eq_true_iff.1 hinf)]
      by_cases hn : isNaN f c = true
      · rw [if_pos hn]
        exact fused_of_nan_addend hc hp hx.isNan hn
      · rw [if_neg hn]
        exact fused_of_finite_product hc hxa hxb (by simpa using hn)

end

/-- Settles O47: NaNs by `chooseNan`, infinities and zeros cell by cell, numbers by the rational value of each operation's exact result. -/
theorem exactArithmetic : Obligations.ExactArithmetic :=
  ⟨fun _ _ _ _ hn hm => ⟨fun _ hr o => arith_of_nanRule o hn hm hr,
      fun hi hj => ⟨arith_add_infinities hn hi hj, arith_sub_infinities hn hm hi hj, arith_mul_infinities hi hj,
        arith_div_infinities hi hj⟩,
      fun hi hy => ⟨arith_add_infinity_number hn hi hy, arith_sub_infinity_number hn hm hi hy,
        arith_mul_infinity_number hi hy, arith_div_infinity_number hi hy⟩,
      fun hx hj => ⟨arith_add_number_infinity hm hx hj, arith_sub_number_infinity hm hx hj,
        arith_mul_number_infinity hx hj, arith_div_number_infinity hx hj⟩,
      fun hx hy => ⟨arith_add_numbers hn hm hx hy, arith_sub_numbers hn hm hx hy, arith_mul_numbers hx hy,
        arith_div_numbers hx hy⟩⟩,
    fun _ _ _ hn => ⟨squareRoot_of_nan hn, squareRoot_of_infinity hn, squareRoot_of_number hn⟩,
    fun _ _ _ _ _ _ _ ha hb hc => fusedMultiplyAdd_gives ha hb hc⟩

end Sys2Proof.Machine

/-! SUPPORT. VIS instructions: each comes down to one write of a register, behind the check of the enable bits where there is one, and each element of its value is the integer its rule gives (46_vis.md R1400 to R1521). -/

namespace Sys2Proof.Machine

open Sys2Proof.Claims

/-! ### The end of an instruction (46_vis.md R1400) -/

section
variable {i : Instr} {s : State} {rd : RegNum} (hf : fpuEnabled s = true)
include hf

theorem givesD_of_writeVisD {v : Word64} (hi : exec i s = writeVisD s rd v) : GivesD i s s rd v :=
  givesD_of_base rfl (hi.trans (requireFpu_of_enabled _ hf))

theorem givesS_of_writeVisS {v : Word32} (hi : exec i s = writeVisS s rd v) : GivesS i s s rd v :=
  givesS_of_base rfl (hi.trans (requireFpu_of_enabled _ hf))

/-- An instruction behind the check of the enable bits that writes `R[rd]`, its other effects those of `base`. -/
theorem givesR_of_requireFpu {base : State} {v : Word64} (hi : exec i s = requireFpu s (finishReg base rd v))
    (hn : base.npc = s.npc) : GivesR i s base rd v :=
  givesR_of_base (hi.trans (requireFpu_of_enabled _ hf)) hn

end

/-! ### Logical instructions (46_vis.md R1481 to R1512) -/

theorem exec_of_logicalDTable (s : State) (rd rs1 rs2 : RegNum) : ∀ e ∈ logicalDTable,
    exec (e.1 rd rs1 rs2) s = writeVisD s rd (e.2 (readD s rs1) (readD s rs2)) := by
  simp only [logicalDTable, List.forall_mem_cons]
  exact ⟨rfl, rfl, rfl, rfl, rfl, rfl, rfl, rfl, rfl, rfl, List.forall_mem_nil _⟩

theorem exec_of_logicalSTable (s : State) (rd rs1 rs2 : RegNum) : ∀ e ∈ logicalSTable,
    exec (e.1 rd rs1 rs2) s = writeVisS s rd (e.2 (readS s rs1) (readS s rs2)) := by
  simp only [logicalSTable, List.forall_mem_cons]
  exact ⟨rfl, rfl, rfl, rfl, rfl, rfl, rfl, rfl, rfl, rfl, List.forall_mem_nil _⟩

/-- Settles O51: each form is, as its definition stands, one write of its register behind the check of the enable bits. -/
theorem visLogical : Obligations.VisLogical := by
  intro s rd rs1 rs2 hf
  have d {i : Instr} {v : Word64} := givesD_of_writeVisD (i := i) (rd := rd) (v := v) hf
  have f {i : Instr} {v : Word32} := givesS_of_writeVisS (i := i) (rd := rd) (v := v) hf
  exact ⟨fun e he => d (exec_of_logicalDTable s rd rs1 rs2 e he), fun e he => f (exec_of_logicalSTable s rd rs1 rs2 e he),
    d rfl, f rfl, d rfl, f rfl, d rfl, f rfl, d rfl, f rfl, d rfl, f rfl, d rfl, f rfl⟩

/-! ### Values from their elements, and the elements of values (46_vis.md R1401)

The definitions count elements from the most significant one, the statements from the least: `3 - k` and `k`. -/

/-- The first `n` elements as one value. -/
def joinElements {w : Nat} (f : Nat → BitVec w) : (n : Nat) → BitVec (w * n)
  | 0 => 0#0
  | n + 1 => joinElements f n ++ f n

theorem joinElements_one {w : Nat} (f : Nat → BitVec w) : joinElements f 1 = (f 0).cast (Nat.mul_one w).symm := by
  refine BitVec.eq_of_toNat_eq ((BitVec.toNat_append ..).trans ?_)
  rw [joinElements, BitVec.toNat_cast]
  exact (congrArg (· ||| (f 0).toNat) (Nat.zero_shiftLeft w)).trans (Nat.zero_or _)

theorem extract_joinElements {w : Nat} (f : Nat → BitVec w) {n k : Nat} (hk : k < n) :
    (joinElements f n).extractLsb' (w * k) w = f (n - 1 - k) := by
  induction n generalizing k with
  | zero => cases hk
  | succ n ih =>
    cases k with
    | zero => exact extract_low _ _
    | succ k =>
      have h : (joinElements f (n + 1)).extractLsb' (w * (k + 1)) w = (joinElements f n).extractLsb' (w * k + w - w) w :=
        extract_within_high _ _ (Nat.le_add_left _ _)
      rw [h, Nat.add_sub_cancel, ih (by omega)]
      congr 1
      omega

theorem joinElements_two {w : Nat} (f : Nat → BitVec w) :
    joinElements f 2 = (f 0 ++ f 1).cast (Nat.mul_two w).symm := by
  rw [joinElements, joinElements_one]
  exact BitVec.eq_of_toNat_eq rfl

theorem joinHalves_eq (f : Nat → Half) : joinHalves f = joinElements f 4 := by
  rw [joinElements, joinElements, joinElements_two]
  rfl

theorem joinWords_eq (f : Nat → Word32) : joinWords f = joinElements f 2 := (joinElements_two f).symm

theorem joinBytes_eq (f : Nat → Byte) : joinBytes f = joinElements f 4 := by
  rw [joinElements, joinElements, joinElements_two]
  rfl

theorem half_joinHalves (f : Nat → Half) {k : Nat} (hk : k < 4) : half (joinHalves f) k = f (3 - k) := by
  rw [joinHalves_eq]
  exact extract_joinElements f hk

theorem word_joinWords (f : Nat → Word32) {k : Nat} (hk : k < 2) : word (joinWords f) k = f (1 - k) := by
  rw [joinWords_eq]
  exact extract_joinElements f hk

theorem byteS_joinBytes (f : Nat → Byte) {k : Nat} (hk : k < 4) : byteS (joinBytes f) k = f (3 - k) := by
  rw [joinBytes_eq]
  exact extract_joinElements f hk

theorem halfS_append (f : Nat → Half) {k : Nat} (hk : k < 2) : halfS (f 0 ++ f 1) k = f (1 - k) := by
  have h : joinElements f 2 = f 0 ++ f 1 := joinElements_two f
  rw [← h]
  exact extract_joinElements f hk

/-! ### Elements as integers -/

theorem add_eq_ofInt {w : Nat} (x y : BitVec w) : x + y = BitVec.ofInt w (x.toInt + y.toInt) :=
  BitVec.eq_of_toInt_eq (by rw [BitVec.toInt_add, BitVec.toInt_ofInt])

theorem sub_eq_ofInt {w : Nat} (x y : BitVec w) : x - y = BitVec.ofInt w (x.toInt - y.toInt) :=
  BitVec.eq_of_toInt_eq (by rw [BitVec.toInt_sub, BitVec.toInt_ofInt])

theorem toInt_upperByte (h : Half) : (upperByte h).toInt = h.toInt / 256 := by
  have hu : (upperByte h).toNat = h.toNat / 256 := by
    rw [upperByte, BitVec.extractLsb'_toNat, Nat.shiftRight_eq_div_pow]
    omega
  rw [BitVec.toInt_eq_toNat_cond, BitVec.toInt_eq_toNat_cond, hu]
  split <;> split <;> omega

theorem toNat_lowerByte (h : Half) : (lowerByte h).toNat = h.toNat % 256 := by
  simp [lowerByte]

/-- A field of a part of a value is a field of the value. -/
theorem extract_field {w : Nat} (v : BitVec w) {lo m i n : Nat} (h : i + n ≤ m) :
    (v.extractLsb' lo m).toNat / 2 ^ i % 2 ^ n = v.toNat / 2 ^ (lo + i) % 2 ^ n := by
  obtain ⟨j, rfl⟩ := Nat.exists_eq_add_of_le h
  rw [BitVec.extractLsb'_toNat, Nat.shiftRight_eq_div_pow, Nat.add_assoc, Nat.pow_add, Nat.mod_mul_right_div_self,
    Nat.mod_mod_of_dvd _ (Nat.pow_dvd_pow 2 (Nat.le_add_right n j)), Nat.div_div_eq_div_mul, ← Nat.pow_add]

/-- Two values side by side, as a number. -/
theorem toNat_append_eq {m n : Nat} (x : BitVec m) (y : BitVec n) : (x ++ y).toNat = x.toNat * 2 ^ n + y.toNat := by
  rw [BitVec.toNat_append, ← Nat.shiftLeft_add_eq_or_of_lt y.isLt, Nat.shiftLeft_eq]

theorem append_bytes_eq_ofInt (x y : Byte) : (x ++ y : Half) = BitVec.ofInt 16 (x.toNat * 256 + y.toNat : Nat) := by
  rw [BitVec.ofInt_natCast]
  apply BitVec.eq_of_toNat_eq
  rw [toNat_append_eq, BitVec.toNat_ofNat]
  omega

theorem clipByte_eq_ofInt (t : Int) : clipByte t = BitVec.ofInt 8 (clip 0 255 t) := by
  unfold clipByte clip
  split_ifs <;> rfl

theorem clipHalf_eq_ofInt (t : Int) : clipHalf t = BitVec.ofInt 16 (clip (-32768) 32767 t) := by
  unfold clipHalf clip
  split_ifs <;> rfl

theorem clip_byte_bounds (t : Int) : 0 ≤ clip 0 255 t ∧ clip 0 255 t ≤ 255 := by
  unfold clip
  split_ifs <;> omega

/-- FPACK32 moves a word up and puts the packed byte below it (46_vis.md R1462). -/
theorem pack_below_eq_ofInt (w : Word32) (t : Int) :
    (w <<< 8) ||| (clipByte t).setWidth 32 = BitVec.ofInt 32 ((w.toNat * 256 : Nat) + clip 0 255 t) := by
  obtain ⟨h0, h255⟩ := clip_byte_bounds t
  obtain ⟨n, hn⟩ := Int.eq_ofNat_of_zero_le h0
  have hlt : n < 2 ^ 8 := by omega
  rw [clipByte_eq_ofInt, hn, BitVec.ofInt_natCast, ← Int.natCast_add, BitVec.ofInt_natCast]
  apply BitVec.eq_of_toNat_eq
  have hshift : w.toNat <<< 8 % 2 ^ 32 = (w.toNat % 2 ^ 24) <<< 8 := by
    simp only [Nat.shiftLeft_eq]
    omega
  rw [BitVec.toNat_or, BitVec.toNat_shiftLeft, hshift, BitVec.toNat_setWidth, BitVec.toNat_ofNat, Nat.mod_eq_of_lt hlt,
    Nat.mod_eq_of_lt (b := 2 ^ 32) (by omega), ← Nat.shiftLeft_add_eq_or_of_lt hlt, BitVec.toNat_ofNat, Nat.shiftLeft_eq]
  omega

theorem toNat_scale4 (s : State) : (s.gsr.extractLsb' 3 4).toNat = scale s % 16 := by
  rw [BitVec.extractLsb'_toNat, Nat.shiftRight_eq_div_pow, scale]
  omega

theorem toNat_scale5 (s : State) : (s.gsr.extractLsb' 3 5).toNat = scale s := by
  rw [BitVec.extractLsb'_toNat, Nat.shiftRight_eq_div_pow, scale]

/-! ### Partitioned arithmetic (46_vis.md R1452 to R1478) -/

theorem exec_of_halvesTable (s : State) (rd rs1 rs2 : RegNum) : ∀ e ∈ halvesTable,
    exec (e.1 rd rs1 rs2) s = writeVisD s rd (joinHalves fun k => BitVec.ofInt 16 (e.2 s rs1 rs2 (3 - k))) := by
  simp only [halvesTable, List.forall_mem_cons, ← add_eq_ofInt, ← sub_eq_ofInt, ← toInt_upperByte, ← toNat_lowerByte,
    ← append_bytes_eq_ofInt]
  exact ⟨rfl, rfl, rfl, rfl, rfl, rfl, rfl, rfl, List.forall_mem_nil _⟩

theorem exec_of_wordsTable (s : State) (rd rs1 rs2 : RegNum) : ∀ e ∈ wordsTable,
    exec (e.1 rd rs1 rs2) s = writeVisD s rd (joinWords fun k => BitVec.ofInt 32 (e.2 s rs1 rs2 (1 - k))) := by
  simp only [wordsTable, List.forall_mem_cons, ← pack_below_eq_ofInt, ← add_eq_ofInt, ← sub_eq_ofInt, ← toInt_upperByte,
    ← toNat_lowerByte, ← toNat_scale5]
  exact ⟨rfl, rfl, rfl, rfl, rfl, List.forall_mem_nil _⟩

theorem exec_of_halvesSTable (s : State) (rd rs1 rs2 : RegNum) : ∀ e ∈ halvesSTable,
    exec (e.1 rd rs1 rs2) s
      = writeVisS s rd (BitVec.ofInt 16 (e.2 s rs1 rs2 1) ++ BitVec.ofInt 16 (e.2 s rs1 rs2 0)) := by
  simp only [halvesSTable, List.forall_mem_cons, ← add_eq_ofInt, ← sub_eq_ofInt]
  exact ⟨rfl, rfl, List.forall_mem_nil _⟩

/-! ### FEXPAND, PDIST, FALIGNDATA and BSHUFFLE (46_vis.md R1404, R1406, R1450, R1520) -/

theorem expanded_eq_ofNat (b : Byte) : b.setWidth 16 <<< 4 = BitVec.ofNat 16 (b.toNat * 16) := by
  rw [shiftLeft_eq_ofNat, BitVec.toNat_setWidth, Nat.mod_eq_of_lt (by omega)]
  rfl

/-- The absolute difference of byte `k`, 0 the least significant. -/
def byteDistance (x y : Word64) (k : Nat) : Nat :=
  (((x.extractLsb' (8 * k) 8).toNat : Int) - (y.extractLsb' (8 * k) 8).toNat).natAbs

theorem pixelDistance_eq_sum (x y : Word64) (n : Nat) :
    pixelDistance x y n = ((List.range n).map fun k => byteDistance x y (7 - k)).sum := by
  induction n with
  | zero => rfl
  | succ n ih =>
    rw [pixelDistance, ih, List.range_succ, List.map_append, List.sum_append, List.map_singleton, List.sum_singleton]
    rfl

/-- The sum of the distances does not depend on their order. -/
theorem pixelDistance_eight (x y : Word64) : pixelDistance x y 8 = ((List.range 8).map (byteDistance x y)).sum := by
  rw [pixelDistance_eq_sum, ← List.sum_reverse]
  rfl

theorem alignData_eq_ofNat (x y : Word64) (a : BitVec 3) :
    alignData x y a = BitVec.ofNat 64 ((x.toNat * 2 ^ 64 + y.toNat) / 2 ^ (64 - 8 * a.toNat)) := by
  rw [alignData, extract_eq_ofNat_div, toNat_append_eq]

theorem extract_byte_shuffle (x y : Word64) (mask : Word32) {k : Nat} (hk : k < 8) :
    (shuffle x y mask).extractLsb' (8 * k) 8 = shuffledByte x y mask (7 - k) := by
  have h : shuffle x y mask = joinElements (shuffledByte x y mask) 8 := by
    iterate 6 rw [joinElements]
    rw [joinElements_two]
    rfl
  rw [h]
  exact extract_joinElements _ hk

theorem shuffledByte_eq_ofNat (x y gsr : Word64) {k : Nat} (hk : k < 8) :
    shuffledByte x y (gsr.extractLsb' 32 32) (7 - k)
      = BitVec.ofNat 8 ((x.toNat * 2 ^ 64 + y.toNat) / 2 ^ (8 * (15 - gsr.toNat / 2 ^ (32 + 4 * k) % 16))) := by
  have hn : ((gsr.extractLsb' 32 32).extractLsb' (4 * k) 4).toNat = gsr.toNat / 2 ^ (32 + 4 * k) % 16 := by
    rw [BitVec.extractLsb'_toNat, Nat.shiftRight_eq_div_pow]
    exact extract_field gsr (by omega)
  rw [shuffledByte, show 28 - 4 * (7 - k) = 4 * k by omega, hn, extract_eq_ofNat_div, toNat_append_eq]

/-- Settles O52: each form writes its elements joined, or a value read off as a number; the elements are the integers of the rules. -/
theorem visArithmetic : Obligations.VisArithmetic := by
  intro s rd rs1 rs2 hf
  have d {i : Instr} {v : Word64} := givesD_of_writeVisD (i := i) (rd := rd) (v := v) hf
  have f {i : Instr} {v : Word32} := givesS_of_writeVisS (i := i) (rd := rd) (v := v) hf
  refine ⟨fun e he => ⟨_, d (exec_of_halvesTable s rd rs1 rs2 e he), fun k hk => ?halves⟩,
    fun e he => ⟨_, d (exec_of_wordsTable s rd rs1 rs2 e he), fun k hk => ?words⟩,
    fun e he => ⟨_, f (exec_of_halvesSTable s rd rs1 rs2 e he), fun k hk => ?halvesS⟩,
    f rfl, f rfl, ⟨_, d rfl, fun k hk => ?fexpand⟩, ⟨_, f rfl, fun k hk => ?fpack16⟩, ⟨_, f rfl, fun k hk => ?fpackfix⟩,
    ?pdist, ?faligndata, ⟨_, d rfl, fun k hk => ?bshuffle⟩⟩
  case halves => rw [half_joinHalves _ hk, Nat.sub_sub_self (by omega)]
  case words => rw [word_joinWords _ hk, Nat.sub_sub_self (by omega)]
  case halvesS =>
    rw [halfS_append (fun k => BitVec.ofInt 16 (e.2 s rs1 rs2 (1 - k))) hk, Nat.sub_sub_self (by omega)]
  case fexpand =>
    rw [half_joinHalves _ hk, expanded_eq_ofNat, byteOf, Nat.sub_sub_self (by omega)]
    rfl
  case fpack16 =>
    rw [byteS_joinBytes _ hk, clipByte_eq_ofInt, scaled16, toNat_scale4, halfOf, Nat.sub_sub_self (by omega)]
    rfl
  case fpackfix =>
    rw [halfS_append (fun k => clipHalf (scaled32 s (wordOf (readD s rs2) k) / 2 ^ 16)) hk, clipHalf_eq_ofInt, scaled32,
      toNat_scale5, wordOf, Nat.sub_sub_self (by omega)]
    rfl
  case pdist => exact d (congrArg (fun n => writeVisD s rd (readD s rd + BitVec.ofNat 64 n)) (pixelDistance_eight _ _))
  case faligndata =>
    have ha : (s.gsr.extractLsb' 0 3).toNat = s.gsr.toNat % 8 := by simp
    rw [← ha, ← alignData_eq_ofNat]
    exact d rfl
  case bshuffle => rw [extract_byte_shuffle _ _ _ hk, shuffledByte_eq_ofNat _ _ _ hk]

/-! ### EDGE (46_vis.md R1420 to R1432) -/

theorem EdgeSize.width_bounds (z : EdgeSize) : 0 < z.width ∧ z.width ≤ 8 := by
  cases z <;> decide

theorem EdgeSize.getLsbD_full (z : EdgeSize) (k : Nat) : z.full.getLsbD k = decide (k < z.width) := by
  obtain ⟨-, h8⟩ := z.width_bounds
  rw [EdgeSize.full, BitVec.getLsbD_ofNat, Nat.testBit_two_pow_sub_one]
  by_cases hk : k < z.width
  · simp [hk, show k < 64 by omega]
  · simp [hk]

/-- How many bytes an element has. -/
def EdgeSize.bytes (z : EdgeSize) : Nat := 8 / z.width

theorem EdgeSize.width_eq (z : EdgeSize) : z.width = 8 / z.bytes := by cases z <;> rfl

theorem EdgeSize.element_eq (z : EdgeSize) (a : Word64) : z.element (a.setWidth 3) = a.toNat % 8 / z.bytes := by
  cases z <;> simp [EdgeSize.element, EdgeSize.bytes, EdgeSize.width]

theorem EdgeSize.element_lt (z : EdgeSize) (a : BitVec 3) : z.element a < z.width := by
  cases z <;> simp only [EdgeSize.element, EdgeSize.width] <;> omega

/-- The element a mask bit stands for (46_vis.md R1420, Table 7-6). -/
def EdgeSize.elementOfBit (z : EdgeSize) (little : Bool) (k : Nat) : Nat := if little then k else z.width - 1 - k

/-- A left mask holds the elements from the one addressed on. -/
theorem getLsbD_leftMask (z : EdgeSize) (little : Bool) (a : BitVec 3) (k : Nat) : (leftMask z little a).getLsbD k
    = (decide (k < z.width) && decide (z.element a ≤ z.elementOfBit little k)) := by
  obtain ⟨h0, h8⟩ := z.width_bounds
  cases little with
  | true =>
    simp only [leftMask, EdgeSize.elementOfBit, if_true, BitVec.getLsbD_and, BitVec.getLsbD_shiftLeft, z.getLsbD_full]
    grind
  | false =>
    simp only [leftMask, EdgeSize.elementOfBit, Bool.false_eq_true, if_false, BitVec.getLsbD_ushiftRight, z.getLsbD_full]
    grind

/-- A right mask holds the elements up to the one addressed. -/
theorem getLsbD_rightMask (z : EdgeSize) (little : Bool) (a : BitVec 3) (k : Nat) : (rightMask z little a).getLsbD k
    = (decide (k < z.width) && decide (z.elementOfBit little k ≤ z.element a)) := by
  obtain ⟨h0, h8⟩ := z.width_bounds
  have he := z.element_lt a
  cases little with
  | true =>
    simp only [rightMask, EdgeSize.elementOfBit, if_true, BitVec.getLsbD_ushiftRight, z.getLsbD_full]
    grind
  | false =>
    simp only [rightMask, EdgeSize.elementOfBit, Bool.false_eq_true, if_false, BitVec.getLsbD_and,
      BitVec.getLsbD_shiftLeft, z.getLsbD_full]
    grind

/-- The block number of an address of `n + 3` bits, compared as bits and as a number. -/
theorem extract_block_beq (a b : Word64) {n : Nat} :
    (a.extractLsb' 3 n == b.extractLsb' 3 n) = decide (a.toNat % 2 ^ (n + 3) / 8 = b.toNat % 2 ^ (n + 3) / 8) := by
  have h (v : Word64) : (v.extractLsb' 3 n).toNat = v.toNat % 2 ^ (n + 3) / 8 := by
    rw [BitVec.extractLsb'_toNat, Nat.shiftRight_eq_div_pow, Nat.add_comm, Nat.pow_add,
      Nat.mod_mul_right_div_self]
  rw [← h, ← h, beq_eq_decide]
  exact decide_eq_decide.2 BitVec.toNat_inj.symm

/-- The address that selects a block: under `PSTATE.am` its low word. -/
def blockNumber (am : Bool) (a : Word64) : Nat := (if am then a.toNat % 2 ^ 32 else a.toNat) / 8

theorem sameBlock_eq (s : State) (a b : Word64) :
    sameBlock s a b = decide (blockNumber s.am a = blockNumber s.am b) := by
  have h (v : Word64) : v.toNat % 2 ^ 64 = v.toNat := Nat.mod_eq_of_lt v.isLt
  unfold sameBlock blockNumber
  cases s.am with
  | true => exact extract_block_beq a b
  | false => exact (extract_block_beq a b).trans (by rw [h, h]; rfl)

theorem getLsbD_edgeMask (s : State) (row : EdgeRow) (z : EdgeSize) (hz : row.bytes = z.bytes) (a b : Word64) (k : Nat) :
    (edgeMask s z row.little a b).getLsbD k = edgeBit row s.am a b k := by
  have hbit : edgeBit row s.am a b k = (decide (k < z.width)
      && decide (z.element (a.setWidth 3) ≤ z.elementOfBit row.little k)
      && (!sameBlock s a b || decide (z.elementOfBit row.little k ≤ z.element (b.setWidth 3)))) := by
    rw [sameBlock_eq, z.element_eq, z.element_eq, EdgeSize.elementOfBit, z.width_eq, ← hz, ← decide_not]
    rfl
  rw [hbit, edgeMask]
  cases sameBlock s a b with
  | true =>
    rw [if_pos rfl, BitVec.getLsbD_and, getLsbD_leftMask, getLsbD_rightMask]
    grind
  | false => simp [getLsbD_leftMask]

theorem exec_of_edgeTable (s : State) (rd rs1 rs2 : RegNum) : ∀ row ∈ edgeTable, ∃ z : EdgeSize, row.bytes = z.bytes
    ∧ exec (row.plain rd rs1 rs2) s = finishReg s rd (edgeMask s z row.little (readReg s rs1) (readReg s rs2))
    ∧ exec (row.setsCcr rd rs1 rs2) s = finishCc s rd (edgeMask s z row.little (readReg s rs1) (readReg s rs2))
      (ccSub (readReg s rs1) (readReg s rs2) false) := by
  simp only [edgeTable, List.forall_mem_cons]
  exact ⟨⟨.e8, rfl, rfl, rfl⟩, ⟨.e8, rfl, rfl, rfl⟩, ⟨.e16, rfl, rfl, rfl⟩, ⟨.e16, rfl, rfl, rfl⟩, ⟨.e32, rfl, rfl, rfl⟩,
    ⟨.e32, rfl, rfl, rfl⟩, List.forall_mem_nil _⟩

/-! ### ARRAY (46_vis.md R1410 to R1413) -/

theorem exec_of_arrayTable (s : State) (rd rs1 rs2 : RegNum) : ∀ e ∈ arrayTable,
    exec (e.1 rd rs1 rs2) s = arrayAddress s rd (readReg s rs1) (readReg s rs2) e.2 := by
  simp only [arrayTable, List.forall_mem_cons]
  exact ⟨rfl, rfl, rfl, List.forall_mem_nil _⟩

/-- The fields of a size up to 5 lie within the integer parts of the coordinates. -/
theorem blockedAddress_eq (coords : Word64) {n : Nat} (hn : n ≤ 5) :
    blockedAddress coords n = BitVec.ofNat 64 (blocked coords n) := by
  have field {lo m : Nat} (i w : Nat) (h : i + w ≤ m) := extract_field coords (lo := lo) h
  simp only [blockedAddress, blocked]
  rw [field 0 2 (by decide), field 0 2 (by decide), field 0 1 (by decide), field 2 4 (by decide), field 2 4 (by decide),
    field 1 4 (by decide), field 6 n (by omega), field 6 n (by omega), field 5 4 (by decide)]

theorem ofNat_shiftLeft {w : Nat} (m n : Nat) : BitVec.ofNat w m <<< n = BitVec.ofNat w (m * 2 ^ n) := by
  rw [shiftLeft_eq_ofNat]
  exact BitVec.eq_of_toNat_eq (by simp)

theorem arrayAddress_of_le {s : State} {rd : RegNum} {coords size : Word64} {shift : Nat} (h : size.toNat ≤ 5) :
    arrayAddress s rd coords size shift = finishReg s rd (BitVec.ofNat 64 (blocked coords size.toNat * 2 ^ shift)) := by
  rw [arrayAddress, if_pos h, blockedAddress_eq coords h, ofNat_shiftLeft]

/-! ### Partitioned compares (46_vis.md R1440 to R1448) -/

theorem getLsbD_append_bit {w : Nat} (x : BitVec w) (b : Bool) (k : Nat) :
    (x ++ bit b).getLsbD k = if k = 0 then b else x.getLsbD (k - 1) := by
  rw [BitVec.getLsbD_append]
  by_cases hk : k = 0
  · simp [hk, bit]
  · simp [hk]

theorem getLsbD_compareHalves (op : Half → Half → Bool) (x y : Word64) (k : Nat) :
    (compareHalves op x y).getLsbD k = (decide (k < 4) && op (half x k) (half y k)) := by
  simp only [compareHalves, getLsbD_append_bit, BitVec.getLsbD_zero]
  match k with
  | 0 | 1 | 2 | 3 => rfl
  | k + 4 => simp

theorem getLsbD_compareWords (op : Word32 → Word32 → Bool) (x y : Word64) (k : Nat) :
    (compareWords op x y).getLsbD k = (decide (k < 2) && op (word x k) (word y k)) := by
  simp only [compareWords, getLsbD_append_bit, BitVec.getLsbD_zero]
  match k with
  | 0 | 1 => rfl
  | k + 2 => simp

theorem exec_of_compareHalfTable (s : State) (rd rs1 rs2 : RegNum) : ∀ e ∈ compareHalfTable,
    exec (e.1 rd rs1 rs2) s = requireFpu s (finishReg s rd (compareHalves e.2 (readD s rs1) (readD s rs2))) := by
  simp only [compareHalfTable, List.forall_mem_cons, decide_not, ← beq_eq_decide]
  exact ⟨rfl, rfl, rfl, rfl, List.forall_mem_nil _⟩

theorem exec_of_compareWordTable (s : State) (rd rs1 rs2 : RegNum) : ∀ e ∈ compareWordTable,
    exec (e.1 rd rs1 rs2) s = requireFpu s (finishReg s rd (compareWords e.2 (readD s rs1) (readD s rs2))) := by
  simp only [compareWordTable, List.forall_mem_cons, decide_not, ← beq_eq_decide]
  exact ⟨rfl, rfl, rfl, rfl, List.forall_mem_nil _⟩

/-! ### The fields of GSR (46_vis.md R1402, R1403, R1405, R1521; 10_state.md R103) -/

theorem withGsrAlign_eq (gsr : Word64) (a : BitVec 3) :
    withGsrAlign gsr a = BitVec.ofNat 64 (gsr.toNat / 8 * 8 + a.toNat) := by
  have h := toNat_append_eq (gsr.extractLsb' 3 61) a
  rw [BitVec.extractLsb'_toNat, Nat.shiftRight_eq_div_pow] at h
  exact BitVec.eq_of_toNat_eq (by rw [withGsrAlign, h, BitVec.toNat_ofNat]; omega)

theorem withGsrMask_eq (gsr : Word64) (m : Word32) :
    withGsrMask gsr m = BitVec.ofNat 64 (m.toNat * 2 ^ 32 + gsr.toNat % 2 ^ 32) := by
  have h := toNat_append_eq m (gsr.extractLsb' 0 32)
  rw [BitVec.extractLsb'_toNat, Nat.shiftRight_zero] at h
  exact BitVec.eq_of_toNat_eq (by rw [withGsrMask, h, BitVec.toNat_ofNat]; omega)

theorem getLsbD_withGsrRounding (gsr : Word64) (mode : BitVec 3) (k : Nat) : (withGsrRounding gsr mode).getLsbD k
    = if 25 ≤ k ∧ k ≤ 27 then mode.getLsbD (k - 25) else gsr.getLsbD k := by
  simp only [withGsrRounding, BitVec.getLsbD_append, BitVec.getLsbD_extractLsb']
  grind

theorem aligned_sum (v : Word64) : (v.extractLsb' 3 61 ++ 0#3 : Word64) = BitVec.ofNat 64 (v.toNat / 8 * 8) := by
  rw [append_zero_eq_ofNat, extract_eq_ofNat_div, BitVec.toNat_ofNat, Nat.mod_eq_of_lt (by omega)]
  rfl

theorem toNat_low_bits (v : Word64) : (v.setWidth 3).toNat = v.toNat % 8 := BitVec.toNat_setWidth 3 v

theorem toNat_neg_low_bits (v : Word64) : (-v.setWidth 3).toNat = (8 - v.toNat % 8) % 8 := by
  rw [BitVec.toNat_neg, toNat_low_bits]

theorem givesR_of_alignAddress {i : Instr} {s : State} {rd : RegNum} {sum : Word64} {align : BitVec 3}
    (hf : fpuEnabled s = true) (hi : exec i s = alignAddress s rd sum align) :
    GivesR i s { s with gsr := BitVec.ofNat 64 (s.gsr.toNat / 8 * 8 + align.toNat) } rd
      (BitVec.ofNat 64 (sum.toNat / 8 * 8)) := by
  rw [← withGsrAlign_eq, ← aligned_sum]
  exact givesR_of_requireFpu hf hi rfl

/-- Settles O53: the masks and compares bit by bit, ARRAY field by field, the fields of GSR as numbers. -/
theorem visIntegerResults : Obligations.VisIntegerResults := by
  intro s rd rs1 rs2
  dsimp only
  rw [← BitVec.toNat_add]
  refine ⟨fun row hrow => ?edge, fun e he => ⟨fun hb => ?array, fun hb => ?arrayFree⟩,
    fun hf => ⟨fun e he => ?halves, fun e he => ?words, ?align, ?alignLittle, ?bmask, fun mode => ?siam⟩⟩
  case edge =>
    obtain ⟨z, hz, hplain, hcc⟩ := exec_of_edgeTable s rd rs1 rs2 row hrow
    exact ⟨_, givesR_of_finishReg hplain, givesR_of_base hcc rfl, getLsbD_edgeMask s row z hz _ _⟩
  case array => exact givesR_of_finishReg ((exec_of_arrayTable s rd rs1 rs2 e he).trans (arrayAddress_of_le hb))
  case arrayFree =>
    have hfree := (exec_of_arrayTable s rd rs1 rs2 e he).trans (if_neg (Nat.not_le.2 hb))
    exact ⟨_, s.freeCount + 1, givesR_of_base (base := drawFree s) hfree rfl⟩
  case halves =>
    exact ⟨_, givesR_of_requireFpu hf (exec_of_compareHalfTable s rd rs1 rs2 e he) rfl, getLsbD_compareHalves _ _ _⟩
  case words =>
    exact ⟨_, givesR_of_requireFpu hf (exec_of_compareWordTable s rd rs1 rs2 e he) rfl, getLsbD_compareWords _ _ _⟩
  case align =>
    rw [← toNat_low_bits]
    exact givesR_of_alignAddress hf rfl
  case alignLittle =>
    rw [← toNat_neg_low_bits]
    exact givesR_of_alignAddress hf rfl
  case bmask =>
    have hm := BitVec.toNat_setWidth 32 (readReg s rs1 + readReg s rs2)
    rw [← hm, ← withGsrMask_eq, BitVec.ofNat_toNat, BitVec.setWidth_eq]
    exact givesR_of_requireFpu hf rfl rfl
  case siam => exact ⟨_, requireFpu_of_enabled _ hf, getLsbD_withGsrRounding s.gsr mode⟩

end Sys2Proof.Machine

/-! SUPPORT. Exceptions: where one is delivered, what trap entry saves and changes, how RETRY undoes it (60_exceptions.md R1570, R1600 to R1615). -/

namespace Sys2Proof.Machine

/-! ### Delivery (60_exceptions.md R1570, R1606, R1610) -/

theorem toPrivileged_eq_false_iff (e : Exception) : e.toPrivileged = false ↔
    e ∈ [.iaePrivilegeViolation, .iaeUnauthAccess, .iaeNfoPage, .illegalInstruction, .daeInvalidAsi,
        .daePrivilegeViolation, .daeNcPage, .daeNfoPage, .daeSideEffectPage, .memAddressNotAligned,
        .lddfMemAddressNotAligned, .stdfMemAddressNotAligned, .privilegedAction]
      ∨ ∃ n : BitVec 8, 128 ≤ n.toNat ∧ e = .trapInstruction n := by
  cases e with
  | trapInstruction n => simp [Exception.toPrivileged]
  | _ => simp [Exception.toPrivileged]

/-- Settles O20: both ways of delivery are those of a raised exception, the columns are read off exception by exception. -/
theorem exceptionDelivery : Obligations.ExceptionDelivery :=
  ⟨fun _ _ _ he hl => raiseAt_eq_next_iff.2 ⟨he, hl, rfl⟩,
    fun _ _ _ h => raiseAt_eq_fault (h.imp_right fun hl => Fin.ext hl), toPrivileged_eq_false_iff⟩

/-! ### Trap and global levels -/

theorem nextLevel_val (l : Fin 3) : (nextLevel l).val = min (l.val + 1) 2 := by
  revert l
  decide

theorem prevLevel_nextLevel {l : Fin 3} (h : l.val < 2) : prevLevel (nextLevel l) = l := by
  apply Fin.ext
  rw [prevLevel_val, nextLevel_val]
  omega

theorem levelBits_toNat (l : Fin 3) : (levelBits l).toNat = l.val := by
  revert l
  decide

/-! ### What trap entry saves (60_exceptions.md R1600, R1603; 10_state.md R143, R146) -/

/-- Part of the upper part of an append, its place counted from where the lower part ends. -/
theorem extract_above {v w p l : Nat} {x : BitVec v} {y : BitVec w} {z : BitVec l} (h : x.extractLsb' p l = z) :
    (x ++ y).extractLsb' (p + w) l = z := by
  rw [extract_within_high x y (Nat.le_add_left w p), Nat.add_sub_cancel, h]

section
variable (s : State)

@[simp] theorem savedTstate_cwp : (savedTstate s).extractLsb' 0 3 = s.cwp := extract_low _ _

@[simp] theorem savedTstate_pstate : (savedTstate s).extractLsb' 8 13 = s.pstate :=
  extract_above (extract_above (extract_low _ _))

@[simp] theorem savedTstate_asi : (savedTstate s).extractLsb' 24 8 = s.asi :=
  extract_above (extract_above (extract_above (extract_above (extract_low _ _))))

@[simp] theorem savedTstate_ccr : (savedTstate s).extractLsb' 32 8 = s.ccr :=
  extract_above (extract_above (extract_above (extract_above (extract_above (extract_low _ _)))))

@[simp] theorem savedTstate_gl : (savedTstate s).extractLsb' 40 3 = levelBits s.gl :=
  extract_above (extract_above (extract_above (extract_above (extract_above (extract_above (extract_low _ _))))))

/-- Between the fields of TSTATE, and above them, trap entry leaves zeros. -/
theorem getLsbD_savedTstate_unused {b : Nat} (h : (3 ≤ b ∧ b ≤ 7) ∨ (21 ≤ b ∧ b ≤ 23) ∨ 43 ≤ b) :
    (savedTstate s).getLsbD b = false := by
  simp only [savedTstate, BitVec.getLsbD_append, BitVec.getLsbD_zero]
  grind

/-- GL comes back: a level needs no saturation. -/
@[simp] theorem restoredGl_savedTstate : restoredGl (savedTstate s) = s.gl := by
  apply Fin.ext
  rw [restoredGl_val, savedTstate_gl, levelBits_toNat]
  omega

variable (tt : BitVec 9)

@[simp] theorem savedFrame_tstate : (savedFrame s tt).tstate = savedTstate s := rfl

/-- At the default of TCT_TPC_UNMASKED the program counters are masked for every trap type (log 14). -/
theorem savedFrame_tpc : (savedFrame s tt).tpc = (amMask s s.pc).extractLsb' 2 62 := rfl

theorem savedFrame_tnpc : (savedFrame s tt).tnpc = (amMask s s.npc).extractLsb' 2 62 := rfl

/-- Bits 63:2 of an address, as trap entry saves a program counter. -/
theorem extract_amMask (x : Word64) : (amMask s x).extractLsb' 2 62
    = if s.am then BitVec.ofNat 62 (x.toNat % 2 ^ 32 / 4) else BitVec.ofNat 62 (x.toNat / 4) := by
  have h (y : Word64) : y.extractLsb' 2 62 = BitVec.ofNat 62 (y.toNat / 4) :=
    congrArg _ (Nat.shiftRight_eq_div_pow y.toNat 2)
  rw [amMask_eq, apply_ite (BitVec.extractLsb' 2 62), h, h, BitVec.toNat_ofNat, Nat.mod_eq_of_lt (by omega)]

/-- A word address is made again from its bits 63:2. -/
theorem savedPc_extract {x : Word64} (h : x.extractLsb' 0 2 = 0) : savedPc (x.extractLsb' 2 62) = x := by
  rw [savedPc, ← show x.extractLsb' 0 2 = 0#2 from h]
  exact extract_append₂ 2 62 x

end

/-! ### What trap entry changes (60_exceptions.md R1600, R1601, R1605) -/

section
variable (s : State) (tt : BitVec 9)

@[simp] theorem takeTrap_tct : (takeTrap s tt).tct = false := by
  simp only [State.tct, takeTrap_pstate, trapPstate, BitVec.getLsbD_append]
  rfl

@[simp] theorem takeTrap_cle : (takeTrap s tt).cle = s.tle := by
  simp only [State.cle, takeTrap_pstate, trapPstate, BitVec.getLsbD_append]
  exact BitVec.getLsbD_ofBool s.tle 0

@[simp] theorem takeTrap_tle : (takeTrap s tt).tle = s.tle := by
  simp only [State.tle, takeTrap_pstate, trapPstate, BitVec.getLsbD_append]
  exact BitVec.getLsbD_ofBool (s.pstate.getLsbD 8) 0

@[simp] theorem trapPstate_mm : (trapPstate s).extractLsb' 6 2 = s.pstate.extractLsb' 6 2 :=
  extract_above (extract_above (extract_above (extract_above (extract_above (extract_above (extract_low _ _))))))

/-- At the default of FPU_PRESENT (log 14). -/
@[simp] theorem takeTrap_pef : (takeTrap s tt).pef = true := by
  simp only [State.pef, takeTrap_pstate, trapPstate, BitVec.getLsbD_append]
  rfl

@[simp] theorem takeTrap_am : (takeTrap s tt).am = false := by
  simp only [State.am, takeTrap_pstate, trapPstate, BitVec.getLsbD_append]
  rfl

@[simp] theorem takeTrap_priv : (takeTrap s tt).priv = true := by
  simp only [State.priv, takeTrap_pstate, trapPstate, BitVec.getLsbD_append]
  rfl

@[simp] theorem takeTrap_ie : (takeTrap s tt).ie = false := by
  simp only [State.ie, takeTrap_pstate, trapPstate, BitVec.getLsbD_append]
  rfl

/-- The new window, the trap types of spills and fills compared as numbers (R1658). -/
theorem trapCwp_eq : trapCwp s tt =
    if tt = 0x024 then s.cwp + 1
    else if 0x080 ≤ tt.toNat ∧ tt.toNat ≤ 0x0BF then s.cwp + s.cansave + 2
    else if 0x0C0 ≤ tt.toNat ∧ tt.toNat ≤ 0x0FF then s.cwp - 1 else s.cwp := rfl

variable {s} {k : Fin 2} (h : s.tl.val = k.val)
include h

/-- The vector lies in the lower half of the table from trap level 0, in the upper half from trap level 1. -/
theorem trapVector_eq : trapVector s tt
    = (s.tba ++ 0#15) + (if k.val = 0 then 0 else 0x4000) + BitVec.ofNat 64 (32 * tt.toNat) := by
  have hl : (s.tl != 0) = decide (k.val ≠ 0) := by
    rw [← h, Bool.eq_iff_iff]
    simp
  apply BitVec.eq_of_toNat_eq
  rw [trapVector, hl]
  simp only [BitVec.toNat_append, BitVec.toNat_add, BitVec.toNat_ofNat, BitVec.isLt, ← Nat.shiftLeft_add_eq_or_of_lt]
  simp only [Nat.shiftLeft_eq]
  split
  next h0 =>
    simp [h0, bit]
    omega
  next h0 =>
    simp [h0, bit]
    omega

theorem takeTrap_level : (takeTrap s tt).tl.val = k.val + 1 := by
  rw [takeTrap_tl, nextLevel_val, h]
  omega

/-- The frame of the new level holds what trap entry saves. -/
theorem takeTrap_frame_same : (takeTrap s tt).trapStack[k] = savedFrame s tt := by
  simp [h]

/-- The frame of the other level stays. -/
theorem takeTrap_frame_ne {j : Fin 2} (hj : j ≠ k) : (takeTrap s tt).trapStack[j] = s.trapStack[j] := by
  simp [h, Vector.getElem_setIfInBounds_ne, Fin.val_ne_of_ne hj.symm]

theorem currentFrame_takeTrap : currentFrame (takeTrap s tt) = savedFrame s tt :=
  (currentFrame_of_level (takeTrap_level tt h)).trans (takeTrap_frame_same tt h)

end

/-- Settles O19: the saved frame field by field, then the registers trap entry sets, then the frame of the whole. -/
theorem trapEntryEffect : Obligations.TrapEntryEffect := by
  intro s tt k hk t f
  have hf : f = savedFrame s tt := takeTrap_frame_same tt hk
  rw [hf]
  exact ⟨takeTrap_level tt hk, savedTstate_gl s, savedTstate_ccr s, savedTstate_asi s, savedTstate_pstate s,
    savedTstate_cwp s, fun _ hb => getLsbD_savedTstate_unused s hb, (savedFrame_tpc s tt).trans (extract_amMask s s.pc),
    (savedFrame_tnpc s tt).trans (extract_amMask s s.npc), rfl,
    nextLevel_val s.gl, trapPstate_mm s, takeTrap_pef s tt, takeTrap_am s tt, takeTrap_priv s tt, takeTrap_cle s tt,
    takeTrap_ie s tt, takeTrap_tle s tt, takeTrap_tct s tt, trapCwp_eq s tt, trapVector_eq tt hk, rfl,
    fun _ hj => takeTrap_frame_ne tt hk hj, rfl⟩

/-! ### Trap entry undone (60_exceptions.md R1615; 41_control_transfer.md R721) -/

/-- In privileged mode above trap level 0 RETRY restores from the frame of the level. -/
theorem exec_retry_of_priv {s : State} (hp : s.priv = true) (hl : s.tl ≠ 0) (ht : s.tct = false) : exec .retry s
    = .next (setPcs (returnFromTrap s) (savedPc (currentFrame s).tpc) (savedPc (currentFrame s).tnpc)) :=
  (exec_of_trapReturn (exec_retry s) hp hl).trans (tctCheck_of_clear _ ht)

/-- A value whose reserved bits are 0 is its own image under the mask. -/
theorem and_mask_of_reserved {w : Nat} {v mask : BitVec w} (h : v &&& ~~~mask = 0) : v &&& mask = v := by
  calc v &&& mask = v &&& mask ||| v &&& ~~~mask := by rw [h]; exact BitVec.or_zero.symm
    _ = v := by rw [← BitVec.and_or_distrib_left, BitVec.or_not_self, BitVec.and_allOnes]

/-- What returning from a trap just taken restores is what trap entry saved. -/
theorem returnFromTrap_takeTrap {s : State} (tt : BitVec 9) (h : s.Inv) (hl : s.tl.val < 2) :
    returnFromTrap (takeTrap s tt) = { s with
      pc := trapVector s tt, npc := trapVector s tt + 4, trapStack := (takeTrap s tt).trapStack, trapped := true } := by
  have hf : currentFrame (takeTrap s tt) = savedFrame s tt := currentFrame_takeTrap tt (k := ⟨s.tl.val, hl⟩) rfl
  rw [returnFromTrap, hf]
  simp [and_mask_of_reserved h.pstateReserved, prevLevel_nextLevel hl, takeTrap]

/-- Settles O21: RETRY goes through to the restore, and the program counters are word addresses, so their saved bits are all of them. -/
theorem trapThenRetry : Obligations.TrapThenRetry := by
  intro s tt h hl ha
  have hlevel : (takeTrap s tt).tl.val = s.tl.val + 1 := takeTrap_level tt (k := ⟨s.tl.val, hl⟩) rfl
  have hpositive : (takeTrap s tt).tl ≠ 0 := fun e => Nat.succ_ne_zero _ (hlevel.symm.trans (congrArg Fin.val e))
  have hmask (x : Word64) : amMask s x = x := if_neg (by simp [ha])
  rw [exec_retry_of_priv (takeTrap_priv s tt) hpositive (takeTrap_tct s tt),
    currentFrame_takeTrap tt (k := ⟨s.tl.val, hl⟩) rfl, returnFromTrap_takeTrap tt h hl, savedFrame_tpc, savedFrame_tnpc,
    hmask, hmask, savedPc_extract h.pcAligned, savedPc_extract h.npcAligned]
  rfl

end Sys2Proof.Machine

/-! SUPPORT. The step: which disrupting trap is pending, what the environment moves, what a fetch gives or stops at, what is done with the word (60_exceptions.md R1585, R1586, R1665; 20_memory.md R287, R301). -/

namespace Sys2Proof.Machine

open Sys2Proof.Claims

/-! ### Disrupting traps (60_exceptions.md R1586, R1665) -/

theorem levelPending_iff (s : State) (n : Nat) : levelPending s n = true ↔ Pending s n := by
  simp [levelPending, Pending, or_assoc]

/-- The highest pending level exceeds a bound where some pending level does. -/
theorem lt_highestLevel_iff {s : State} {p top : Nat} :
    p < highestLevel s top ↔ ∃ n, p < n ∧ n ≤ top ∧ Pending s n := by
  induction top with
  | zero => simp [highestLevel]
  | succ top ih =>
    rw [highestLevel]
    split
    case isTrue h =>
      have hp := (levelPending_iff s (top + 1)).1 h
      exact ⟨fun hlt => ⟨top + 1, hlt, Nat.le_refl _, hp⟩, fun ⟨_, hlt, hle, _⟩ => Nat.lt_of_lt_of_le hlt hle⟩
    case isFalse h =>
      have hp : ¬Pending s (top + 1) := fun hp => h ((levelPending_iff s (top + 1)).2 hp)
      have hle {n : Nat} (hn : n ≤ top + 1) (hpn : Pending s n) : n ≤ top :=
        (Nat.le_or_eq_of_le_succ hn).resolve_right fun e : n = top + 1 => hp (e ▸ hpn)
      rw [ih]
      exact ⟨fun ⟨n, hlt, hn, hpn⟩ => ⟨n, hlt, Nat.le_succ_of_le hn, hpn⟩,
        fun ⟨n, hlt, hn, hpn⟩ => ⟨n, hlt, hle hn hpn, hpn⟩⟩

/-- A pending level with none pending above it is the highest. -/
theorem highestLevel_eq {s : State} {n top : Nat} (hn : n ≤ top) (hp : Pending s n)
    (habove : ∀ m, n < m → m ≤ top → ¬Pending s m) : highestLevel s top = n := by
  apply Nat.le_antisymm
  · by_contra hlt
    obtain ⟨m, hm, ht, hpm⟩ := lt_highestLevel_iff.1 (Nat.lt_of_not_le hlt)
    exact habove m hm ht hpm
  · by_contra hlt
    exact Nat.lt_irrefl _ (lt_highestLevel_iff.2 ⟨n, Nat.lt_of_not_le hlt, hn, hp⟩)

theorem pendingDisrupting_of_disabled {s : State} (h : s.ie = false ∨ s.tl = 2) : pendingDisrupting s = none := by
  apply if_pos
  rcases h with h | h <;> simp [h, Config.maxPtl]

/-- Where traps are enabled the conditions are looked at in their order. -/
theorem pendingDisrupting_of_enabled {s : State} (hie : s.ie = true) (hl : s.tl ≠ 2) : pendingDisrupting s =
    if s.cpuMondo.head ≠ s.cpuMondo.tail then some .cpuMondo
    else if s.devMondo.head ≠ s.devMondo.tail then some .devMondo
    else if s.pil.toNat < highestLevel s 15 then some (.interruptLevel (BitVec.ofNat 4 (highestLevel s 15)))
    else if s.resError.head ≠ s.resError.tail then some .resumableError
    else none := by
  apply if_neg
  have hval : s.tl.val ≠ 2 := fun e => hl (Fin.ext e)
  simp [hie, hval, Config.maxPtl]

/-- Settles O54: the conditions in their order; the level taken is the highest pending one. -/
theorem pendingTraps : Obligations.PendingTraps := by
  intro s
  refine ⟨pendingDisrupting_of_disabled, fun hie hl => ?_⟩
  rw [pendingDisrupting_of_enabled hie hl]
  refine ⟨fun hc => if_pos hc, fun hc => ?_⟩
  rw [if_neg (not_not.2 hc)]
  refine ⟨fun hd => if_pos hd, fun hd => ?_⟩
  rw [if_neg (not_not.2 hd)]
  refine ⟨fun n _ hn hp habove hpil => ?level, fun hnone => if_neg fun hpil => ?noLevel⟩
  case level =>
    rw [highestLevel_eq hn hp habove]
    exact if_pos hpil
  case noLevel =>
    obtain ⟨n, hlt, hn, hp⟩ := lt_highestLevel_iff.1 hpil
    exact hnone n hlt hn hp

/-! ### The environment (60_exceptions.md R1585; 70_reset_and_hazards.md R1772) -/

theorem advanceEnvironment_of_quiet {s : State} (h : s.inputs = []) :
    advanceEnvironment s = applyInput s (quietInput s) := by
  rw [advanceEnvironment, h]

theorem advanceEnvironment_of_input {s : State} {i : EnvInput} {rest : List EnvInput} (h : s.inputs = i :: rest) :
    advanceEnvironment s = applyInput { s with inputs := rest } i := by
  rw [advanceEnvironment, h]

/-- What the environment's advance leaves, whatever the input. -/
theorem advanceEnvironment_frame (s : State) : { advanceEnvironment s with
    tick := s.tick, stick := s.stick, softint := s.softint, cpuMondo := s.cpuMondo, devMondo := s.devMondo,
    resError := s.resError, nonresError := s.nonresError, extReq := s.extReq, inputs := s.inputs, mem := s.mem,
    trapped := s.trapped } = s := by
  unfold advanceEnvironment
  split <;> rfl

/-- The counter, bits 62:0 of its register, moves modulo `2^63`. -/
theorem advanceCounter_counter (reg : Word64) (n : Nat) :
    (advanceCounter reg n).toNat % 2 ^ 63 = (reg.toNat + n) % 2 ^ 63 := by
  have hlow (x : Word64) : x.toNat % 2 ^ 63 = (x.extractLsb' 0 63).toNat := by simp
  rw [hlow, advanceCounter, extract_low, BitVec.toNat_add, ← hlow]
  simp

/-! ### Bytes that nothing has written (70_reset_and_hazards.md R1752) -/

/-- The address that stops a read of a byte is its own. -/
theorem Memory.readByte_eq_error {m : Memory} {a b : Nat} (h : m.readByte a = .error b) : b = a := by
  induction m with
  | nil => cases h; rfl
  | cons c rest ih =>
    rw [Memory.readByte] at h
    split at h
    · cases h
    · exact ih h

theorem Memory.readHalf_of_written {m : Memory} (little : Bool) {a : Nat} {x y : Byte} (h0 : m.readByte a = .ok x)
    (h1 : m.readByte (a + 1) = .ok y) : m.readHalf little a = .ok (if little then y ++ x else x ++ y) := by
  rw [Memory.readHalf, h0, h1]
  rfl

theorem Memory.readHalf_of_unwritten {m : Memory} {little : Bool} {a n : Nat} (hn : n < 2)
    (hbefore : ∀ j, j < n → ∃ b, m.readByte (a + j) = .ok b) (hat : ∃ e, m.readByte (a + n) = .error e) :
    m.readHalf little a = .error (a + n) := by
  obtain ⟨e, he⟩ := hat
  cases Memory.readByte_eq_error he
  obtain rfl | rfl : n = 0 ∨ n = 1 := by omega
  · rw [Memory.readHalf, show m.readByte a = _ from he]
    rfl
  · obtain ⟨x, hx⟩ := hbefore 0 (by omega)
    rw [Memory.readHalf, show m.readByte a = _ from hx, he]
    rfl

/-- The first byte that nothing has written stops the read of a word, whichever half it lies in. -/
theorem Memory.readWord_of_unwritten {m : Memory} {little : Bool} {a n : Nat} (hn : n < 4)
    (hbefore : ∀ j, j < n → ∃ b, m.readByte (a + j) = .ok b) (hat : ∃ e, m.readByte (a + n) = .error e) :
    m.readWord little a = .error (a + n) := by
  rcases Nat.lt_or_ge n 2 with h | h
  · rw [Memory.readWord, Memory.readHalf_of_unwritten h hbefore hat]
    rfl
  · obtain ⟨x, hx⟩ := hbefore 0 (by omega)
    obtain ⟨y, hy⟩ := hbefore 1 (by omega)
    obtain ⟨j, rfl⟩ : ∃ j, n = 2 + j := ⟨n - 2, by omega⟩
    have hupper : m.readHalf little (a + 2) = .error (a + 2 + j) :=
      Memory.readHalf_of_unwritten (by omega) (fun i hi => Nat.add_assoc a 2 i ▸ hbefore (2 + i) (by omega))
        (Nat.add_assoc a 2 j ▸ hat)
    rw [Memory.readWord, Memory.readHalf_of_written little (a := a) hx hy, hupper, Nat.add_assoc]
    rfl

/-! ### The fetch (20_memory.md R287, R301) -/

/-- The target a stopped fetch reports. -/
def fetchTarget (s : State) : Target := ⟨fetchVa s, fetchAsi s, false⟩

theorem amMask_amMask (s : State) (x : Word64) : amMask s (amMask s x) = amMask s x := by
  unfold amMask
  split
  next => exact BitVec.eq_of_toNat_eq (by simp)
  next => rfl

/-- The address a stopped fetch reports is the one fetched from: masking it again is to no effect. -/
theorem faultAddress_fetchTarget (s : State) : faultAddress s (fetchTarget s) = fetchVa s := by
  have hkind : (asiInfo (fetchTarget s).asi).kind = .translating := by
    unfold fetchTarget fetchAsi
    split <;> rfl
  rw [faultAddress, hkind]
  exact amMask_amMask s s.pc

theorem withFetch_of_stop {s : State} {stop : AccessStop} (k : State → Word32 → Outcome)
    (h : fetchAddress s = .error stop) : withFetch s k = stopAccess s (fetchTarget s) stop := by
  rw [withFetch, h]
  rfl

section
variable {s : State} {ra : Nat} (k : State → Word32 → Outcome) (h : fetchAddress s = .ok ra)
include h

theorem withFetch_of_address :
    withFetch s k = withRead ((readView s ra 4).readWord false ra) (k (seen s ra 4)) := by
  rw [withFetch, h, ← afterRead_eq_seen]

/-- The word whose bytes the fetch sees is the one gone on with. -/
theorem withFetch_of_sees {w : Word32} (hw : Sees s ra 4 false (w.setWidth 64)) :
    withFetch s k = k (seen s ra 4) w := by
  rw [withFetch_of_address k h, readWord_of_sees hw, withRead_ok, BitVec.setWidth_setWidth_of_le _ (by decide),
    BitVec.setWidth_eq]

/-- The first byte that nothing has written stops the fetch. -/
theorem withFetch_of_unwritten {n : Nat} (hn : n < 4) (hbefore : ∀ j, j < n → ∃ b, byteSeen s ra 4 (ra + j) = .ok b)
    (hat : ∃ a, byteSeen s ra 4 (ra + n) = .error a) : withFetch s k = .fault (.unwrittenMemory (ra + n)) := by
  have hbyte (j : Nat) (hj : j < 4) : (readView s ra 4).readByte (ra + j) = byteSeen s ra 4 (ra + j) :=
    readByte_readView_eq_byteSeen (by omega) (by omega)
  have hword : (readView s ra 4).readWord false ra = .error (ra + n) :=
    Memory.readWord_of_unwritten hn (fun j hj => hbyte j (by omega) ▸ hbefore j hj) (hbyte n hn ▸ hat)
  rw [withFetch_of_address k h, hword]
  rfl

end

/-! ### What stops a fetch (20_memory.md R287) -/

section
variable {s : State}

theorem fetchAddress_of_watched (h : s.insnWatch = some (fetchVa s)) :
    fetchAddress s = .error (.exception .instructionVaWatchpoint) :=
  if_pos (by simp [insnWatchHit, h])

variable (hw : s.insnWatch ≠ some (fetchVa s))
include hw

theorem fetchAddress_of_mmu {ev : MmuEvent} (h : translate s (fetchContext s) (fetchVa s) = .error ev) :
    fetchAddress s = .error (.mmu ev) := by
  rw [fetchAddress, if_neg (by simpa [insnWatchHit] using hw), h]

variable {ra : Nat} {a : PageAttr} (h : translate s (fetchContext s) (fetchVa s) = .ok ⟨ra, a⟩)
include h

theorem fetchAddress_of_page {e : Exception} (hc : checkFetch s a = some e) :
    fetchAddress s = .error (.exception e) := by
  rw [fetchAddress, if_neg (by simpa [insnWatchHit] using hw), h]
  simp only [hc]

theorem fetchAddress_of_passed (hc : checkFetch s a = none) : fetchAddress s = .ok ra := by
  rw [fetchAddress, if_neg (by simpa [insnWatchHit] using hw), h]
  simp only [hc]

end

/-! ### The word (60_exceptions.md R1585; 30_encoding.md R360) -/

theorem runWord_of_decode {s : State} {w : Word32} {i : Instr} (h : decode w = .ok i) :
    runWord s w = commit s (exec i s) := by
  rw [runWord, h]

/-- A word that does not decode leaves; at the default of PERF_ASRS the words of ASRs 16 and 17 too (log 14). -/
theorem runWord_of_undecoded {s : State} {w : Word32} {r : DecodeReject} (h : decode w = .error r) :
    runWord s w = .fault (.exitToHyperprivileged (.trap 0x010) s.pc s.npc none) := by
  rw [runWord, h]
  exact raiseAt_eq_fault (e := .illegalInstruction) (.inl rfl)

theorem commit_of_none {s : State} (o : Outcome) (h : pendingDisrupting s = none) : commit s o = o := by
  rw [commit, h]
  exact ite_self o

theorem commit_of_pending {s : State} {d : Exception} (o : Outcome) (h : pendingDisrupting s = some d) :
    commit s o = if gaveException o then o else .next (takeTrap s d.tt) := by
  rw [commit, h]

/-! ### The step (60_exceptions.md R1585) -/

theorem step_of_invalid {s : State} (hp : s.priv = false) (hl : s.tl ≠ 0) : step s = .refused .invalidState :=
  if_pos (by simp [invalidState, hp, hl])

section
variable {s : State} (hs : s.priv = true ∨ s.tl = 0)
include hs

theorem step_of_valid : step s = withFetch (advanceEnvironment s) runWord := by
  apply if_neg
  rcases hs with h | h <;> simp [invalidState, h]

variable {e : State} (he : advanceEnvironment s = e)
include he

theorem step_of_stop {stop : AccessStop} (h : fetchAddress e = .error stop) :
    step s = stopAccess e (fetchTarget e) stop := by
  rw [step_of_valid hs, he, withFetch_of_stop _ h]

/-- A stop of the fetch that privileged mode does not take leaves, with the address and the ASI of the fetch. -/
theorem step_leaves_of_exception {x : Exception} (h : fetchAddress e = .error (.exception x))
    (hx : x.toPrivileged = false ∨ e.tl = 2) :
    step s = .fault (.exitToHyperprivileged (.trap x.tt) e.pc e.npc (some ⟨fetchVa e, fetchAsi e⟩)) := by
  rw [step_of_stop hs he h, stopAccess, raiseAt_eq_fault hx, faultAddress_fetchTarget]
  rfl

theorem step_leaves_of_mmu {ev : MmuEvent} (h : fetchAddress e = .error (.mmu ev)) :
    step s = .fault (.exitToHyperprivileged (.mmu ev) e.pc e.npc (some ⟨fetchVa e, fetchAsi e⟩)) := by
  rw [step_of_stop hs he h, stopAccess, faultAddress_fetchTarget]
  rfl

/-- The watchpoint traps below trap level 2. -/
theorem step_of_watched (h : e.insnWatch = some (fetchVa e)) :
    if e.tl.val < 2 then step s = .next (takeTrap e 0x075)
    else step s = .fault (.exitToHyperprivileged (.trap 0x075) e.pc e.npc (some ⟨fetchVa e, fetchAsi e⟩)) := by
  have hstop := fetchAddress_of_watched h
  split
  next hl => exact (step_of_stop hs he hstop).trans (raiseAt_eq_next_iff.2 ⟨rfl, hl, rfl⟩)
  next hl =>
    have hmax : e.tl.val = 2 := by omega
    exact step_leaves_of_exception hs he hstop (.inr (Fin.ext hmax))

/-- The page's checks in their order. -/
theorem step_of_page (hw : e.insnWatch ≠ some (fetchVa e)) {ra : Nat} {a : PageAttr}
    (h : translate e (fetchContext e) (fetchVa e) = .ok ⟨ra, a⟩) :
    let leaves (tt : BitVec 9) : Prop :=
      step s = .fault (.exitToHyperprivileged (.trap tt) e.pc e.npc (some ⟨fetchVa e, fetchAsi e⟩))
    (a.p = true ∧ e.priv = false → leaves 0x008)
    ∧ (¬(a.p = true ∧ e.priv = false) →
      (a.ep = false → leaves 0x00B)
      ∧ (a.ep = true → (a.nfo = true → leaves 0x00C) ∧ (a.nfo = false → fetchAddress e = .ok ra))) := by
  intro leaves
  have stops {x : Exception} (hc : checkFetch e a = some x) (hx : x.toPrivileged = false) : leaves x.tt :=
    step_leaves_of_exception hs he (fetchAddress_of_page hw h hc) (.inl hx)
  refine ⟨fun hp => stops (x := .iaePrivilegeViolation) ?privilege rfl, fun hp =>
    ⟨fun hep => stops (x := .iaeUnauthAccess) ?unauthorized rfl, fun hep =>
      ⟨fun hn => stops (x := .iaeNfoPage) ?noFault rfl, fun hn => fetchAddress_of_passed hw h ?passed⟩⟩⟩
  case privilege => simp [checkFetch, hp]
  all_goals
    have hpass : (a.p && !e.priv) = false := by simpa using hp
    simp [checkFetch, *]

end

/-- Settles O55: the step is the environment's advance, then the fetch, then the word; each of the three by its lemmas. -/
theorem stepRunsDecoded : Obligations.StepRunsDecoded := by
  refine ⟨?word, ?stops, fun s hp hl => step_of_invalid hp hl, ?environment⟩
  case word =>
    intro s ra w hs e f hra
    refine ⟨fun hw => ?fetched, fun k hk hbefore hat =>
      (step_of_valid hs).trans (withFetch_of_unwritten _ hra hk hbefore hat)⟩
    have hstep : step s = runWord f w := (step_of_valid hs).trans (withFetch_of_sees _ hra hw)
    refine ⟨fun i hi => ?decoded, fun r hr => hstep.trans (runWord_of_undecoded hr)⟩
    have hcommit : step s = commit f (exec i f) := hstep.trans (runWord_of_decode hi)
    exact ⟨fun hn => hcommit.trans (commit_of_none _ hn), fun d hd => hcommit.trans (commit_of_pending _ hd)⟩
  case stops =>
    intro s hs e va
    have hva : va = fetchVa e := (amMask_eq e e.pc).symm
    rw [hva]
    exact ⟨step_of_watched hs rfl, fun hw => ⟨fun ev h => step_leaves_of_mmu hs rfl (fetchAddress_of_mmu hw h),
      fun ra a h => step_of_page hs rfl hw h⟩⟩
  case environment =>
    intro s e
    refine ⟨advanceEnvironment_frame s, fun hquiet => ?quiet, fun i rest hin => ?input⟩
    case quiet =>
      rw [show e = _ from advanceEnvironment_of_quiet hquiet]
      exact ⟨advanceCounter_counter _ _, advanceCounter_counter _ _, rfl, rfl, rfl, rfl⟩
    case input =>
      rw [show e = _ from advanceEnvironment_of_input hin]
      refine ⟨rfl, fun a ha => Memory.readByte_writeBytes_ne s.mem fun c hc => (ha c hc).symm, fun l a b hl => ?_⟩
      rw [applyInput_mem, hl]
      exact Memory.readByte_writeBytes_last s.mem l a b

end Sys2Proof.Machine

/-! SUPPORT. The state after reset: it meets the invariant, and it is one that may be handed to the machine (70_reset_and_hazards.md R1751, R1752). -/

namespace Sys2Proof.Machine

theorem entry_aligned : Config.entry.extractLsb' 0 2 = 0 := by decide

/-- A queue that nothing has moved has both its pointers at 0, so bits 5:0 of both are 0. -/
theorem Queue.empty_aligned : Queue.empty.head.extractLsb' 0 6 = 0 ∧ Queue.empty.tail.extractLsb' 0 6 = 0 :=
  ⟨BitVec.extractLsb'_zero, BitVec.extractLsb'_zero⟩

/-- What has bits after reset, PSTATE and FSR's `ver`, has them where they may be; a register that is 0 has no reserved bit, an empty memory no address out of order. -/
theorem State.reset_inv : State.reset.Inv where
  pcAligned := entry_aligned
  npcAligned := low_bits_add_four entry_aligned
  pstateReserved := by decide
  fsrReserved := by decide
  gsrReserved := BitVec.zero_and
  tstate1Reserved := BitVec.zero_and
  tstate2Reserved := BitVec.zero_and
  cpuMondoHead := Queue.empty_aligned.1
  cpuMondoTail := Queue.empty_aligned.2
  devMondoHead := Queue.empty_aligned.1
  devMondoTail := Queue.empty_aligned.2
  resErrorHead := Queue.empty_aligned.1
  resErrorTail := Queue.empty_aligned.2
  nonresErrorHead := Queue.empty_aligned.1
  nonresErrorTail := Queue.empty_aligned.2
  memoryForm := rfl

theorem State.reset_priv : State.reset.priv = true := rfl

theorem State.reset_tct : State.reset.tct = false := rfl

/-- After reset one window is in use, and CANSAVE counts all that can be saved into. -/
theorem State.reset_windowsConsistent : State.reset.WindowsConsistent where
  cansaveBound := le_refl 6
  canrestoreBound := Nat.zero_le 6
  otherwinBound := Nat.zero_le 6
  sum := rfl
  clean := Nat.zero_le 7

theorem State.reset_wellFormed : State.reset.WellFormed where
  inv := State.reset_inv
  privilegedInTrap := .inl State.reset_priv
  windows := State.reset_windowsConsistent
  tctOnlyIfImplemented h := absurd (State.reset_tct.symm.trans h) Bool.false_ne_true

/-- Settles O56: register by register, from the values reset gives. -/
theorem resetInvariant : Obligations.ResetInvariant := ⟨State.reset_inv, State.reset_wellFormed⟩

end Sys2Proof.Machine
